-- ==== Sys2Proof/Word.lean ====
section
/-! DEFINITION. The word types of the machine (20_memory.md R102). -/
namespace Sys2Proof

/-- A byte, the smallest addressable unit. -/
abbrev Byte := BitVec 8
/-- A word: two bytes. -/
abbrev Word := BitVec 16
/-- A doubleword: four bytes. -/
abbrev Dword := BitVec 32

end Sys2Proof
end

