-- ==== Sys2Proof/Syntax.lean ====
section
/-! DEFINITION. Abstract syntax of the 80386 instruction set: registers, operand forms, and ONE inductive `Instr`
with one constructor for each of the 310 rows of spec/opcode_table.json (spec/30_encoding.md R211, R230 to R235). -/
namespace Sys2Proof

/-- Operand width: byte, word, doubleword (20_memory.md R102). -/
inductive Size where
  | b | w | d
deriving DecidableEq, Repr

/-- Width in bits. -/
abbrev Size.bits : Size → Nat
  | .b => 8
  | .w => 16
  | .d => 32

/-- Width in bytes. -/
abbrev Size.bytes : Size → Nat
  | .b => 1
  | .w => 2
  | .d => 4

/-- The two size attributes one instruction executes with (R205, R206): true means 32 bits. -/
structure Attrs where
  /-- operand-size attribute is 32 -/
  o32 : Bool
  /-- address-size attribute is 32 -/
  a32 : Bool
deriving DecidableEq, Repr

/-- The eight register codes of R212 in code order 000 to 111, named by their 16-bit register.
As a byte operand the last four codes name AH, CH, DH, BH. -/
inductive Reg where
  | ax | cx | dx | bx | sp | bp | si | di
deriving DecidableEq, Repr

/-- The six segment registers, in the code order of R212. -/
inductive SReg where
  | es | cs | ss | ds | fs | gs
deriving DecidableEq, Repr

/-- Scale factors of a SIB index (R214). -/
inductive Scale where
  | x1 | x2 | x4 | x8
deriving DecidableEq, Repr

/-- Register terms of a 16-bit address (R215); `none` is the displacement alone. -/
inductive Base16 where
  | bxsi | bxdi | bpsi | bpdi | si | di | bp | bx | none
deriving DecidableEq, Repr

/-- A memory addressing form: 32-bit (R213, R214) or 16-bit (R215). -/
inductive Mem where
  | a32 (base : Option Reg) (index : Option (Reg × Scale)) (disp : BitVec 32)
  | a16 (base : Base16) (disp : BitVec 16)
deriving DecidableEq, Repr

/-- The `r/m` operand of a ModR/M byte: a register code or a memory form (R210). -/
inductive Rm where
  | reg (r : Reg)
  | mem (m : Mem)
deriving DecidableEq, Repr

/-- The sixteen conditions of R233, in the order of their codes 0 to F. -/
inductive Cond where
  | o | no | b | nb | e | ne | be | nbe | s | ns | p | np | l | nl | le | nle
deriving DecidableEq, Repr

/-- One constructor per row of spec/opcode_table.json; the suffix spells the row's operand format in the letters of R211.
A `v` immediate, displacement or offset is held zero-extended in 32 bits. A raw `BitVec 3` is a ModR/M `reg` field whose
undefined codes the instruction's own rule checks (segment, control, debug and test register numbers; R212). Rows with operands stand first, in table order, then the rows
without. -/
inductive Instr where
  /-- ADD Eb,Gb (00/FF; R291) -/
  | addEbGb (rm : Rm) (r : Reg)
  /-- ADD Ev,Gv (01/FF; R291) -/
  | addEvGv (rm : Rm) (r : Reg)
  /-- ADD Gb,Eb (02/FF; R291) -/
  | addGbEb (r : Reg) (rm : Rm)
  /-- ADD Gv,Ev (03/FF; R291) -/
  | addGvEv (r : Reg) (rm : Rm)
  /-- ADD AL,Ib (04/FF; R291) -/
  | addAlIb (imm : BitVec 8)
  /-- ADD eAX,Iv (05/FF; R291) -/
  | addEaxIv (imm : BitVec 32)
  /-- OR Eb,Gb (08/FF; R332) -/
  | orEbGb (rm : Rm) (r : Reg)
  /-- OR Ev,Gv (09/FF; R332) -/
  | orEvGv (rm : Rm) (r : Reg)
  /-- OR Gb,Eb (0A/FF; R332) -/
  | orGbEb (r : Reg) (rm : Rm)
  /-- OR Gv,Ev (0B/FF; R332) -/
  | orGvEv (r : Reg) (rm : Rm)
  /-- OR AL,Ib (0C/FF; R332) -/
  | orAlIb (imm : BitVec 8)
  /-- OR eAX,Iv (0D/FF; R332) -/
  | orEaxIv (imm : BitVec 32)
  /-- ADC Eb,Gb (10/FF; R292) -/
  | adcEbGb (rm : Rm) (r : Reg)
  /-- ADC Ev,Gv (11/FF; R292) -/
  | adcEvGv (rm : Rm) (r : Reg)
  /-- ADC Gb,Eb (12/FF; R292) -/
  | adcGbEb (r : Reg) (rm : Rm)
  /-- ADC Gv,Ev (13/FF; R292) -/
  | adcGvEv (r : Reg) (rm : Rm)
  /-- ADC AL,Ib (14/FF; R292) -/
  | adcAlIb (imm : BitVec 8)
  /-- ADC eAX,Iv (15/FF; R292) -/
  | adcEaxIv (imm : BitVec 32)
  /-- SBB Eb,Gb (18/FF; R295) -/
  | sbbEbGb (rm : Rm) (r : Reg)
  /-- SBB Ev,Gv (19/FF; R295) -/
  | sbbEvGv (rm : Rm) (r : Reg)
  /-- SBB Gb,Eb (1A/FF; R295) -/
  | sbbGbEb (r : Reg) (rm : Rm)
  /-- SBB Gv,Ev (1B/FF; R295) -/
  | sbbGvEv (r : Reg) (rm : Rm)
  /-- SBB AL,Ib (1C/FF; R295) -/
  | sbbAlIb (imm : BitVec 8)
  /-- SBB eAX,Iv (1D/FF; R295) -/
  | sbbEaxIv (imm : BitVec 32)
  /-- AND Eb,Gb (20/FF; R331) -/
  | andEbGb (rm : Rm) (r : Reg)
  /-- AND Ev,Gv (21/FF; R331) -/
  | andEvGv (rm : Rm) (r : Reg)
  /-- AND Gb,Eb (22/FF; R331) -/
  | andGbEb (r : Reg) (rm : Rm)
  /-- AND Gv,Ev (23/FF; R331) -/
  | andGvEv (r : Reg) (rm : Rm)
  /-- AND AL,Ib (24/FF; R331) -/
  | andAlIb (imm : BitVec 8)
  /-- AND eAX,Iv (25/FF; R331) -/
  | andEaxIv (imm : BitVec 32)
  /-- SUB Eb,Gb (28/FF; R294) -/
  | subEbGb (rm : Rm) (r : Reg)
  /-- SUB Ev,Gv (29/FF; R294) -/
  | subEvGv (rm : Rm) (r : Reg)
  /-- SUB Gb,Eb (2A/FF; R294) -/
  | subGbEb (r : Reg) (rm : Rm)
  /-- SUB Gv,Ev (2B/FF; R294) -/
  | subGvEv (r : Reg) (rm : Rm)
  /-- SUB AL,Ib (2C/FF; R294) -/
  | subAlIb (imm : BitVec 8)
  /-- SUB eAX,Iv (2D/FF; R294) -/
  | subEaxIv (imm : BitVec 32)
  /-- XOR Eb,Gb (30/FF; R333) -/
  | xorEbGb (rm : Rm) (r : Reg)
  /-- XOR Ev,Gv (31/FF; R333) -/
  | xorEvGv (rm : Rm) (r : Reg)
  /-- XOR Gb,Eb (32/FF; R333) -/
  | xorGbEb (r : Reg) (rm : Rm)
  /-- XOR Gv,Ev (33/FF; R333) -/
  | xorGvEv (r : Reg) (rm : Rm)
  /-- XOR AL,Ib (34/FF; R333) -/
  | xorAlIb (imm : BitVec 8)
  /-- XOR eAX,Iv (35/FF; R333) -/
  | xorEaxIv (imm : BitVec 32)
  /-- CMP Eb,Gb (38/FF; R297) -/
  | cmpEbGb (rm : Rm) (r : Reg)
  /-- CMP Ev,Gv (39/FF; R297) -/
  | cmpEvGv (rm : Rm) (r : Reg)
  /-- CMP Gb,Eb (3A/FF; R297) -/
  | cmpGbEb (r : Reg) (rm : Rm)
  /-- CMP Gv,Ev (3B/FF; R297) -/
  | cmpGvEv (r : Reg) (rm : Rm)
  /-- CMP AL,Ib (3C/FF; R297) -/
  | cmpAlIb (imm : BitVec 8)
  /-- CMP eAX,Iv (3D/FF; R297) -/
  | cmpEaxIv (imm : BitVec 32)
  /-- ADD Eb,Ib (80/FF 00/38; R291) -/
  | addEbIb (rm : Rm) (imm : BitVec 8)
  /-- ADD Ev,Iv (81/FF 00/38; R291) -/
  | addEvIv (rm : Rm) (imm : BitVec 32)
  /-- ADD Ev,Ib (83/FF 00/38; R291) -/
  | addEvIb (rm : Rm) (imm : BitVec 8)
  /-- OR Eb,Ib (80/FF 08/38; R332) -/
  | orEbIb (rm : Rm) (imm : BitVec 8)
  /-- OR Ev,Iv (81/FF 08/38; R332) -/
  | orEvIv (rm : Rm) (imm : BitVec 32)
  /-- OR Ev,Ib (83/FF 08/38; R332) -/
  | orEvIb (rm : Rm) (imm : BitVec 8)
  /-- ADC Eb,Ib (80/FF 10/38; R292) -/
  | adcEbIb (rm : Rm) (imm : BitVec 8)
  /-- ADC Ev,Iv (81/FF 10/38; R292) -/
  | adcEvIv (rm : Rm) (imm : BitVec 32)
  /-- ADC Ev,Ib (83/FF 10/38; R292) -/
  | adcEvIb (rm : Rm) (imm : BitVec 8)
  /-- SBB Eb,Ib (80/FF 18/38; R295) -/
  | sbbEbIb (rm : Rm) (imm : BitVec 8)
  /-- SBB Ev,Iv (81/FF 18/38; R295) -/
  | sbbEvIv (rm : Rm) (imm : BitVec 32)
  /-- SBB Ev,Ib (83/FF 18/38; R295) -/
  | sbbEvIb (rm : Rm) (imm : BitVec 8)
  /-- AND Eb,Ib (80/FF 20/38; R331) -/
  | andEbIb (rm : Rm) (imm : BitVec 8)
  /-- AND Ev,Iv (81/FF 20/38; R331) -/
  | andEvIv (rm : Rm) (imm : BitVec 32)
  /-- AND Ev,Ib (83/FF 20/38; R331) -/
  | andEvIb (rm : Rm) (imm : BitVec 8)
  /-- SUB Eb,Ib (80/FF 28/38; R294) -/
  | subEbIb (rm : Rm) (imm : BitVec 8)
  /-- SUB Ev,Iv (81/FF 28/38; R294) -/
  | subEvIv (rm : Rm) (imm : BitVec 32)
  /-- SUB Ev,Ib (83/FF 28/38; R294) -/
  | subEvIb (rm : Rm) (imm : BitVec 8)
  /-- XOR Eb,Ib (80/FF 30/38; R333) -/
  | xorEbIb (rm : Rm) (imm : BitVec 8)
  /-- XOR Ev,Iv (81/FF 30/38; R333) -/
  | xorEvIv (rm : Rm) (imm : BitVec 32)
  /-- XOR Ev,Ib (83/FF 30/38; R333) -/
  | xorEvIb (rm : Rm) (imm : BitVec 8)
  /-- CMP Eb,Ib (80/FF 38/38; R297) -/
  | cmpEbIb (rm : Rm) (imm : BitVec 8)
  /-- CMP Ev,Iv (81/FF 38/38; R297) -/
  | cmpEvIv (rm : Rm) (imm : BitVec 32)
  /-- CMP Ev,Ib (83/FF 38/38; R297) -/
  | cmpEvIb (rm : Rm) (imm : BitVec 8)
  /-- AAM Ib (D4/FF; R326) -/
  | aam (imm : BitVec 8)
  /-- AAD Ib (D5/FF; R327) -/
  | aad (imm : BitVec 8)
  /-- INC r16/r32 (40/F8; R293) -/
  | incReg (r : Reg)
  /-- DEC r16/r32 (48/F8; R296) -/
  | decReg (r : Reg)
  /-- PUSH r16/r32 (50/F8; R263) -/
  | pushReg (r : Reg)
  /-- POP r16/r32 (58/F8; R264) -/
  | popReg (r : Reg)
  /-- BOUND Gv,Ma (62/FF; R388) -/
  | boundGvMa (r : Reg) (rm : Rm)
  /-- ARPL Ew,Gw (63/FF; R540) -/
  | arplEwGw (rm : Rm) (r : Reg)
  /-- PUSH Iv (68/FF; R263) -/
  | pushIv (imm : BitVec 32)
  /-- IMUL Gv,Ev,Iv (69/FF; R303) -/
  | imulGvEvIv (r : Reg) (rm : Rm) (imm : BitVec 32)
  /-- PUSH Ib (6A/FF; R263) -/
  | pushIb (imm : BitVec 8)
  /-- IMUL Gv,Ev,Ib (6B/FF; R303) -/
  | imulGvEvIb (r : Reg) (rm : Rm) (imm : BitVec 8)
  /-- Jcc Jb (70/F0; R374) -/
  | jccJb (cc : Cond) (imm : BitVec 8)
  /-- TEST Eb,Gb (84/FF; R335) -/
  | testEbGb (rm : Rm) (r : Reg)
  /-- TEST Ev,Gv (85/FF; R335) -/
  | testEvGv (rm : Rm) (r : Reg)
  /-- XCHG Eb,Gb (86/FF; R262) -/
  | xchgEbGb (rm : Rm) (r : Reg)
  /-- XCHG Ev,Gv (87/FF; R262) -/
  | xchgEvGv (rm : Rm) (r : Reg)
  /-- MOV Eb,Gb (88/FF; R261) -/
  | movEbGb (rm : Rm) (r : Reg)
  /-- MOV Ev,Gv (89/FF; R261) -/
  | movEvGv (rm : Rm) (r : Reg)
  /-- MOV Gb,Eb (8A/FF; R261) -/
  | movGbEb (r : Reg) (rm : Rm)
  /-- MOV Gv,Ev (8B/FF; R261) -/
  | movGvEv (r : Reg) (rm : Rm)
  /-- MOV Ew,Sw (8C/FF; R451) -/
  | movEwSw (rm : Rm) (n : BitVec 3)
  /-- LEA Gv,M (8D/FF; R444) -/
  | leaGvM (r : Reg) (rm : Rm)
  /-- MOV Sw,Ew (8E/FF; R451) -/
  | movSwEw (n : BitVec 3) (rm : Rm)
  /-- POP Ev (8F/FF 00/38; R264) -/
  | popEv (rm : Rm)
  /-- XCHG eAX,r16/r32 (90/F8; R262) -/
  | xchgEaxReg (r : Reg)
  /-- CALL Ap (far direct) (9A/FF; R465) -/
  | callFarAp (off : BitVec 32) (sel : BitVec 16)
  /-- MOV AL,Ob (A0/FF; R261) -/
  | movAlOb (off : BitVec 32)
  /-- MOV eAX,Ov (A1/FF; R261) -/
  | movEaxOv (off : BitVec 32)
  /-- MOV Ob,AL (A2/FF; R261) -/
  | movObAl (off : BitVec 32)
  /-- MOV Ov,eAX (A3/FF; R261) -/
  | movOvEax (off : BitVec 32)
  /-- TEST AL,Ib (A8/FF; R335) -/
  | testAlIb (imm : BitVec 8)
  /-- TEST eAX,Iv (A9/FF; R335) -/
  | testEaxIv (imm : BitVec 32)
  /-- MOV r8,Ib (B0/F8; R261) -/
  | movR8Ib (r : Reg) (imm : BitVec 8)
  /-- MOV r16/r32,Iv (B8/F8; R261) -/
  | movRegIv (r : Reg) (imm : BitVec 32)
  /-- ROL Eb,Ib (C0/FF 00/38; R350) -/
  | rolEbIb (rm : Rm) (imm : BitVec 8)
  /-- ROL Ev,Ib (C1/FF 00/38; R350) -/
  | rolEvIb (rm : Rm) (imm : BitVec 8)
  /-- ROL Eb,1 (D0/FF 00/38; R350) -/
  | rolEb1 (rm : Rm)
  /-- ROL Ev,1 (D1/FF 00/38; R350) -/
  | rolEv1 (rm : Rm)
  /-- ROL Eb,CL (D2/FF 00/38; R350) -/
  | rolEbCl (rm : Rm)
  /-- ROL Ev,CL (D3/FF 00/38; R350) -/
  | rolEvCl (rm : Rm)
  /-- ROR Eb,Ib (C0/FF 08/38; R351) -/
  | rorEbIb (rm : Rm) (imm : BitVec 8)
  /-- ROR Ev,Ib (C1/FF 08/38; R351) -/
  | rorEvIb (rm : Rm) (imm : BitVec 8)
  /-- ROR Eb,1 (D0/FF 08/38; R351) -/
  | rorEb1 (rm : Rm)
  /-- ROR Ev,1 (D1/FF 08/38; R351) -/
  | rorEv1 (rm : Rm)
  /-- ROR Eb,CL (D2/FF 08/38; R351) -/
  | rorEbCl (rm : Rm)
  /-- ROR Ev,CL (D3/FF 08/38; R351) -/
  | rorEvCl (rm : Rm)
  /-- RCL Eb,Ib (C0/FF 10/38; R352) -/
  | rclEbIb (rm : Rm) (imm : BitVec 8)
  /-- RCL Ev,Ib (C1/FF 10/38; R352) -/
  | rclEvIb (rm : Rm) (imm : BitVec 8)
  /-- RCL Eb,1 (D0/FF 10/38; R352) -/
  | rclEb1 (rm : Rm)
  /-- RCL Ev,1 (D1/FF 10/38; R352) -/
  | rclEv1 (rm : Rm)
  /-- RCL Eb,CL (D2/FF 10/38; R352) -/
  | rclEbCl (rm : Rm)
  /-- RCL Ev,CL (D3/FF 10/38; R352) -/
  | rclEvCl (rm : Rm)
  /-- RCR Eb,Ib (C0/FF 18/38; R353) -/
  | rcrEbIb (rm : Rm) (imm : BitVec 8)
  /-- RCR Ev,Ib (C1/FF 18/38; R353) -/
  | rcrEvIb (rm : Rm) (imm : BitVec 8)
  /-- RCR Eb,1 (D0/FF 18/38; R353) -/
  | rcrEb1 (rm : Rm)
  /-- RCR Ev,1 (D1/FF 18/38; R353) -/
  | rcrEv1 (rm : Rm)
  /-- RCR Eb,CL (D2/FF 18/38; R353) -/
  | rcrEbCl (rm : Rm)
  /-- RCR Ev,CL (D3/FF 18/38; R353) -/
  | rcrEvCl (rm : Rm)
  /-- SHL_SAL Eb,Ib (C0/FF 20/38; R344) -/
  | shlEbIb (rm : Rm) (imm : BitVec 8)
  /-- SHL_SAL Ev,Ib (C1/FF 20/38; R344) -/
  | shlEvIb (rm : Rm) (imm : BitVec 8)
  /-- SHL_SAL Eb,1 (D0/FF 20/38; R344) -/
  | shlEb1 (rm : Rm)
  /-- SHL_SAL Ev,1 (D1/FF 20/38; R344) -/
  | shlEv1 (rm : Rm)
  /-- SHL_SAL Eb,CL (D2/FF 20/38; R344) -/
  | shlEbCl (rm : Rm)
  /-- SHL_SAL Ev,CL (D3/FF 20/38; R344) -/
  | shlEvCl (rm : Rm)
  /-- SHR Eb,Ib (C0/FF 28/38; R345) -/
  | shrEbIb (rm : Rm) (imm : BitVec 8)
  /-- SHR Ev,Ib (C1/FF 28/38; R345) -/
  | shrEvIb (rm : Rm) (imm : BitVec 8)
  /-- SHR Eb,1 (D0/FF 28/38; R345) -/
  | shrEb1 (rm : Rm)
  /-- SHR Ev,1 (D1/FF 28/38; R345) -/
  | shrEv1 (rm : Rm)
  /-- SHR Eb,CL (D2/FF 28/38; R345) -/
  | shrEbCl (rm : Rm)
  /-- SHR Ev,CL (D3/FF 28/38; R345) -/
  | shrEvCl (rm : Rm)
  /-- SAR Eb,Ib (C0/FF 38/38; R346) -/
  | sarEbIb (rm : Rm) (imm : BitVec 8)
  /-- SAR Ev,Ib (C1/FF 38/38; R346) -/
  | sarEvIb (rm : Rm) (imm : BitVec 8)
  /-- SAR Eb,1 (D0/FF 38/38; R346) -/
  | sarEb1 (rm : Rm)
  /-- SAR Ev,1 (D1/FF 38/38; R346) -/
  | sarEv1 (rm : Rm)
  /-- SAR Eb,CL (D2/FF 38/38; R346) -/
  | sarEbCl (rm : Rm)
  /-- SAR Ev,CL (D3/FF 38/38; R346) -/
  | sarEvCl (rm : Rm)
  /-- RET Iw (near) (C2/FF; R373) -/
  | retNearIw (imm : BitVec 16)
  /-- LES Gv,Mp (C4/FF; R454) -/
  | lesGvMp (r : Reg) (rm : Rm)
  /-- LDS Gv,Mp (C5/FF; R454) -/
  | ldsGvMp (r : Reg) (rm : Rm)
  /-- MOV Eb,Ib (C6/FF 00/38; R261) -/
  | movEbIb (rm : Rm) (imm : BitVec 8)
  /-- MOV Ev,Iv (C7/FF 00/38; R261) -/
  | movEvIv (rm : Rm) (imm : BitVec 32)
  /-- ENTER Iw,Ib (C8/FF; R420) -/
  | enter (imm : BitVec 16) (lvl : BitVec 8)
  /-- RET Iw (far) (CA/FF; R468) -/
  | retFarIw (imm : BitVec 16)
  /-- INT Ib (CD/FF; R385) -/
  | intIb (imm : BitVec 8)
  /-- ESC coprocessor opcode, E (D8/F8; R440) -/
  | esc (op : BitVec 3) (n : BitVec 3) (rm : Rm)
  /-- LOOPNE_LOOPNZ Jb (E0/FF; R383) -/
  | loopne (imm : BitVec 8)
  /-- LOOPE_LOOPZ Jb (E1/FF; R382) -/
  | loope (imm : BitVec 8)
  /-- LOOP Jb (E2/FF; R381) -/
  | loop (imm : BitVec 8)
  /-- JCXZ_JECXZ Jb (E3/FF; R384) -/
  | jcxz (imm : BitVec 8)
  /-- IN AL,Ib (E4/FF; R530) -/
  | inAlIb (imm : BitVec 8)
  /-- IN eAX,Ib (E5/FF; R530) -/
  | inEaxIb (imm : BitVec 8)
  /-- OUT Ib,AL (E6/FF; R531) -/
  | outIbAl (imm : BitVec 8)
  /-- OUT Ib,eAX (E7/FF; R531) -/
  | outIbEax (imm : BitVec 8)
  /-- CALL Jv (near relative) (E8/FF; R372) -/
  | callJv (imm : BitVec 32)
  /-- JMP Jv (near relative) (E9/FF; R371) -/
  | jmpJv (imm : BitVec 32)
  /-- JMP Ap (far direct) (EA/FF; R464) -/
  | jmpFarAp (off : BitVec 32) (sel : BitVec 16)
  /-- JMP Jb (short) (EB/FF; R371) -/
  | jmpJb (imm : BitVec 8)
  /-- TEST Eb,Ib (F6/FF 00/38; R335) -/
  | testEbIb (rm : Rm) (imm : BitVec 8)
  /-- TEST Ev,Iv (F7/FF 00/38; R335) -/
  | testEvIv (rm : Rm) (imm : BitVec 32)
  /-- NOT Eb (F6/FF 10/38; R334) -/
  | notEb (rm : Rm)
  /-- NOT Ev (F7/FF 10/38; R334) -/
  | notEv (rm : Rm)
  /-- NEG Eb (F6/FF 18/38; R298) -/
  | negEb (rm : Rm)
  /-- NEG Ev (F7/FF 18/38; R298) -/
  | negEv (rm : Rm)
  /-- MUL Eb (F6/FF 20/38; R300) -/
  | mulEb (rm : Rm)
  /-- MUL Ev (F7/FF 20/38; R300) -/
  | mulEv (rm : Rm)
  /-- IMUL Eb (F6/FF 28/38; R301) -/
  | imulEb (rm : Rm)
  /-- IMUL Ev (F7/FF 28/38; R301) -/
  | imulEv (rm : Rm)
  /-- DIV Eb (F6/FF 30/38; R304) -/
  | divEb (rm : Rm)
  /-- DIV Ev (F7/FF 30/38; R304) -/
  | divEv (rm : Rm)
  /-- IDIV Eb (F6/FF 38/38; R305) -/
  | idivEb (rm : Rm)
  /-- IDIV Ev (F7/FF 38/38; R305) -/
  | idivEv (rm : Rm)
  /-- INC Eb (FE/FF 00/38; R293) -/
  | incEb (rm : Rm)
  /-- DEC Eb (FE/FF 08/38; R296) -/
  | decEb (rm : Rm)
  /-- INC Ev (FF/FF 00/38; R293) -/
  | incEv (rm : Rm)
  /-- DEC Ev (FF/FF 08/38; R296) -/
  | decEv (rm : Rm)
  /-- CALL Ev (near indirect) (FF/FF 10/38; R372) -/
  | callNearEv (rm : Rm)
  /-- CALL Mp (far indirect) (FF/FF 18/38; R465) -/
  | callFarMp (rm : Rm)
  /-- JMP Ev (near indirect) (FF/FF 20/38; R371) -/
  | jmpNearEv (rm : Rm)
  /-- JMP Mp (far indirect) (FF/FF 28/38; R464) -/
  | jmpFarMp (rm : Rm)
  /-- PUSH Ev (FF/FF 30/38; R263) -/
  | pushEv (rm : Rm)
  /-- SLDT Ew (0F/FF 00/FF 00/38; R495) -/
  | sldtEw (rm : Rm)
  /-- STR Ew (0F/FF 00/FF 08/38; R497) -/
  | strEw (rm : Rm)
  /-- LLDT Ew (0F/FF 00/FF 10/38; R494) -/
  | lldtEw (rm : Rm)
  /-- LTR Ew (0F/FF 00/FF 18/38; R496) -/
  | ltrEw (rm : Rm)
  /-- VERR Ew (0F/FF 00/FF 20/38; R543) -/
  | verrEw (rm : Rm)
  /-- VERW Ew (0F/FF 00/FF 28/38; R544) -/
  | verwEw (rm : Rm)
  /-- SGDT Ms (0F/FF 01/FF 00/38; R491) -/
  | sgdtMs (rm : Rm)
  /-- SIDT Ms (0F/FF 01/FF 08/38; R493) -/
  | sidtMs (rm : Rm)
  /-- LGDT Ms (0F/FF 01/FF 10/38; R490) -/
  | lgdtMs (rm : Rm)
  /-- LIDT Ms (0F/FF 01/FF 18/38; R492) -/
  | lidtMs (rm : Rm)
  /-- SMSW Ew (0F/FF 01/FF 20/38; R499) -/
  | smswEw (rm : Rm)
  /-- LMSW Ew (0F/FF 01/FF 30/38; R498) -/
  | lmswEw (rm : Rm)
  /-- LAR Gv,Ew (0F/FF 02/FF; R541) -/
  | larGvEw (r : Reg) (rm : Rm)
  /-- LSL Gv,Ew (0F/FF 03/FF; R542) -/
  | lslGvEw (r : Reg) (rm : Rm)
  /-- MOV Rd,Cd (0F/FF 20/FF; R505) -/
  | movRdCd (r : Reg) (n : BitVec 3)
  /-- MOV Rd,Dd (0F/FF 21/FF; R506) -/
  | movRdDd (r : Reg) (n : BitVec 3)
  /-- MOV Cd,Rd (0F/FF 22/FF; R505) -/
  | movCdRd (n : BitVec 3) (r : Reg)
  /-- MOV Dd,Rd (0F/FF 23/FF; R506) -/
  | movDdRd (n : BitVec 3) (r : Reg)
  /-- MOV Rd,Td (0F/FF 24/FF; R507) -/
  | movRdTd (r : Reg) (n : BitVec 3)
  /-- MOV Td,Rd (0F/FF 26/FF; R507) -/
  | movTdRd (n : BitVec 3) (r : Reg)
  /-- Jcc Jv (0F/FF 80/F0; R374) -/
  | jccJv (cc : Cond) (imm : BitVec 32)
  /-- SETcc Eb (0F/FF 90/F0; R354) -/
  | setccEb (cc : Cond) (rm : Rm)
  /-- BT Ev,Gv (0F/FF A3/FF; R337) -/
  | btEvGv (rm : Rm) (r : Reg)
  /-- SHLD Ev,Gv,Ib (0F/FF A4/FF; R347) -/
  | shldEvGvIb (rm : Rm) (r : Reg) (imm : BitVec 8)
  /-- SHLD Ev,Gv,CL (0F/FF A5/FF; R347) -/
  | shldEvGvCl (rm : Rm) (r : Reg)
  /-- BTS Ev,Gv (0F/FF AB/FF; R338) -/
  | btsEvGv (rm : Rm) (r : Reg)
  /-- SHRD Ev,Gv,Ib (0F/FF AC/FF; R348) -/
  | shrdEvGvIb (rm : Rm) (r : Reg) (imm : BitVec 8)
  /-- SHRD Ev,Gv,CL (0F/FF AD/FF; R348) -/
  | shrdEvGvCl (rm : Rm) (r : Reg)
  /-- IMUL Gv,Ev (0F/FF AF/FF; R302) -/
  | imulGvEv (r : Reg) (rm : Rm)
  /-- LSS Gv,Mp (0F/FF B2/FF; R454) -/
  | lssGvMp (r : Reg) (rm : Rm)
  /-- BTR Ev,Gv (0F/FF B3/FF; R339) -/
  | btrEvGv (rm : Rm) (r : Reg)
  /-- LFS Gv,Mp (0F/FF B4/FF; R454) -/
  | lfsGvMp (r : Reg) (rm : Rm)
  /-- LGS Gv,Mp (0F/FF B5/FF; R454) -/
  | lgsGvMp (r : Reg) (rm : Rm)
  /-- MOVZX Gv,Eb (0F/FF B6/FF; R275) -/
  | movzxGvEb (r : Reg) (rm : Rm)
  /-- MOVZX Gd,Ew (0F/FF B7/FF; R275) -/
  | movzxGdEw (r : Reg) (rm : Rm)
  /-- BT Ev,Ib (0F/FF BA/FF 20/38; R337) -/
  | btEvIb (rm : Rm) (imm : BitVec 8)
  /-- BTS Ev,Ib (0F/FF BA/FF 28/38; R338) -/
  | btsEvIb (rm : Rm) (imm : BitVec 8)
  /-- BTR Ev,Ib (0F/FF BA/FF 30/38; R339) -/
  | btrEvIb (rm : Rm) (imm : BitVec 8)
  /-- BTC Ev,Ib (0F/FF BA/FF 38/38; R340) -/
  | btcEvIb (rm : Rm) (imm : BitVec 8)
  /-- BTC Ev,Gv (0F/FF BB/FF; R340) -/
  | btcEvGv (rm : Rm) (r : Reg)
  /-- BSF Gv,Ev (0F/FF BC/FF; R341) -/
  | bsfGvEv (r : Reg) (rm : Rm)
  /-- BSR Gv,Ev (0F/FF BD/FF; R342) -/
  | bsrGvEv (r : Reg) (rm : Rm)
  /-- MOVSX Gv,Eb (0F/FF BE/FF; R274) -/
  | movsxGvEb (r : Reg) (rm : Rm)
  /-- MOVSX Gd,Ew (0F/FF BF/FF; R274) -/
  | movsxGdEw (r : Reg) (rm : Rm)
  /-- PUSH ES (06/FF; R452) -/
  | pushEs
  /-- POP ES (07/FF; R453) -/
  | popEs
  /-- PUSH CS (0E/FF; R452) -/
  | pushCs
  /-- PUSH SS (16/FF; R452) -/
  | pushSs
  /-- POP SS (17/FF; R453) -/
  | popSs
  /-- PUSH DS (1E/FF; R452) -/
  | pushDs
  /-- POP DS (1F/FF; R453) -/
  | popDs
  /-- PUSH FS (0F/FF A0/FF; R452) -/
  | pushFs
  /-- POP FS (0F/FF A1/FF; R453) -/
  | popFs
  /-- PUSH GS (0F/FF A8/FF; R452) -/
  | pushGs
  /-- POP GS (0F/FF A9/FF; R453) -/
  | popGs
  /-- prefix_ES prefix (26/FF; R221) -/
  | prefixEs
  /-- prefix_CS prefix (2E/FF; R221) -/
  | prefixCs
  /-- prefix_SS prefix (36/FF; R221) -/
  | prefixSs
  /-- prefix_DS prefix (3E/FF; R221) -/
  | prefixDs
  /-- prefix_FS prefix (64/FF; R221) -/
  | prefixFs
  /-- prefix_GS prefix (65/FF; R221) -/
  | prefixGs
  /-- prefix_OPSIZE prefix (66/FF; R205) -/
  | prefixOpsize
  /-- prefix_ADSIZE prefix (67/FF; R206) -/
  | prefixAdsize
  /-- prefix_LOCK prefix (F0/FF; R224) -/
  | prefixLock
  /-- prefix_REPNE_REPNZ prefix (F2/FF; R222) -/
  | prefixRepne
  /-- prefix_REP_REPE_REPZ prefix (F3/FF; R222) -/
  | prefixRep
  /-- DAA (27/FF; R322) -/
  | daa
  /-- DAS (2F/FF; R323) -/
  | das
  /-- AAA (37/FF; R324) -/
  | aaa
  /-- AAS (3F/FF; R325) -/
  | aas
  /-- PUSHA_PUSHAD (60/FF; R265) -/
  | pusha
  /-- POPA_POPAD (61/FF; R266) -/
  | popa
  /-- INSB Yb,DX (6C/FF; R534) -/
  | insb
  /-- INSW_INSD Yv,DX (6D/FF; R534) -/
  | insv
  /-- OUTSB DX,Xb (6E/FF; R535) -/
  | outsb
  /-- OUTSW_OUTSD DX,Xv (6F/FF; R535) -/
  | outsv
  /-- NOP (90/FF; R446) -/
  | nop
  /-- CBW_CWDE (98/FF; R273) -/
  | cbwCwde
  /-- CWD_CDQ (99/FF; R271) -/
  | cwdCdq
  /-- WAIT (9B/FF; R441) -/
  | wait
  /-- PUSHF_PUSHFD (9C/FF; R432) -/
  | pushf
  /-- POPF_POPFD (9D/FF; R433) -/
  | popf
  /-- SAHF (9E/FF; R431) -/
  | sahf
  /-- LAHF (9F/FF; R430) -/
  | lahf
  /-- MOVSB (A4/FF; R402) -/
  | movsb
  /-- MOVSW_MOVSD (A5/FF; R402) -/
  | movsv
  /-- CMPSB (A6/FF; R403) -/
  | cmpsb
  /-- CMPSW_CMPSD (A7/FF; R403) -/
  | cmpsv
  /-- STOSB (AA/FF; R406) -/
  | stosb
  /-- STOSW_STOSD (AB/FF; R406) -/
  | stosv
  /-- LODSB (AC/FF; R405) -/
  | lodsb
  /-- LODSW_LODSD (AD/FF; R405) -/
  | lodsv
  /-- SCASB (AE/FF; R404) -/
  | scasb
  /-- SCASW_SCASD (AF/FF; R404) -/
  | scasv
  /-- RET (near) (C3/FF; R373) -/
  | retNear
  /-- LEAVE (C9/FF; R421) -/
  | leave
  /-- RET (far) (CB/FF; R468) -/
  | retFar
  /-- INT_3 (CC/FF; R386) -/
  | int3
  /-- INTO (CE/FF; R387) -/
  | into
  /-- IRET_IRETD (CF/FF; R470) -/
  | iret
  /-- XLAT_XLATB (D7/FF; R447) -/
  | xlat
  /-- IN AL,DX (EC/FF; R530) -/
  | inAlDx
  /-- IN eAX,DX (ED/FF; R530) -/
  | inEaxDx
  /-- OUT DX,AL (EE/FF; R531) -/
  | outDxAl
  /-- OUT DX,eAX (EF/FF; R531) -/
  | outDxEax
  /-- HLT (F4/FF; R510) -/
  | hlt
  /-- CMC (F5/FF; R427) -/
  | cmc
  /-- CLC (F8/FF; R426) -/
  | clc
  /-- STC (F9/FF; R425) -/
  | stc
  /-- CLI (FA/FF; R526) -/
  | cli
  /-- STI (FB/FF; R527) -/
  | sti
  /-- CLD (FC/FF; R428) -/
  | cld
  /-- STD (FD/FF; R429) -/
  | std
  /-- CLTS (0F/FF 06/FF; R500) -/
  | clts
  /-- (undefined) #UD (82/FF; R240) -/
  | undef82
  /-- (undefined) #UD (D6/FF; R240) -/
  | undefD6
  /-- (undefined) #UD (F1/FF; R240) -/
  | undefF1
deriving DecidableEq, Repr

end Sys2Proof
end

