-- ==== Sys2Proof/WellFormed.lean ====
section
/-! DEFINITION. Which instruction terms an encoding exists for, under given size attributes (30_encoding.md R213 to R219). -/
namespace Sys2Proof

/-- A memory form fits the address size: 32-bit forms only with `a32`, and ESP is never an index (R214). -/
def Mem.wf (a : Attrs) : Mem → Bool
  | .a32 _ none _ => a.a32
  | .a32 _ (some (x, _)) _ => a.a32 && x != .sp
  | .a16 .. => !a.a32

/-- A `r/m` operand is well formed. -/
def Rm.wf (a : Attrs) : Rm → Bool
  | .reg _ => true
  | .mem m => m.wf a

/-- A value of `v` width fits the operand size (R218). -/
def immFits (o32 : Bool) (v : BitVec 32) : Bool := o32 || v.toNat < 65536

/-- Well-formedness of an instruction under its size attributes. -/
def Instr.wf (a : Attrs) : Instr → Bool
  | .addEbGb rm _ => rm.wf a
  | .addEvGv rm _ => rm.wf a
  | .addGbEb _ rm => rm.wf a
  | .addGvEv _ rm => rm.wf a
  | .addAlIb _ => true
  | .addEaxIv imm => immFits a.o32 imm
  | .orEbGb rm _ => rm.wf a
  | .orEvGv rm _ => rm.wf a
  | .orGbEb _ rm => rm.wf a
  | .orGvEv _ rm => rm.wf a
  | .orAlIb _ => true
  | .orEaxIv imm => immFits a.o32 imm
  | .adcEbGb rm _ => rm.wf a
  | .adcEvGv rm _ => rm.wf a
  | .adcGbEb _ rm => rm.wf a
  | .adcGvEv _ rm => rm.wf a
  | .adcAlIb _ => true
  | .adcEaxIv imm => immFits a.o32 imm
  | .sbbEbGb rm _ => rm.wf a
  | .sbbEvGv rm _ => rm.wf a
  | .sbbGbEb _ rm => rm.wf a
  | .sbbGvEv _ rm => rm.wf a
  | .sbbAlIb _ => true
  | .sbbEaxIv imm => immFits a.o32 imm
  | .andEbGb rm _ => rm.wf a
  | .andEvGv rm _ => rm.wf a
  | .andGbEb _ rm => rm.wf a
  | .andGvEv _ rm => rm.wf a
  | .andAlIb _ => true
  | .andEaxIv imm => immFits a.o32 imm
  | .subEbGb rm _ => rm.wf a
  | .subEvGv rm _ => rm.wf a
  | .subGbEb _ rm => rm.wf a
  | .subGvEv _ rm => rm.wf a
  | .subAlIb _ => true
  | .subEaxIv imm => immFits a.o32 imm
  | .xorEbGb rm _ => rm.wf a
  | .xorEvGv rm _ => rm.wf a
  | .xorGbEb _ rm => rm.wf a
  | .xorGvEv _ rm => rm.wf a
  | .xorAlIb _ => true
  | .xorEaxIv imm => immFits a.o32 imm
  | .cmpEbGb rm _ => rm.wf a
  | .cmpEvGv rm _ => rm.wf a
  | .cmpGbEb _ rm => rm.wf a
  | .cmpGvEv _ rm => rm.wf a
  | .cmpAlIb _ => true
  | .cmpEaxIv imm => immFits a.o32 imm
  | .addEbIb rm _ => rm.wf a
  | .addEvIv rm imm => rm.wf a && immFits a.o32 imm
  | .addEvIb rm _ => rm.wf a
  | .orEbIb rm _ => rm.wf a
  | .orEvIv rm imm => rm.wf a && immFits a.o32 imm
  | .orEvIb rm _ => rm.wf a
  | .adcEbIb rm _ => rm.wf a
  | .adcEvIv rm imm => rm.wf a && immFits a.o32 imm
  | .adcEvIb rm _ => rm.wf a
  | .sbbEbIb rm _ => rm.wf a
  | .sbbEvIv rm imm => rm.wf a && immFits a.o32 imm
  | .sbbEvIb rm _ => rm.wf a
  | .andEbIb rm _ => rm.wf a
  | .andEvIv rm imm => rm.wf a && immFits a.o32 imm
  | .andEvIb rm _ => rm.wf a
  | .subEbIb rm _ => rm.wf a
  | .subEvIv rm imm => rm.wf a && immFits a.o32 imm
  | .subEvIb rm _ => rm.wf a
  | .xorEbIb rm _ => rm.wf a
  | .xorEvIv rm imm => rm.wf a && immFits a.o32 imm
  | .xorEvIb rm _ => rm.wf a
  | .cmpEbIb rm _ => rm.wf a
  | .cmpEvIv rm imm => rm.wf a && immFits a.o32 imm
  | .cmpEvIb rm _ => rm.wf a
  | .aam _ => true
  | .aad _ => true
  | .incReg _ => true
  | .decReg _ => true
  | .pushReg _ => true
  | .popReg _ => true
  | .boundGvMa _ rm => rm.wf a
  | .arplEwGw rm _ => rm.wf a
  | .pushIv imm => immFits a.o32 imm
  | .imulGvEvIv _ rm imm => rm.wf a && immFits a.o32 imm
  | .pushIb _ => true
  | .imulGvEvIb _ rm _ => rm.wf a
  | .jccJb _ _ => true
  | .testEbGb rm _ => rm.wf a
  | .testEvGv rm _ => rm.wf a
  | .xchgEbGb rm _ => rm.wf a
  | .xchgEvGv rm _ => rm.wf a
  | .movEbGb rm _ => rm.wf a
  | .movEvGv rm _ => rm.wf a
  | .movGbEb _ rm => rm.wf a
  | .movGvEv _ rm => rm.wf a
  | .movEwSw rm _ => rm.wf a
  | .leaGvM _ rm => rm.wf a
  | .movSwEw _ rm => rm.wf a
  | .popEv rm => rm.wf a
  | .xchgEaxReg r => r != .ax
  | .callFarAp off _ => immFits a.o32 off
  | .movAlOb off => immFits a.a32 off
  | .movEaxOv off => immFits a.a32 off
  | .movObAl off => immFits a.a32 off
  | .movOvEax off => immFits a.a32 off
  | .testAlIb _ => true
  | .testEaxIv imm => immFits a.o32 imm
  | .movR8Ib _ _ => true
  | .movRegIv _ imm => immFits a.o32 imm
  | .rolEbIb rm _ => rm.wf a
  | .rolEvIb rm _ => rm.wf a
  | .rolEb1 rm => rm.wf a
  | .rolEv1 rm => rm.wf a
  | .rolEbCl rm => rm.wf a
  | .rolEvCl rm => rm.wf a
  | .rorEbIb rm _ => rm.wf a
  | .rorEvIb rm _ => rm.wf a
  | .rorEb1 rm => rm.wf a
  | .rorEv1 rm => rm.wf a
  | .rorEbCl rm => rm.wf a
  | .rorEvCl rm => rm.wf a
  | .rclEbIb rm _ => rm.wf a
  | .rclEvIb rm _ => rm.wf a
  | .rclEb1 rm => rm.wf a
  | .rclEv1 rm => rm.wf a
  | .rclEbCl rm => rm.wf a
  | .rclEvCl rm => rm.wf a
  | .rcrEbIb rm _ => rm.wf a
  | .rcrEvIb rm _ => rm.wf a
  | .rcrEb1 rm => rm.wf a
  | .rcrEv1 rm => rm.wf a
  | .rcrEbCl rm => rm.wf a
  | .rcrEvCl rm => rm.wf a
  | .shlEbIb rm _ => rm.wf a
  | .shlEvIb rm _ => rm.wf a
  | .shlEb1 rm => rm.wf a
  | .shlEv1 rm => rm.wf a
  | .shlEbCl rm => rm.wf a
  | .shlEvCl rm => rm.wf a
  | .shrEbIb rm _ => rm.wf a
  | .shrEvIb rm _ => rm.wf a
  | .shrEb1 rm => rm.wf a
  | .shrEv1 rm => rm.wf a
  | .shrEbCl rm => rm.wf a
  | .shrEvCl rm => rm.wf a
  | .sarEbIb rm _ => rm.wf a
  | .sarEvIb rm _ => rm.wf a
  | .sarEb1 rm => rm.wf a
  | .sarEv1 rm => rm.wf a
  | .sarEbCl rm => rm.wf a
  | .sarEvCl rm => rm.wf a
  | .retNearIw _ => true
  | .lesGvMp _ rm => rm.wf a
  | .ldsGvMp _ rm => rm.wf a
  | .movEbIb rm _ => rm.wf a
  | .movEvIv rm imm => rm.wf a && immFits a.o32 imm
  | .enter _ _ => true
  | .retFarIw _ => true
  | .intIb _ => true
  | .esc _ _ rm => rm.wf a
  | .loopne _ => true
  | .loope _ => true
  | .loop _ => true
  | .jcxz _ => true
  | .inAlIb _ => true
  | .inEaxIb _ => true
  | .outIbAl _ => true
  | .outIbEax _ => true
  | .callJv imm => immFits a.o32 imm
  | .jmpJv imm => immFits a.o32 imm
  | .jmpFarAp off _ => immFits a.o32 off
  | .jmpJb _ => true
  | .testEbIb rm _ => rm.wf a
  | .testEvIv rm imm => rm.wf a && immFits a.o32 imm
  | .notEb rm => rm.wf a
  | .notEv rm => rm.wf a
  | .negEb rm => rm.wf a
  | .negEv rm => rm.wf a
  | .mulEb rm => rm.wf a
  | .mulEv rm => rm.wf a
  | .imulEb rm => rm.wf a
  | .imulEv rm => rm.wf a
  | .divEb rm => rm.wf a
  | .divEv rm => rm.wf a
  | .idivEb rm => rm.wf a
  | .idivEv rm => rm.wf a
  | .incEb rm => rm.wf a
  | .decEb rm => rm.wf a
  | .incEv rm => rm.wf a
  | .decEv rm => rm.wf a
  | .callNearEv rm => rm.wf a
  | .callFarMp rm => rm.wf a
  | .jmpNearEv rm => rm.wf a
  | .jmpFarMp rm => rm.wf a
  | .pushEv rm => rm.wf a
  | .sldtEw rm => rm.wf a
  | .strEw rm => rm.wf a
  | .lldtEw rm => rm.wf a
  | .ltrEw rm => rm.wf a
  | .verrEw rm => rm.wf a
  | .verwEw rm => rm.wf a
  | .sgdtMs rm => rm.wf a
  | .sidtMs rm => rm.wf a
  | .lgdtMs rm => rm.wf a
  | .lidtMs rm => rm.wf a
  | .smswEw rm => rm.wf a
  | .lmswEw rm => rm.wf a
  | .larGvEw _ rm => rm.wf a
  | .lslGvEw _ rm => rm.wf a
  | .movRdCd _ _ => true
  | .movRdDd _ _ => true
  | .movCdRd _ _ => true
  | .movDdRd _ _ => true
  | .movRdTd _ _ => true
  | .movTdRd _ _ => true
  | .jccJv _ imm => immFits a.o32 imm
  | .setccEb _ rm => rm.wf a
  | .btEvGv rm _ => rm.wf a
  | .shldEvGvIb rm _ _ => rm.wf a
  | .shldEvGvCl rm _ => rm.wf a
  | .btsEvGv rm _ => rm.wf a
  | .shrdEvGvIb rm _ _ => rm.wf a
  | .shrdEvGvCl rm _ => rm.wf a
  | .imulGvEv _ rm => rm.wf a
  | .lssGvMp _ rm => rm.wf a
  | .btrEvGv rm _ => rm.wf a
  | .lfsGvMp _ rm => rm.wf a
  | .lgsGvMp _ rm => rm.wf a
  | .movzxGvEb _ rm => rm.wf a
  | .movzxGdEw _ rm => rm.wf a
  | .btEvIb rm _ => rm.wf a
  | .btsEvIb rm _ => rm.wf a
  | .btrEvIb rm _ => rm.wf a
  | .btcEvIb rm _ => rm.wf a
  | .btcEvGv rm _ => rm.wf a
  | .bsfGvEv _ rm => rm.wf a
  | .bsrGvEv _ rm => rm.wf a
  | .movsxGvEb _ rm => rm.wf a
  | .movsxGdEw _ rm => rm.wf a
  | .pushEs => true
  | .popEs => true
  | .pushCs => true
  | .pushSs => true
  | .popSs => true
  | .pushDs => true
  | .popDs => true
  | .pushFs => true
  | .popFs => true
  | .pushGs => true
  | .popGs => true
  | .prefixEs => true
  | .prefixCs => true
  | .prefixSs => true
  | .prefixDs => true
  | .prefixFs => true
  | .prefixGs => true
  | .prefixOpsize => true
  | .prefixAdsize => true
  | .prefixLock => true
  | .prefixRepne => true
  | .prefixRep => true
  | .daa => true
  | .das => true
  | .aaa => true
  | .aas => true
  | .pusha => true
  | .popa => true
  | .insb => true
  | .insv => true
  | .outsb => true
  | .outsv => true
  | .nop => true
  | .cbwCwde => true
  | .cwdCdq => true
  | .wait => true
  | .pushf => true
  | .popf => true
  | .sahf => true
  | .lahf => true
  | .movsb => true
  | .movsv => true
  | .cmpsb => true
  | .cmpsv => true
  | .stosb => true
  | .stosv => true
  | .lodsb => true
  | .lodsv => true
  | .scasb => true
  | .scasv => true
  | .retNear => true
  | .leave => true
  | .retFar => true
  | .int3 => true
  | .into => true
  | .iret => true
  | .xlat => true
  | .inAlDx => true
  | .inEaxDx => true
  | .outDxAl => true
  | .outDxEax => true
  | .hlt => true
  | .cmc => true
  | .clc => true
  | .stc => true
  | .cli => true
  | .sti => true
  | .cld => true
  | .std => true
  | .clts => true
  | .undef82 => true
  | .undefD6 => true
  | .undefF1 => true

end Sys2Proof
end

