-- ==== Sys2Proof/Decode.lean ====
section
/-! DEFINITION. Decoding, total on any bytes and rejecting by name (30_encoding.md R208 to R234, R240), and after it the
encoder. Prefix bytes decode to the prefix constructors; the step gives the decoder the size attributes (R205, R206). -/
namespace Sys2Proof

/-- Why the decoder gives no instruction. -/
inductive DecodeStop where
  /-- the bytes given end inside the instruction: fetch one more -/
  | needMore
  /-- R240: an opcode that R230 and R231 do not assign -/
  | undefinedOpcode
  /-- R240: an undefined cell of a group of R232 -/
  | undefinedGroupCell
deriving DecidableEq, Repr

/-- A parser over the instruction's bytes, reading the size attributes. -/
abbrev P := ReaderT Attrs (EStateM DecodeStop (List Byte))

/-- The next byte of the instruction (R225). -/
def next : P Byte := fun _ l =>
  match l with
  | [] => .error .needMore []
  | b :: rest => .ok b rest

/-- The size attributes in force. -/
def attrs : P Attrs := fun a l => .ok a l

/-- Stop with a reason. -/
def stop {α : Type} (e : DecodeStop) : P α := fun _ l => .error e l

/-- A little-endian word. -/
def next16 : P (BitVec 16) := do
  let b0 ← next
  let b1 ← next
  pure (b1 ++ b0)

/-- A little-endian doubleword. -/
def next32 : P (BitVec 32) := do
  let w0 ← next16
  let w1 ← next16
  pure (w1 ++ w0)

/-- A field of `v` width, zero-extended (R218, R219). -/
def nextV (is32 : Bool) : P (BitVec 32) :=
  if is32 then next32 else do
    let w ← next16
    pure (w.setWidth 32)

/-- Fields of the ModR/M byte, and of the SIB byte in the same places (R210, R214). -/
def fieldHi (m : Byte) : BitVec 2 := m.extractLsb' 6 2
def fieldMid (m : Byte) : BitVec 3 := m.extractLsb' 3 3
def fieldLo (m : Byte) : BitVec 3 := m.extractLsb' 0 3

/-- Register number to register (R212). -/
def Reg.ofCode (c : BitVec 3) : Reg :=
  match c.toNat with
  | 0 => .ax | 1 => .cx | 2 => .dx | 3 => .bx | 4 => .sp | 5 => .bp | 6 => .si | _ => .di

/-- Register to register number (R212). -/
def Reg.code : Reg → BitVec 3
  | .ax => 0 | .cx => 1 | .dx => 2 | .bx => 3 | .sp => 4 | .bp => 5 | .si => 6 | .di => 7

/-- SIB `ss` field to scale (R214). -/
def Scale.ofCode (c : BitVec 2) : Scale :=
  match c.toNat with
  | 0 => .x1 | 1 => .x2 | 2 => .x4 | _ => .x8

/-- Scale to its SIB `ss` field. -/
def Scale.code : Scale → BitVec 2
  | .x1 => 0 | .x2 => 1 | .x4 => 2 | .x8 => 3

/-- Register terms of a 16-bit form with a displacement, by `r/m` (R215). -/
def Base16.ofCode (c : BitVec 3) : Base16 :=
  match c.toNat with
  | 0 => .bxsi | 1 => .bxdi | 2 => .bpsi | 3 => .bpdi | 4 => .si | 5 => .di | 6 => .bp | _ => .bx

/-- The `r/m` code of a 16-bit form; the displacement alone shares code 110 with BP (R215). -/
def Base16.code : Base16 → BitVec 3
  | .bxsi => 0 | .bxdi => 1 | .bpsi => 2 | .bpdi => 3 | .si => 4 | .di => 5 | .bp => 6 | .bx => 7 | .none => 6

/-- Condition codes (R233). -/
def Cond.code : Cond → BitVec 4
  | .o => 0 | .no => 1 | .b => 2 | .nb => 3 | .e => 4 | .ne => 5 | .be => 6 | .nbe => 7
  | .s => 8 | .ns => 9 | .p => 10 | .np => 11 | .l => 12 | .nl => 13 | .le => 14 | .nle => 15

/-- Displacement of a ModR/M form with `mod` 00, 01 or 10, widened to 32 bits (R213, R217). -/
def disp32Of (md : BitVec 2) : P (BitVec 32) :=
  if md = 1#2 then do
    let d ← next
    pure (d.signExtend 32)
  else if md = 2#2 then next32
  else pure 0#32

/-- The same for 16-bit addressing (R215, R217). -/
def disp16Of (md : BitVec 2) : P (BitVec 16) :=
  if md = 1#2 then do
    let d ← next
    pure (d.signExtend 16)
  else if md = 2#2 then next16
  else pure 0#16

/-- The index of a SIB byte; code 100 is no index, whatever `ss` holds (R214, D34). -/
def sibIndex (s : Byte) : Option (Reg × Scale) :=
  if fieldMid s = 4#3 then none else some (Reg.ofCode (fieldMid s), Scale.ofCode (fieldHi s))

/-- 32-bit addressing forms (R213, R214). -/
def mem32 (m : Byte) : P Mem :=
  if fieldLo m = 4#3 then do
    let s ← next
    if fieldLo s = 5#3 ∧ fieldHi m = 0#2 then do
      let d ← next32
      pure (.a32 none (sibIndex s) d)
    else do
      let d ← disp32Of (fieldHi m)
      pure (.a32 (some (Reg.ofCode (fieldLo s))) (sibIndex s) d)
  else if fieldLo m = 5#3 ∧ fieldHi m = 0#2 then do
    let d ← next32
    pure (.a32 none none d)
  else do
    let d ← disp32Of (fieldHi m)
    pure (.a32 (some (Reg.ofCode (fieldLo m))) none d)

/-- 16-bit addressing forms (R215). -/
def mem16 (m : Byte) : P Mem :=
  if fieldLo m = 6#3 ∧ fieldHi m = 0#2 then do
    let d ← next16
    pure (.a16 .none d)
  else do
    let d ← disp16Of (fieldHi m)
    pure (.a16 (Base16.ofCode (fieldLo m)) d)

/-- The `r/m` operand that a ModR/M byte and the bytes after it name (R210). -/
def rmOperand (m : Byte) : P Rm :=
  if fieldHi m = 3#2 then pure (.reg (Reg.ofCode (fieldLo m)))
  else do
    let a ← attrs
    if a.a32 then do
      let x ← mem32 m
      pure (.mem x)
    else do
      let x ← mem16 m
      pure (.mem x)

/-! Operand shapes, one parser each (R211, R218). -/
def dUndef : P Instr := stop .undefinedOpcode
def d0 (i : Instr) : P Instr := pure i
def dIb (f : BitVec 8 → Instr) : P Instr := do
  let v ← next
  pure (f v)
def dIw (f : BitVec 16 → Instr) : P Instr := do
  let v ← next16
  pure (f v)
def dIv (f : BitVec 32 → Instr) : P Instr := do
  let a ← attrs
  let v ← nextV a.o32
  pure (f v)
def dO (f : BitVec 32 → Instr) : P Instr := do
  let a ← attrs
  let v ← nextV a.a32
  pure (f v)
def dA (f : BitVec 32 → BitVec 16 → Instr) : P Instr := do
  let a ← attrs
  let v ← nextV a.o32
  let s ← next16
  pure (f v s)
def dIwIb (f : BitVec 16 → BitVec 8 → Instr) : P Instr := do
  let v ← next16
  let l ← next
  pure (f v l)
def dE (f : Rm → Instr) : P Instr := do
  let m ← next
  let x ← rmOperand m
  pure (f x)
def dEG (f : Rm → Reg → Instr) : P Instr := do
  let m ← next
  let x ← rmOperand m
  pure (f x (Reg.ofCode (fieldMid m)))
def dGE (f : Reg → Rm → Instr) : P Instr := do
  let m ← next
  let x ← rmOperand m
  pure (f (Reg.ofCode (fieldMid m)) x)
def dGEIb (f : Reg → Rm → BitVec 8 → Instr) : P Instr := do
  let m ← next
  let x ← rmOperand m
  let v ← next
  pure (f (Reg.ofCode (fieldMid m)) x v)
def dEGIb (f : Rm → Reg → BitVec 8 → Instr) : P Instr := do
  let m ← next
  let x ← rmOperand m
  let v ← next
  pure (f x (Reg.ofCode (fieldMid m)) v)
def dGEIv (f : Reg → Rm → BitVec 32 → Instr) : P Instr := do
  let m ← next
  let x ← rmOperand m
  let a ← attrs
  let v ← nextV a.o32
  pure (f (Reg.ofCode (fieldMid m)) x v)
def dES (f : Rm → BitVec 3 → Instr) : P Instr := do
  let m ← next
  let x ← rmOperand m
  pure (f x (fieldMid m))
def dSE (f : BitVec 3 → Rm → Instr) : P Instr := do
  let m ← next
  let x ← rmOperand m
  pure (f (fieldMid m) x)
/-- 0F 20H to 0F 26H: `mod` is not examined, `r/m` names a 32-bit register (R231, D35). -/
def dRC (f : Reg → BitVec 3 → Instr) : P Instr := do
  let m ← next
  pure (f (Reg.ofCode (fieldLo m)) (fieldMid m))
def dCR (f : BitVec 3 → Reg → Instr) : P Instr := do
  let m ← next
  pure (f (fieldMid m) (Reg.ofCode (fieldLo m)))
/-- ESC opcodes: the low opcode bits and `reg` form the coprocessor opcode (R234). -/
def dEsc (op : BitVec 3) : P Instr := do
  let m ← next
  let x ← rmOperand m
  pure (.esc op (fieldMid m) x)

/-! Group cells: what follows once the ModR/M byte has been read (R232). An undefined cell reads every byte its row calls for
before it stops (R225; log entry 31). -/
def gUndef (m : Byte) : P Instr := do
  let _ ← rmOperand m
  stop .undefinedGroupCell
def gUndefIb (m : Byte) : P Instr := do
  let _ ← rmOperand m
  let _ ← next
  stop .undefinedGroupCell
def gUndefIv (m : Byte) : P Instr := do
  let _ ← rmOperand m
  let a ← attrs
  let _ ← nextV a.o32
  stop .undefinedGroupCell
def gE (f : Rm → Instr) (m : Byte) : P Instr := do
  let x ← rmOperand m
  pure (f x)
def gEIb (f : Rm → BitVec 8 → Instr) (m : Byte) : P Instr := do
  let x ← rmOperand m
  let v ← next
  pure (f x v)
def gEIv (f : Rm → BitVec 32 → Instr) (m : Byte) : P Instr := do
  let x ← rmOperand m
  let a ← attrs
  let v ← nextV a.o32
  pure (f x v)
def dGroup (g : List (Byte → P Instr)) : P Instr := do
  let m ← next
  g.getD (fieldMid m).toNat gUndef m

/-- Opcode 80H /n (R232). -/
def grp80 : List (Byte → P Instr) :=
  [gEIb .addEbIb, gEIb .orEbIb, gEIb .adcEbIb, gEIb .sbbEbIb,
   gEIb .andEbIb, gEIb .subEbIb, gEIb .xorEbIb, gEIb .cmpEbIb]
/-- Opcode 81H /n (R232). -/
def grp81 : List (Byte → P Instr) :=
  [gEIv .addEvIv, gEIv .orEvIv, gEIv .adcEvIv, gEIv .sbbEvIv,
   gEIv .andEvIv, gEIv .subEvIv, gEIv .xorEvIv, gEIv .cmpEvIv]
/-- Opcode 83H /n (R232). -/
def grp83 : List (Byte → P Instr) :=
  [gEIb .addEvIb, gEIb .orEvIb, gEIb .adcEvIb, gEIb .sbbEvIb,
   gEIb .andEvIb, gEIb .subEvIb, gEIb .xorEvIb, gEIb .cmpEvIb]
/-- Opcode 8FH /n (R232). -/
def grp8F : List (Byte → P Instr) :=
  [gE .popEv, gUndef, gUndef, gUndef,
   gUndef, gUndef, gUndef, gUndef]
/-- Opcode C0H /n (R232). -/
def grpC0 : List (Byte → P Instr) :=
  [gEIb .rolEbIb, gEIb .rorEbIb, gEIb .rclEbIb, gEIb .rcrEbIb,
   gEIb .shlEbIb, gEIb .shrEbIb, gUndefIb, gEIb .sarEbIb]
/-- Opcode C1H /n (R232). -/
def grpC1 : List (Byte → P Instr) :=
  [gEIb .rolEvIb, gEIb .rorEvIb, gEIb .rclEvIb, gEIb .rcrEvIb,
   gEIb .shlEvIb, gEIb .shrEvIb, gUndefIb, gEIb .sarEvIb]
/-- Opcode D0H /n (R232). -/
def grpD0 : List (Byte → P Instr) :=
  [gE .rolEb1, gE .rorEb1, gE .rclEb1, gE .rcrEb1,
   gE .shlEb1, gE .shrEb1, gUndef, gE .sarEb1]
/-- Opcode D1H /n (R232). -/
def grpD1 : List (Byte → P Instr) :=
  [gE .rolEv1, gE .rorEv1, gE .rclEv1, gE .rcrEv1,
   gE .shlEv1, gE .shrEv1, gUndef, gE .sarEv1]
/-- Opcode D2H /n (R232). -/
def grpD2 : List (Byte → P Instr) :=
  [gE .rolEbCl, gE .rorEbCl, gE .rclEbCl, gE .rcrEbCl,
   gE .shlEbCl, gE .shrEbCl, gUndef, gE .sarEbCl]
/-- Opcode D3H /n (R232). -/
def grpD3 : List (Byte → P Instr) :=
  [gE .rolEvCl, gE .rorEvCl, gE .rclEvCl, gE .rcrEvCl,
   gE .shlEvCl, gE .shrEvCl, gUndef, gE .sarEvCl]
/-- Opcode C6H /n (R232). -/
def grpC6 : List (Byte → P Instr) :=
  [gEIb .movEbIb, gUndefIb, gUndefIb, gUndefIb,
   gUndefIb, gUndefIb, gUndefIb, gUndefIb]
/-- Opcode C7H /n (R232). -/
def grpC7 : List (Byte → P Instr) :=
  [gEIv .movEvIv, gUndefIv, gUndefIv, gUndefIv,
   gUndefIv, gUndefIv, gUndefIv, gUndefIv]
/-- Opcode F6H /n (R232). -/
def grpF6 : List (Byte → P Instr) :=
  [gEIb .testEbIb, gUndef, gE .notEb, gE .negEb,
   gE .mulEb, gE .imulEb, gE .divEb, gE .idivEb]
/-- Opcode F7H /n (R232). -/
def grpF7 : List (Byte → P Instr) :=
  [gEIv .testEvIv, gUndef, gE .notEv, gE .negEv,
   gE .mulEv, gE .imulEv, gE .divEv, gE .idivEv]
/-- Opcode FEH /n (R232). -/
def grpFE : List (Byte → P Instr) :=
  [gE .incEb, gE .decEb, gUndef, gUndef,
   gUndef, gUndef, gUndef, gUndef]
/-- Opcode FFH /n (R232). -/
def grpFF : List (Byte → P Instr) :=
  [gE .incEv, gE .decEv, gE .callNearEv, gE .callFarMp,
   gE .jmpNearEv, gE .jmpFarMp, gE .pushEv, gUndef]
/-- Opcode 0F 00H /n (R232). -/
def grp0F00 : List (Byte → P Instr) :=
  [gE .sldtEw, gE .strEw, gE .lldtEw, gE .ltrEw,
   gE .verrEw, gE .verwEw, gUndef, gUndef]
/-- Opcode 0F 01H /n (R232). -/
def grp0F01 : List (Byte → P Instr) :=
  [gE .sgdtMs, gE .sidtMs, gE .lgdtMs, gE .lidtMs,
   gE .smswEw, gUndef, gE .lmswEw, gUndef]
/-- Opcode 0F BAH /n (R232). -/
def grp0FBA : List (Byte → P Instr) :=
  [gUndefIb, gUndefIb, gUndefIb, gUndefIb,
   gEIb .btEvIb, gEIb .btsEvIb, gEIb .btrEvIb, gEIb .btcEvIb]

/-! The two-byte opcode map, sixteen rows of sixteen (R231). -/
def two0 : List (P Instr) :=
  [dGroup grp0F00, dGroup grp0F01, dGE .larGvEw, dGE .lslGvEw, dUndef, dUndef, d0 .clts, dUndef,
   dUndef, dUndef, dUndef, dUndef, dUndef, dUndef, dUndef, dUndef]
def two1 : List (P Instr) :=
  [dUndef, dUndef, dUndef, dUndef, dUndef, dUndef, dUndef, dUndef,
   dUndef, dUndef, dUndef, dUndef, dUndef, dUndef, dUndef, dUndef]
def two2 : List (P Instr) :=
  [dRC .movRdCd, dRC .movRdDd, dCR .movCdRd, dCR .movDdRd, dRC .movRdTd, dUndef, dCR .movTdRd, dUndef,
   dUndef, dUndef, dUndef, dUndef, dUndef, dUndef, dUndef, dUndef]
def two3 : List (P Instr) :=
  [dUndef, dUndef, dUndef, dUndef, dUndef, dUndef, dUndef, dUndef,
   dUndef, dUndef, dUndef, dUndef, dUndef, dUndef, dUndef, dUndef]
def two4 : List (P Instr) :=
  [dUndef, dUndef, dUndef, dUndef, dUndef, dUndef, dUndef, dUndef,
   dUndef, dUndef, dUndef, dUndef, dUndef, dUndef, dUndef, dUndef]
def two5 : List (P Instr) :=
  [dUndef, dUndef, dUndef, dUndef, dUndef, dUndef, dUndef, dUndef,
   dUndef, dUndef, dUndef, dUndef, dUndef, dUndef, dUndef, dUndef]
def two6 : List (P Instr) :=
  [dUndef, dUndef, dUndef, dUndef, dUndef, dUndef, dUndef, dUndef,
   dUndef, dUndef, dUndef, dUndef, dUndef, dUndef, dUndef, dUndef]
def two7 : List (P Instr) :=
  [dUndef, dUndef, dUndef, dUndef, dUndef, dUndef, dUndef, dUndef,
   dUndef, dUndef, dUndef, dUndef, dUndef, dUndef, dUndef, dUndef]
def two8 : List (P Instr) :=
  [dIv (.jccJv .o), dIv (.jccJv .no), dIv (.jccJv .b), dIv (.jccJv .nb), dIv (.jccJv .e), dIv (.jccJv .ne), dIv (.jccJv .be), dIv (.jccJv .nbe),
   dIv (.jccJv .s), dIv (.jccJv .ns), dIv (.jccJv .p), dIv (.jccJv .np), dIv (.jccJv .l), dIv (.jccJv .nl), dIv (.jccJv .le), dIv (.jccJv .nle)]
def two9 : List (P Instr) :=
  [dE (.setccEb .o), dE (.setccEb .no), dE (.setccEb .b), dE (.setccEb .nb), dE (.setccEb .e), dE (.setccEb .ne), dE (.setccEb .be), dE (.setccEb .nbe),
   dE (.setccEb .s), dE (.setccEb .ns), dE (.setccEb .p), dE (.setccEb .np), dE (.setccEb .l), dE (.setccEb .nl), dE (.setccEb .le), dE (.setccEb .nle)]
def twoA : List (P Instr) :=
  [d0 .pushFs, d0 .popFs, dUndef, dEG .btEvGv, dEGIb .shldEvGvIb, dEG .shldEvGvCl, dUndef, dUndef,
   d0 .pushGs, d0 .popGs, dUndef, dEG .btsEvGv, dEGIb .shrdEvGvIb, dEG .shrdEvGvCl, dUndef, dGE .imulGvEv]
def twoB : List (P Instr) :=
  [dUndef, dUndef, dGE .lssGvMp, dEG .btrEvGv, dGE .lfsGvMp, dGE .lgsGvMp, dGE .movzxGvEb, dGE .movzxGdEw,
   dUndef, dUndef, dGroup grp0FBA, dEG .btcEvGv, dGE .bsfGvEv, dGE .bsrGvEv, dGE .movsxGvEb, dGE .movsxGdEw]
def twoC : List (P Instr) :=
  [dUndef, dUndef, dUndef, dUndef, dUndef, dUndef, dUndef, dUndef,
   dUndef, dUndef, dUndef, dUndef, dUndef, dUndef, dUndef, dUndef]
def twoD : List (P Instr) :=
  [dUndef, dUndef, dUndef, dUndef, dUndef, dUndef, dUndef, dUndef,
   dUndef, dUndef, dUndef, dUndef, dUndef, dUndef, dUndef, dUndef]
def twoE : List (P Instr) :=
  [dUndef, dUndef, dUndef, dUndef, dUndef, dUndef, dUndef, dUndef,
   dUndef, dUndef, dUndef, dUndef, dUndef, dUndef, dUndef, dUndef]
def twoF : List (P Instr) :=
  [dUndef, dUndef, dUndef, dUndef, dUndef, dUndef, dUndef, dUndef,
   dUndef, dUndef, dUndef, dUndef, dUndef, dUndef, dUndef, dUndef]
def twoMap : List (List (P Instr)) :=
  [two0, two1, two2, two3, two4, two5, two6, two7, two8, two9, twoA, twoB, twoC, twoD, twoE, twoF]

/-- Select a cell of an opcode map by the opcode byte. -/
def mapCell (t : List (List (P Instr))) (b : Byte) : P Instr :=
  (t.getD (b.toNat / 16) []).getD (b.toNat % 16) dUndef

def dTwoByte : P Instr := do
  let b ← next
  mapCell twoMap b

/-! The one-byte opcode map, sixteen rows of sixteen (R230). -/
def one0 : List (P Instr) :=
  [dEG .addEbGb, dEG .addEvGv, dGE .addGbEb, dGE .addGvEv, dIb .addAlIb, dIv .addEaxIv, d0 .pushEs, d0 .popEs,
   dEG .orEbGb, dEG .orEvGv, dGE .orGbEb, dGE .orGvEv, dIb .orAlIb, dIv .orEaxIv, d0 .pushCs, dTwoByte]
def one1 : List (P Instr) :=
  [dEG .adcEbGb, dEG .adcEvGv, dGE .adcGbEb, dGE .adcGvEv, dIb .adcAlIb, dIv .adcEaxIv, d0 .pushSs, d0 .popSs,
   dEG .sbbEbGb, dEG .sbbEvGv, dGE .sbbGbEb, dGE .sbbGvEv, dIb .sbbAlIb, dIv .sbbEaxIv, d0 .pushDs, d0 .popDs]
def one2 : List (P Instr) :=
  [dEG .andEbGb, dEG .andEvGv, dGE .andGbEb, dGE .andGvEv, dIb .andAlIb, dIv .andEaxIv, d0 .prefixEs, d0 .daa,
   dEG .subEbGb, dEG .subEvGv, dGE .subGbEb, dGE .subGvEv, dIb .subAlIb, dIv .subEaxIv, d0 .prefixCs, d0 .das]
def one3 : List (P Instr) :=
  [dEG .xorEbGb, dEG .xorEvGv, dGE .xorGbEb, dGE .xorGvEv, dIb .xorAlIb, dIv .xorEaxIv, d0 .prefixSs, d0 .aaa,
   dEG .cmpEbGb, dEG .cmpEvGv, dGE .cmpGbEb, dGE .cmpGvEv, dIb .cmpAlIb, dIv .cmpEaxIv, d0 .prefixDs, d0 .aas]
def one4 : List (P Instr) :=
  [d0 (.incReg .ax), d0 (.incReg .cx), d0 (.incReg .dx), d0 (.incReg .bx), d0 (.incReg .sp), d0 (.incReg .bp), d0 (.incReg .si), d0 (.incReg .di),
   d0 (.decReg .ax), d0 (.decReg .cx), d0 (.decReg .dx), d0 (.decReg .bx), d0 (.decReg .sp), d0 (.decReg .bp), d0 (.decReg .si), d0 (.decReg .di)]
def one5 : List (P Instr) :=
  [d0 (.pushReg .ax), d0 (.pushReg .cx), d0 (.pushReg .dx), d0 (.pushReg .bx), d0 (.pushReg .sp), d0 (.pushReg .bp), d0 (.pushReg .si), d0 (.pushReg .di),
   d0 (.popReg .ax), d0 (.popReg .cx), d0 (.popReg .dx), d0 (.popReg .bx), d0 (.popReg .sp), d0 (.popReg .bp), d0 (.popReg .si), d0 (.popReg .di)]
def one6 : List (P Instr) :=
  [d0 .pusha, d0 .popa, dGE .boundGvMa, dEG .arplEwGw, d0 .prefixFs, d0 .prefixGs, d0 .prefixOpsize, d0 .prefixAdsize,
   dIv .pushIv, dGEIv .imulGvEvIv, dIb .pushIb, dGEIb .imulGvEvIb, d0 .insb, d0 .insv, d0 .outsb, d0 .outsv]
def one7 : List (P Instr) :=
  [dIb (.jccJb .o), dIb (.jccJb .no), dIb (.jccJb .b), dIb (.jccJb .nb), dIb (.jccJb .e), dIb (.jccJb .ne), dIb (.jccJb .be), dIb (.jccJb .nbe),
   dIb (.jccJb .s), dIb (.jccJb .ns), dIb (.jccJb .p), dIb (.jccJb .np), dIb (.jccJb .l), dIb (.jccJb .nl), dIb (.jccJb .le), dIb (.jccJb .nle)]
def one8 : List (P Instr) :=
  [dGroup grp80, dGroup grp81, d0 .undef82, dGroup grp83, dEG .testEbGb, dEG .testEvGv, dEG .xchgEbGb, dEG .xchgEvGv,
   dEG .movEbGb, dEG .movEvGv, dGE .movGbEb, dGE .movGvEv, dES .movEwSw, dGE .leaGvM, dSE .movSwEw, dGroup grp8F]
def one9 : List (P Instr) :=
  [d0 .nop, d0 (.xchgEaxReg .cx), d0 (.xchgEaxReg .dx), d0 (.xchgEaxReg .bx), d0 (.xchgEaxReg .sp), d0 (.xchgEaxReg .bp), d0 (.xchgEaxReg .si), d0 (.xchgEaxReg .di),
   d0 .cbwCwde, d0 .cwdCdq, dA .callFarAp, d0 .wait, d0 .pushf, d0 .popf, d0 .sahf, d0 .lahf]
def oneA : List (P Instr) :=
  [dO .movAlOb, dO .movEaxOv, dO .movObAl, dO .movOvEax, d0 .movsb, d0 .movsv, d0 .cmpsb, d0 .cmpsv,
   dIb .testAlIb, dIv .testEaxIv, d0 .stosb, d0 .stosv, d0 .lodsb, d0 .lodsv, d0 .scasb, d0 .scasv]
def oneB : List (P Instr) :=
  [dIb (.movR8Ib .ax), dIb (.movR8Ib .cx), dIb (.movR8Ib .dx), dIb (.movR8Ib .bx), dIb (.movR8Ib .sp), dIb (.movR8Ib .bp), dIb (.movR8Ib .si), dIb (.movR8Ib .di),
   dIv (.movRegIv .ax), dIv (.movRegIv .cx), dIv (.movRegIv .dx), dIv (.movRegIv .bx), dIv (.movRegIv .sp), dIv (.movRegIv .bp), dIv (.movRegIv .si), dIv (.movRegIv .di)]
def oneC : List (P Instr) :=
  [dGroup grpC0, dGroup grpC1, dIw .retNearIw, d0 .retNear, dGE .lesGvMp, dGE .ldsGvMp, dGroup grpC6, dGroup grpC7,
   dIwIb .enter, d0 .leave, dIw .retFarIw, d0 .retFar, d0 .int3, dIb .intIb, d0 .into, d0 .iret]
def oneD : List (P Instr) :=
  [dGroup grpD0, dGroup grpD1, dGroup grpD2, dGroup grpD3, dIb .aam, dIb .aad, d0 .undefD6, d0 .xlat,
   dEsc 0#3, dEsc 1#3, dEsc 2#3, dEsc 3#3, dEsc 4#3, dEsc 5#3, dEsc 6#3, dEsc 7#3]
def oneE : List (P Instr) :=
  [dIb .loopne, dIb .loope, dIb .loop, dIb .jcxz, dIb .inAlIb, dIb .inEaxIb, dIb .outIbAl, dIb .outIbEax,
   dIv .callJv, dIv .jmpJv, dA .jmpFarAp, dIb .jmpJb, d0 .inAlDx, d0 .inEaxDx, d0 .outDxAl, d0 .outDxEax]
def oneF : List (P Instr) :=
  [d0 .prefixLock, d0 .undefF1, d0 .prefixRepne, d0 .prefixRep, d0 .hlt, d0 .cmc, dGroup grpF6, dGroup grpF7,
   d0 .clc, d0 .stc, d0 .cli, d0 .sti, d0 .cld, d0 .std, dGroup grpFE, dGroup grpFF]
def oneMap : List (List (P Instr)) :=
  [one0, one1, one2, one3, one4, one5, one6, one7, one8, one9, oneA, oneB, oneC, oneD, oneE, oneF]

/-- One instruction, or one prefix byte, from the front of the bytes. -/
def instruction : P Instr := do
  let b ← next
  mapCell oneMap b

/-- The decoder's answer. -/
inductive Decoded where
  | ok (i : Instr) (rest : List Byte)
  | stop (e : DecodeStop)
deriving DecidableEq, Repr

/-- Decode the front of a byte list under the given size attributes (R225). -/
def decode (a : Attrs) (l : List Byte) : Decoded :=
  match instruction a l with
  | .ok i rest => .ok i rest
  | .error e _ => .stop e

/-- Byte `k` of an instruction whose bits are numbered as spec/opcode_table.json numbers them. -/
def tableByte (nbits w k : Nat) : Byte := BitVec.ofNat 8 ((w % 2 ^ nbits) / 256 ^ k)

/-- The instruction's bytes, with zero bytes above `nbits`, up to the longest instruction (R201). -/
def tableBytes (nbits w : Nat) : List Byte :=
  [tableByte nbits w 0, tableByte nbits w 1, tableByte nbits w 2, tableByte nbits w 3, tableByte nbits w 4,
   tableByte nbits w 5, tableByte nbits w 6, tableByte nbits w 7, tableByte nbits w 8, tableByte nbits w 9,
   tableByte nbits w 10, tableByte nbits w 11, tableByte nbits w 12, tableByte nbits w 13, tableByte nbits w 14]

/-- What the decoder reads from a table row's word, with the 16-bit attributes in force after reset (R205, R206). -/
def decodeTableWord (nbits w : Nat) : Option Instr :=
  match decode ⟨false, false⟩ (tableBytes nbits w) with
  | .ok i _ => some i
  | .stop _ => none

/-! The encoder. -/

/-- A word, low byte first. -/
def le16 (v : BitVec 16) : List Byte := [v.extractLsb' 0 8, v.extractLsb' 8 8]

/-- A doubleword, low byte first. -/
def le32 (v : BitVec 32) : List Byte := le16 (v.extractLsb' 0 16) ++ le16 (v.extractLsb' 16 16)

/-- A `v` field. -/
def encV (is32 : Bool) (v : BitVec 32) : List Byte :=
  if is32 then le32 v else le16 (v.extractLsb' 0 16)

/-- A ModR/M or SIB byte from its fields. -/
def fieldsByte (hi : BitVec 2) (mid lo : BitVec 3) : Byte := hi ++ mid ++ lo

/-- SIB byte of a 32-bit form (R214). -/
def encSib (base : Option Reg) (index : Option (Reg × Scale)) : Byte :=
  let b := match base with
    | none => 5#3
    | some r => r.code
  match index with
  | none => fieldsByte 0#2 4#3 b
  | some (x, s) => fieldsByte s.code x.code b

/-- ModR/M, SIB and displacement of an operand; memory forms always with a full displacement (R213 to R215). -/
def encRm (n : BitVec 3) : Rm → List Byte
  | .reg r => [fieldsByte 3#2 n r.code]
  | .mem (.a32 none x d) => fieldsByte 0#2 n 4#3 :: encSib none x :: le32 d
  | .mem (.a32 (some b) x d) => fieldsByte 2#2 n 4#3 :: encSib (some b) x :: le32 d
  | .mem (.a16 .none d) => fieldsByte 0#2 n 6#3 :: le16 d
  | .mem (.a16 b d) => fieldsByte 2#2 n b.code :: le16 d

/-- The bytes of a well-formed instruction under its size attributes. -/
def encode (a : Attrs) : Instr → List Byte
  | .addEbGb rm r => 0x00#8 :: encRm r.code rm
  | .addEvGv rm r => 0x01#8 :: encRm r.code rm
  | .addGbEb r rm => 0x02#8 :: encRm r.code rm
  | .addGvEv r rm => 0x03#8 :: encRm r.code rm
  | .addAlIb imm => [0x04#8, imm]
  | .addEaxIv imm => 0x05#8 :: encV a.o32 imm
  | .orEbGb rm r => 0x08#8 :: encRm r.code rm
  | .orEvGv rm r => 0x09#8 :: encRm r.code rm
  | .orGbEb r rm => 0x0A#8 :: encRm r.code rm
  | .orGvEv r rm => 0x0B#8 :: encRm r.code rm
  | .orAlIb imm => [0x0C#8, imm]
  | .orEaxIv imm => 0x0D#8 :: encV a.o32 imm
  | .adcEbGb rm r => 0x10#8 :: encRm r.code rm
  | .adcEvGv rm r => 0x11#8 :: encRm r.code rm
  | .adcGbEb r rm => 0x12#8 :: encRm r.code rm
  | .adcGvEv r rm => 0x13#8 :: encRm r.code rm
  | .adcAlIb imm => [0x14#8, imm]
  | .adcEaxIv imm => 0x15#8 :: encV a.o32 imm
  | .sbbEbGb rm r => 0x18#8 :: encRm r.code rm
  | .sbbEvGv rm r => 0x19#8 :: encRm r.code rm
  | .sbbGbEb r rm => 0x1A#8 :: encRm r.code rm
  | .sbbGvEv r rm => 0x1B#8 :: encRm r.code rm
  | .sbbAlIb imm => [0x1C#8, imm]
  | .sbbEaxIv imm => 0x1D#8 :: encV a.o32 imm
  | .andEbGb rm r => 0x20#8 :: encRm r.code rm
  | .andEvGv rm r => 0x21#8 :: encRm r.code rm
  | .andGbEb r rm => 0x22#8 :: encRm r.code rm
  | .andGvEv r rm => 0x23#8 :: encRm r.code rm
  | .andAlIb imm => [0x24#8, imm]
  | .andEaxIv imm => 0x25#8 :: encV a.o32 imm
  | .subEbGb rm r => 0x28#8 :: encRm r.code rm
  | .subEvGv rm r => 0x29#8 :: encRm r.code rm
  | .subGbEb r rm => 0x2A#8 :: encRm r.code rm
  | .subGvEv r rm => 0x2B#8 :: encRm r.code rm
  | .subAlIb imm => [0x2C#8, imm]
  | .subEaxIv imm => 0x2D#8 :: encV a.o32 imm
  | .xorEbGb rm r => 0x30#8 :: encRm r.code rm
  | .xorEvGv rm r => 0x31#8 :: encRm r.code rm
  | .xorGbEb r rm => 0x32#8 :: encRm r.code rm
  | .xorGvEv r rm => 0x33#8 :: encRm r.code rm
  | .xorAlIb imm => [0x34#8, imm]
  | .xorEaxIv imm => 0x35#8 :: encV a.o32 imm
  | .cmpEbGb rm r => 0x38#8 :: encRm r.code rm
  | .cmpEvGv rm r => 0x39#8 :: encRm r.code rm
  | .cmpGbEb r rm => 0x3A#8 :: encRm r.code rm
  | .cmpGvEv r rm => 0x3B#8 :: encRm r.code rm
  | .cmpAlIb imm => [0x3C#8, imm]
  | .cmpEaxIv imm => 0x3D#8 :: encV a.o32 imm
  | .addEbIb rm imm => 0x80#8 :: encRm 0#3 rm ++ [imm]
  | .addEvIv rm imm => 0x81#8 :: encRm 0#3 rm ++ encV a.o32 imm
  | .addEvIb rm imm => 0x83#8 :: encRm 0#3 rm ++ [imm]
  | .orEbIb rm imm => 0x80#8 :: encRm 1#3 rm ++ [imm]
  | .orEvIv rm imm => 0x81#8 :: encRm 1#3 rm ++ encV a.o32 imm
  | .orEvIb rm imm => 0x83#8 :: encRm 1#3 rm ++ [imm]
  | .adcEbIb rm imm => 0x80#8 :: encRm 2#3 rm ++ [imm]
  | .adcEvIv rm imm => 0x81#8 :: encRm 2#3 rm ++ encV a.o32 imm
  | .adcEvIb rm imm => 0x83#8 :: encRm 2#3 rm ++ [imm]
  | .sbbEbIb rm imm => 0x80#8 :: encRm 3#3 rm ++ [imm]
  | .sbbEvIv rm imm => 0x81#8 :: encRm 3#3 rm ++ encV a.o32 imm
  | .sbbEvIb rm imm => 0x83#8 :: encRm 3#3 rm ++ [imm]
  | .andEbIb rm imm => 0x80#8 :: encRm 4#3 rm ++ [imm]
  | .andEvIv rm imm => 0x81#8 :: encRm 4#3 rm ++ encV a.o32 imm
  | .andEvIb rm imm => 0x83#8 :: encRm 4#3 rm ++ [imm]
  | .subEbIb rm imm => 0x80#8 :: encRm 5#3 rm ++ [imm]
  | .subEvIv rm imm => 0x81#8 :: encRm 5#3 rm ++ encV a.o32 imm
  | .subEvIb rm imm => 0x83#8 :: encRm 5#3 rm ++ [imm]
  | .xorEbIb rm imm => 0x80#8 :: encRm 6#3 rm ++ [imm]
  | .xorEvIv rm imm => 0x81#8 :: encRm 6#3 rm ++ encV a.o32 imm
  | .xorEvIb rm imm => 0x83#8 :: encRm 6#3 rm ++ [imm]
  | .cmpEbIb rm imm => 0x80#8 :: encRm 7#3 rm ++ [imm]
  | .cmpEvIv rm imm => 0x81#8 :: encRm 7#3 rm ++ encV a.o32 imm
  | .cmpEvIb rm imm => 0x83#8 :: encRm 7#3 rm ++ [imm]
  | .aam imm => [0xD4#8, imm]
  | .aad imm => [0xD5#8, imm]
  | .incReg r => [0x40#8 ||| r.code.setWidth 8]
  | .decReg r => [0x48#8 ||| r.code.setWidth 8]
  | .pushReg r => [0x50#8 ||| r.code.setWidth 8]
  | .popReg r => [0x58#8 ||| r.code.setWidth 8]
  | .boundGvMa r rm => 0x62#8 :: encRm r.code rm
  | .arplEwGw rm r => 0x63#8 :: encRm r.code rm
  | .pushIv imm => 0x68#8 :: encV a.o32 imm
  | .imulGvEvIv r rm imm => 0x69#8 :: encRm r.code rm ++ encV a.o32 imm
  | .pushIb imm => [0x6A#8, imm]
  | .imulGvEvIb r rm imm => 0x6B#8 :: encRm r.code rm ++ [imm]
  | .jccJb cc imm => [0x70#8 ||| cc.code.setWidth 8, imm]
  | .testEbGb rm r => 0x84#8 :: encRm r.code rm
  | .testEvGv rm r => 0x85#8 :: encRm r.code rm
  | .xchgEbGb rm r => 0x86#8 :: encRm r.code rm
  | .xchgEvGv rm r => 0x87#8 :: encRm r.code rm
  | .movEbGb rm r => 0x88#8 :: encRm r.code rm
  | .movEvGv rm r => 0x89#8 :: encRm r.code rm
  | .movGbEb r rm => 0x8A#8 :: encRm r.code rm
  | .movGvEv r rm => 0x8B#8 :: encRm r.code rm
  | .movEwSw rm n => 0x8C#8 :: encRm n rm
  | .leaGvM r rm => 0x8D#8 :: encRm r.code rm
  | .movSwEw n rm => 0x8E#8 :: encRm n rm
  | .popEv rm => 0x8F#8 :: encRm 0#3 rm
  | .xchgEaxReg r => [0x90#8 ||| r.code.setWidth 8]
  | .callFarAp off sel => 0x9A#8 :: encV a.o32 off ++ le16 sel
  | .movAlOb off => 0xA0#8 :: encV a.a32 off
  | .movEaxOv off => 0xA1#8 :: encV a.a32 off
  | .movObAl off => 0xA2#8 :: encV a.a32 off
  | .movOvEax off => 0xA3#8 :: encV a.a32 off
  | .testAlIb imm => [0xA8#8, imm]
  | .testEaxIv imm => 0xA9#8 :: encV a.o32 imm
  | .movR8Ib r imm => [0xB0#8 ||| r.code.setWidth 8, imm]
  | .movRegIv r imm => (0xB8#8 ||| r.code.setWidth 8) :: encV a.o32 imm
  | .rolEbIb rm imm => 0xC0#8 :: encRm 0#3 rm ++ [imm]
  | .rolEvIb rm imm => 0xC1#8 :: encRm 0#3 rm ++ [imm]
  | .rolEb1 rm => 0xD0#8 :: encRm 0#3 rm
  | .rolEv1 rm => 0xD1#8 :: encRm 0#3 rm
  | .rolEbCl rm => 0xD2#8 :: encRm 0#3 rm
  | .rolEvCl rm => 0xD3#8 :: encRm 0#3 rm
  | .rorEbIb rm imm => 0xC0#8 :: encRm 1#3 rm ++ [imm]
  | .rorEvIb rm imm => 0xC1#8 :: encRm 1#3 rm ++ [imm]
  | .rorEb1 rm => 0xD0#8 :: encRm 1#3 rm
  | .rorEv1 rm => 0xD1#8 :: encRm 1#3 rm
  | .rorEbCl rm => 0xD2#8 :: encRm 1#3 rm
  | .rorEvCl rm => 0xD3#8 :: encRm 1#3 rm
  | .rclEbIb rm imm => 0xC0#8 :: encRm 2#3 rm ++ [imm]
  | .rclEvIb rm imm => 0xC1#8 :: encRm 2#3 rm ++ [imm]
  | .rclEb1 rm => 0xD0#8 :: encRm 2#3 rm
  | .rclEv1 rm => 0xD1#8 :: encRm 2#3 rm
  | .rclEbCl rm => 0xD2#8 :: encRm 2#3 rm
  | .rclEvCl rm => 0xD3#8 :: encRm 2#3 rm
  | .rcrEbIb rm imm => 0xC0#8 :: encRm 3#3 rm ++ [imm]
  | .rcrEvIb rm imm => 0xC1#8 :: encRm 3#3 rm ++ [imm]
  | .rcrEb1 rm => 0xD0#8 :: encRm 3#3 rm
  | .rcrEv1 rm => 0xD1#8 :: encRm 3#3 rm
  | .rcrEbCl rm => 0xD2#8 :: encRm 3#3 rm
  | .rcrEvCl rm => 0xD3#8 :: encRm 3#3 rm
  | .shlEbIb rm imm => 0xC0#8 :: encRm 4#3 rm ++ [imm]
  | .shlEvIb rm imm => 0xC1#8 :: encRm 4#3 rm ++ [imm]
  | .shlEb1 rm => 0xD0#8 :: encRm 4#3 rm
  | .shlEv1 rm => 0xD1#8 :: encRm 4#3 rm
  | .shlEbCl rm => 0xD2#8 :: encRm 4#3 rm
  | .shlEvCl rm => 0xD3#8 :: encRm 4#3 rm
  | .shrEbIb rm imm => 0xC0#8 :: encRm 5#3 rm ++ [imm]
  | .shrEvIb rm imm => 0xC1#8 :: encRm 5#3 rm ++ [imm]
  | .shrEb1 rm => 0xD0#8 :: encRm 5#3 rm
  | .shrEv1 rm => 0xD1#8 :: encRm 5#3 rm
  | .shrEbCl rm => 0xD2#8 :: encRm 5#3 rm
  | .shrEvCl rm => 0xD3#8 :: encRm 5#3 rm
  | .sarEbIb rm imm => 0xC0#8 :: encRm 7#3 rm ++ [imm]
  | .sarEvIb rm imm => 0xC1#8 :: encRm 7#3 rm ++ [imm]
  | .sarEb1 rm => 0xD0#8 :: encRm 7#3 rm
  | .sarEv1 rm => 0xD1#8 :: encRm 7#3 rm
  | .sarEbCl rm => 0xD2#8 :: encRm 7#3 rm
  | .sarEvCl rm => 0xD3#8 :: encRm 7#3 rm
  | .retNearIw imm => 0xC2#8 :: le16 imm
  | .lesGvMp r rm => 0xC4#8 :: encRm r.code rm
  | .ldsGvMp r rm => 0xC5#8 :: encRm r.code rm
  | .movEbIb rm imm => 0xC6#8 :: encRm 0#3 rm ++ [imm]
  | .movEvIv rm imm => 0xC7#8 :: encRm 0#3 rm ++ encV a.o32 imm
  | .enter imm lvl => 0xC8#8 :: le16 imm ++ [lvl]
  | .retFarIw imm => 0xCA#8 :: le16 imm
  | .intIb imm => [0xCD#8, imm]
  | .esc op n rm => (0xD8#8 ||| op.setWidth 8) :: encRm n rm
  | .loopne imm => [0xE0#8, imm]
  | .loope imm => [0xE1#8, imm]
  | .loop imm => [0xE2#8, imm]
  | .jcxz imm => [0xE3#8, imm]
  | .inAlIb imm => [0xE4#8, imm]
  | .inEaxIb imm => [0xE5#8, imm]
  | .outIbAl imm => [0xE6#8, imm]
  | .outIbEax imm => [0xE7#8, imm]
  | .callJv imm => 0xE8#8 :: encV a.o32 imm
  | .jmpJv imm => 0xE9#8 :: encV a.o32 imm
  | .jmpFarAp off sel => 0xEA#8 :: encV a.o32 off ++ le16 sel
  | .jmpJb imm => [0xEB#8, imm]
  | .testEbIb rm imm => 0xF6#8 :: encRm 0#3 rm ++ [imm]
  | .testEvIv rm imm => 0xF7#8 :: encRm 0#3 rm ++ encV a.o32 imm
  | .notEb rm => 0xF6#8 :: encRm 2#3 rm
  | .notEv rm => 0xF7#8 :: encRm 2#3 rm
  | .negEb rm => 0xF6#8 :: encRm 3#3 rm
  | .negEv rm => 0xF7#8 :: encRm 3#3 rm
  | .mulEb rm => 0xF6#8 :: encRm 4#3 rm
  | .mulEv rm => 0xF7#8 :: encRm 4#3 rm
  | .imulEb rm => 0xF6#8 :: encRm 5#3 rm
  | .imulEv rm => 0xF7#8 :: encRm 5#3 rm
  | .divEb rm => 0xF6#8 :: encRm 6#3 rm
  | .divEv rm => 0xF7#8 :: encRm 6#3 rm
  | .idivEb rm => 0xF6#8 :: encRm 7#3 rm
  | .idivEv rm => 0xF7#8 :: encRm 7#3 rm
  | .incEb rm => 0xFE#8 :: encRm 0#3 rm
  | .decEb rm => 0xFE#8 :: encRm 1#3 rm
  | .incEv rm => 0xFF#8 :: encRm 0#3 rm
  | .decEv rm => 0xFF#8 :: encRm 1#3 rm
  | .callNearEv rm => 0xFF#8 :: encRm 2#3 rm
  | .callFarMp rm => 0xFF#8 :: encRm 3#3 rm
  | .jmpNearEv rm => 0xFF#8 :: encRm 4#3 rm
  | .jmpFarMp rm => 0xFF#8 :: encRm 5#3 rm
  | .pushEv rm => 0xFF#8 :: encRm 6#3 rm
  | .sldtEw rm => 0x0F#8 :: 0x00#8 :: encRm 0#3 rm
  | .strEw rm => 0x0F#8 :: 0x00#8 :: encRm 1#3 rm
  | .lldtEw rm => 0x0F#8 :: 0x00#8 :: encRm 2#3 rm
  | .ltrEw rm => 0x0F#8 :: 0x00#8 :: encRm 3#3 rm
  | .verrEw rm => 0x0F#8 :: 0x00#8 :: encRm 4#3 rm
  | .verwEw rm => 0x0F#8 :: 0x00#8 :: encRm 5#3 rm
  | .sgdtMs rm => 0x0F#8 :: 0x01#8 :: encRm 0#3 rm
  | .sidtMs rm => 0x0F#8 :: 0x01#8 :: encRm 1#3 rm
  | .lgdtMs rm => 0x0F#8 :: 0x01#8 :: encRm 2#3 rm
  | .lidtMs rm => 0x0F#8 :: 0x01#8 :: encRm 3#3 rm
  | .smswEw rm => 0x0F#8 :: 0x01#8 :: encRm 4#3 rm
  | .lmswEw rm => 0x0F#8 :: 0x01#8 :: encRm 6#3 rm
  | .larGvEw r rm => 0x0F#8 :: 0x02#8 :: encRm r.code rm
  | .lslGvEw r rm => 0x0F#8 :: 0x03#8 :: encRm r.code rm
  | .movRdCd r n => 0x0F#8 :: 0x20#8 :: encRm n (.reg r)
  | .movRdDd r n => 0x0F#8 :: 0x21#8 :: encRm n (.reg r)
  | .movCdRd n r => 0x0F#8 :: 0x22#8 :: encRm n (.reg r)
  | .movDdRd n r => 0x0F#8 :: 0x23#8 :: encRm n (.reg r)
  | .movRdTd r n => 0x0F#8 :: 0x24#8 :: encRm n (.reg r)
  | .movTdRd n r => 0x0F#8 :: 0x26#8 :: encRm n (.reg r)
  | .jccJv cc imm => 0x0F#8 :: (0x80#8 ||| cc.code.setWidth 8) :: encV a.o32 imm
  | .setccEb cc rm => 0x0F#8 :: (0x90#8 ||| cc.code.setWidth 8) :: encRm 0#3 rm
  | .btEvGv rm r => 0x0F#8 :: 0xA3#8 :: encRm r.code rm
  | .shldEvGvIb rm r imm => 0x0F#8 :: 0xA4#8 :: encRm r.code rm ++ [imm]
  | .shldEvGvCl rm r => 0x0F#8 :: 0xA5#8 :: encRm r.code rm
  | .btsEvGv rm r => 0x0F#8 :: 0xAB#8 :: encRm r.code rm
  | .shrdEvGvIb rm r imm => 0x0F#8 :: 0xAC#8 :: encRm r.code rm ++ [imm]
  | .shrdEvGvCl rm r => 0x0F#8 :: 0xAD#8 :: encRm r.code rm
  | .imulGvEv r rm => 0x0F#8 :: 0xAF#8 :: encRm r.code rm
  | .lssGvMp r rm => 0x0F#8 :: 0xB2#8 :: encRm r.code rm
  | .btrEvGv rm r => 0x0F#8 :: 0xB3#8 :: encRm r.code rm
  | .lfsGvMp r rm => 0x0F#8 :: 0xB4#8 :: encRm r.code rm
  | .lgsGvMp r rm => 0x0F#8 :: 0xB5#8 :: encRm r.code rm
  | .movzxGvEb r rm => 0x0F#8 :: 0xB6#8 :: encRm r.code rm
  | .movzxGdEw r rm => 0x0F#8 :: 0xB7#8 :: encRm r.code rm
  | .btEvIb rm imm => 0x0F#8 :: 0xBA#8 :: encRm 4#3 rm ++ [imm]
  | .btsEvIb rm imm => 0x0F#8 :: 0xBA#8 :: encRm 5#3 rm ++ [imm]
  | .btrEvIb rm imm => 0x0F#8 :: 0xBA#8 :: encRm 6#3 rm ++ [imm]
  | .btcEvIb rm imm => 0x0F#8 :: 0xBA#8 :: encRm 7#3 rm ++ [imm]
  | .btcEvGv rm r => 0x0F#8 :: 0xBB#8 :: encRm r.code rm
  | .bsfGvEv r rm => 0x0F#8 :: 0xBC#8 :: encRm r.code rm
  | .bsrGvEv r rm => 0x0F#8 :: 0xBD#8 :: encRm r.code rm
  | .movsxGvEb r rm => 0x0F#8 :: 0xBE#8 :: encRm r.code rm
  | .movsxGdEw r rm => 0x0F#8 :: 0xBF#8 :: encRm r.code rm
  | .pushEs => [0x06#8]
  | .popEs => [0x07#8]
  | .pushCs => [0x0E#8]
  | .pushSs => [0x16#8]
  | .popSs => [0x17#8]
  | .pushDs => [0x1E#8]
  | .popDs => [0x1F#8]
  | .pushFs => 0x0F#8 :: [0xA0#8]
  | .popFs => 0x0F#8 :: [0xA1#8]
  | .pushGs => 0x0F#8 :: [0xA8#8]
  | .popGs => 0x0F#8 :: [0xA9#8]
  | .prefixEs => [0x26#8]
  | .prefixCs => [0x2E#8]
  | .prefixSs => [0x36#8]
  | .prefixDs => [0x3E#8]
  | .prefixFs => [0x64#8]
  | .prefixGs => [0x65#8]
  | .prefixOpsize => [0x66#8]
  | .prefixAdsize => [0x67#8]
  | .prefixLock => [0xF0#8]
  | .prefixRepne => [0xF2#8]
  | .prefixRep => [0xF3#8]
  | .daa => [0x27#8]
  | .das => [0x2F#8]
  | .aaa => [0x37#8]
  | .aas => [0x3F#8]
  | .pusha => [0x60#8]
  | .popa => [0x61#8]
  | .insb => [0x6C#8]
  | .insv => [0x6D#8]
  | .outsb => [0x6E#8]
  | .outsv => [0x6F#8]
  | .nop => [0x90#8]
  | .cbwCwde => [0x98#8]
  | .cwdCdq => [0x99#8]
  | .wait => [0x9B#8]
  | .pushf => [0x9C#8]
  | .popf => [0x9D#8]
  | .sahf => [0x9E#8]
  | .lahf => [0x9F#8]
  | .movsb => [0xA4#8]
  | .movsv => [0xA5#8]
  | .cmpsb => [0xA6#8]
  | .cmpsv => [0xA7#8]
  | .stosb => [0xAA#8]
  | .stosv => [0xAB#8]
  | .lodsb => [0xAC#8]
  | .lodsv => [0xAD#8]
  | .scasb => [0xAE#8]
  | .scasv => [0xAF#8]
  | .retNear => [0xC3#8]
  | .leave => [0xC9#8]
  | .retFar => [0xCB#8]
  | .int3 => [0xCC#8]
  | .into => [0xCE#8]
  | .iret => [0xCF#8]
  | .xlat => [0xD7#8]
  | .inAlDx => [0xEC#8]
  | .inEaxDx => [0xED#8]
  | .outDxAl => [0xEE#8]
  | .outDxEax => [0xEF#8]
  | .hlt => [0xF4#8]
  | .cmc => [0xF5#8]
  | .clc => [0xF8#8]
  | .stc => [0xF9#8]
  | .cli => [0xFA#8]
  | .sti => [0xFB#8]
  | .cld => [0xFC#8]
  | .std => [0xFD#8]
  | .clts => 0x0F#8 :: [0x06#8]
  | .undef82 => [0x82#8]
  | .undefD6 => [0xD6#8]
  | .undefF1 => [0xF1#8]

end Sys2Proof
end

