-- ==== Sys2Proof/Config.lean ====
section
/-! DEFINITION. What the spec leaves open: free values, and what each implementation decides. None has a body, so no proof
can use a particular value (00_scope.md R7, R19; 93_implementation_defined.md). -/
namespace Sys2Proof

/-- The n-th undefined value ("draw") of a run; the machine's counter `State.draws` supplies n (log entry 1). -/
opaque Config.freeValue : Nat → BitVec 64

/-- What a port read returns from the platform: the draw counter, the port number, the width in bytes
(20_memory.md R105; log entry 2). -/
opaque Config.portInput : Nat → BitVec 16 → Nat → BitVec 32

/-- What a byte of the physical address space that no memory backs reads as, a device's register or nothing at all: the draw
counter, the address (20_memory.md R100, R107; 93_implementation_defined.md I3; log entry 5). -/
opaque Config.busByte : Nat → BitVec 32 → BitVec 8

/-- `ESC_CHECKS_ERROR`: which ESC instructions test ERROR# (46_block_flag_coproc_misc.md R440; log entry 3). -/
opaque Config.escChecksError : BitVec 3 → BitVec 3 → Rm → Bool

/-- Kind of coprocessor (00_scope.md R7 `COPROCESSOR`). -/
inductive Coprocessor where
  | absent
  | i287
  | i387
deriving DecidableEq, Repr

/-- What a coprocessor does on the processor's bus with one instruction: how many operand bytes of memory it transfers, whether
it stores them or reads them, and the word it writes to AX, if any (61_debug_coproc_multiproc.md R690, R694; log entry 9). -/
structure CopAction where
  bytes : Nat
  stores : Bool
  ax : Option (BitVec 16)
deriving DecidableEq, Repr, Inhabited

/-- The coprocessor agent's answer to an instruction: its kind, the draw counter, the opcode bits, the `reg` field and the
operand (46_block_flag_coproc_misc.md R440, D42; log entry 9). -/
opaque Config.copAction : Coprocessor → Nat → BitVec 3 → BitVec 3 → Rm → CopAction

/-- The k-th byte a coprocessor stores: the draw counter, k (46_block_flag_coproc_misc.md R440; log entry 9). -/
opaque Config.copByte : Nat → Nat → BitVec 8

end Sys2Proof
end

