-- ==== Sys2Proof/Machine/State.lean ====
section
/-! DEFINITION. The machine's state, all of it plain data: every register the spec names, hidden parts included, memory, and
what a step in progress must remember (10_state.md R30 to R95; 61_debug_coproc_multiproc.md R661). Fields that are the
model's own, not the spec's, say so. -/
namespace Sys2Proof.Machine

/-- The eight general registers (R30). -/
structure Gpr where
  eax : BitVec 32
  ecx : BitVec 32
  edx : BitVec 32
  ebx : BitVec 32
  esp : BitVec 32
  ebp : BitVec 32
  esi : BitVec 32
  edi : BitVec 32
deriving DecidableEq, Repr

/-- A segment register: the visible selector and the hidden descriptor (R41). `typ` is the descriptor's 4-bit TYPE
(executable, expand-down or conforming, writable or readable, accessed); `db` its bit 22; `valid` is false after a
null selector was loaded (R44). -/
structure SegReg where
  sel : BitVec 16
  base : BitVec 32
  limit : BitVec 32
  p : Bool
  dpl : BitVec 2
  s : Bool
  typ : BitVec 4
  db : Bool
  valid : Bool
deriving DecidableEq, Repr

/-- The six segment registers (R40). -/
structure Segs where
  es : SegReg
  cs : SegReg
  ss : SegReg
  ds : SegReg
  fs : SegReg
  gs : SegReg
deriving DecidableEq, Repr

/-- The defined flags of EFLAGS; the reserved bits are fixed (R50, D10) and appear only in the register's image. -/
structure Eflags where
  CF : Bool
  PF : Bool
  AF : Bool
  ZF : Bool
  SF : Bool
  TF : Bool
  IF : Bool
  DF : Bool
  OF : Bool
  IOPL : BitVec 2
  NT : Bool
  RF : Bool
  VM : Bool
deriving DecidableEq, Repr

/-- GDTR or IDTR (R73, R74). -/
structure TableReg where
  base : BitVec 32
  limit : BitVec 16
deriving DecidableEq, Repr

/-- TR: selector and hidden base and limit; `valid` is true once a TSS descriptor was loaded (R76). -/
structure SysSegReg where
  sel : BitVec 16
  base : BitVec 32
  limit : BitVec 32
  valid : Bool
deriving DecidableEq, Repr

/-- LDTR: selector and hidden base, limit and attributes, the latter being the P, DPL, S and TYPE fields of the LDT
descriptor; `valid` is false while the hidden part holds no descriptor (R75; 49_multitasking.md R556). -/
structure LdtReg where
  sel : BitVec 16
  base : BitVec 32
  limit : BitVec 32
  p : Bool
  dpl : BitVec 2
  s : Bool
  typ : BitVec 4
  valid : Bool
deriving DecidableEq, Repr

/-- The defined bits of CR0; bits 30 to 5 read as draws (R60). -/
structure Cr0 where
  PE : Bool
  MP : Bool
  EM : Bool
  TS : Bool
  ET : Bool
  PG : Bool
deriving DecidableEq, Repr

/-- A set over the four breakpoint conditions. -/
structure Hits where
  b0 : Bool
  b1 : Bool
  b2 : Bool
  b3 : Bool
deriving DecidableEq, Repr

/-- The debug registers DR0 to DR3, DR6, DR7 (R77 to R79) and the debug machinery's own state
(61_debug_coproc_multiproc.md R661, R673): `pending` is `dbg_pending` without its BS and BT members, `matched` the
per-instruction scratch set, `late` the reports held back one instruction when LE and GE are 0, `seen` the conditions the last
instruction matched with none of them enabled, which a debug exception of another cause at its boundary reports too (R676). -/
structure Debug where
  dr0 : BitVec 32
  dr1 : BitVec 32
  dr2 : BitVec 32
  dr3 : BitVec 32
  dr6 : BitVec 32
  dr7 : BitVec 32
  pending : Hits
  pendingBS : Bool
  pendingBT : Bool
  matched : Hits
  late : Hits
  seen : Hits
  tfAtStart : Bool
deriving DecidableEq, Repr

/-- One TLB entry: tag (linear page number, V, D, U, W) and data (physical page number) (R85). The MODEL's own `known` is false
while nothing has written the tag, V apart (20_memory.md R142 "uninitialized tags"; log entry 16). -/
structure TlbEntry where
  v : Bool
  page : BitVec 20
  d : Bool
  u : Bool
  w : Bool
  phys : BitVec 20
  known : Bool
deriving DecidableEq, Repr

/-- The run states of R90. -/
inductive RunState where
  | running
  | halted
  | shutdown
deriving DecidableEq, Repr

/-- Repeat prefix state (30_encoding.md R203). -/
inductive RepPrefix where
  | none
  | rep
  | repne
deriving DecidableEq, Repr

/-- Prefix state of the instruction being decoded (30_encoding.md R203), and the MODEL's own `count` of prefix bytes
consumed: 0 at an instruction boundary (log entry 10). -/
structure Prefixes where
  segOvr : Option SReg
  opsize : Bool
  adsize : Bool
  rep : RepPrefix
  lock : Bool
  count : Nat
deriving DecidableEq, Repr

/-- An error code: none, one of the selector format with its low word (60_exceptions.md R606), or the page-fault format
with P, W/R, U/S (R595). The undefined upper bits are drawn when it is pushed. -/
inductive ErrCode where
  | none
  | sel (code : BitVec 16)
  | page (p w u : Bool)
deriving DecidableEq, Repr

/-- A processor-detected exception: vector and error code (60_exceptions.md R582). -/
structure Exc where
  vec : BitVec 8
  err : ErrCode
deriving DecidableEq, Repr

/-- External inputs (R89): INTR with the vector the controller will supply, the NMI and RESET signals, BUSY#, ERROR#. -/
structure Pins where
  intr : Option (BitVec 8)
  nmi : Bool
  reset : Bool
  busy : Bool
  error : Bool
deriving DecidableEq, Repr

/-- What backs a physical address (00_scope.md R7 `PHYS_MEM_MAP`): memory that keeps what is written, memory that loses it,
a device, or nothing (20_memory.md R100, R101, R107). -/
inductive MemKind where
  | ram
  | rom
  | device
  | nothing
deriving DecidableEq, Repr

/-- A range of physical addresses, both ends included, and what backs it. -/
structure Region where
  base : BitVec 32
  last : BitVec 32
  kind : MemKind
deriving DecidableEq, Repr

/-- Platform parameters the spec leaves OPEN (92_eei_decisions.md part 2), held as data so that statements range over all
of their values (log entry 4). `selfTestResult` is what EAX holds after a self-test that BUSY# requested (R93). `memMap` is
`PHYS_MEM_MAP`: the first region that holds an address says what backs it, and an address in none is RAM (log entry 5). -/
structure Platform where
  coprocessor : Coprocessor
  steppingId : BitVec 8
  selfTestResult : BitVec 32
  iceInUse : Bool
  prefetchDepth : Nat
  eipWrap : Bool
  seltestSetsAccessed : Bool
  tlbFills : Bool
  memMap : List Region
deriving DecidableEq, Repr

/-- An output to a port: number, width in bytes, value (20_memory.md R105). -/
structure PortWrite where
  port : BitVec 16
  bytes : Nat
  value : BitVec 32
deriving DecidableEq, Repr

/-- A byte written to a device in the memory space (20_memory.md R107). -/
structure BusWrite where
  addr : BitVec 32
  value : Byte
deriving DecidableEq, Repr

/-- Why LOCK# is asserted (20_memory.md R150, R151): a LOCK prefix, XCHG with memory, an interrupt acknowledge, the setting of
a busy bit, the loading of a descriptor, the updating of accessed and dirty bits. -/
inductive LockCause where
  | prefixed
  | exchange
  | acknowledge
  | busyBit
  | descriptor
  | pageEntry
deriving DecidableEq, Repr

/-- A sequence of accesses made with LOCK# asserted: why, and at which physical bytes; a descriptor is named by its linear
address alone, and an acknowledge has none (10_state.md R89; 20_memory.md R150, R151). -/
structure LockedCycle where
  cause : LockCause
  bytes : List (BitVec 32)
deriving DecidableEq, Repr

/-- An instruction handed to the coprocessor: its opcode bits, for a memory form segment and offset, and the operand bytes
read for it from memory (46_block_flag_coproc_misc.md R440). -/
structure CopCommand where
  op : BitVec 3
  reg : BitVec 3
  operand : Rm
  address : Option (SReg × BitVec 32)
  data : List Byte
deriving DecidableEq, Repr

/-- The whole machine. -/
structure State where
  /-- EAX to EDI (R30) -/
  gpr : Gpr
  /-- ES, CS, SS, DS, FS, GS with hidden parts (R40, R41) -/
  seg : Segs
  /-- EIP (R70); during an instruction it stays `EIP_start` (R71) -/
  eip : BitVec 32
  /-- `EIP_next` of the instruction in progress (R71): where EIP goes when it completes -/
  eipNext : BitVec 32
  /-- EFLAGS (R50) -/
  flags : Eflags
  /-- the current privilege level (R84) -/
  cpl : BitVec 2
  /-- GDTR (R73) -/
  gdtr : TableReg
  /-- IDTR (R74) -/
  idtr : TableReg
  /-- LDTR (R75) -/
  ldtr : LdtReg
  /-- TR (R76) -/
  tr : SysSegReg
  /-- CR0 (R60) -/
  cr0 : Cr0
  /-- CR2 (R65) -/
  cr2 : BitVec 32
  /-- CR3 bits 31 to 12, the PDBR (R66) -/
  cr3 : BitVec 20
  /-- debug registers and debug state (R77 to R79; R661) -/
  dbg : Debug
  /-- TR6 (R82) -/
  tr6 : BitVec 32
  /-- TR7 (R83) -/
  tr7 : BitVec 32
  /-- the page-translation cache: four blocks of eight entries, entry `8 * block + set` (R85) -/
  tlb : List TlbEntry
  /-- MODEL's own: EIP, or `EIP_next` during an instruction, was reached by running past offset FFFFFFFFH, not by a transfer
  (R72, D11; log entry 28) -/
  pastEnd : Bool
  /-- the prefetch queue: slot k is the byte k past the next one to fetch, `none` where it was not fetched ahead (R86) -/
  queue : List (Option Byte)
  /-- MODEL's own: the bytes of the instruction in progress, prefixes included, which its own repetition may find again in the
  queue (log entry 15) -/
  fetched : List Byte
  /-- `nmi_in_service` (R87) -/
  nmiInService : Bool
  /-- `nmi_pending` (R87) -/
  nmiPending : Bool
  /-- `ss_shadow` (R88) -/
  ssShadow : Bool
  /-- `sti_shadow` (R88) -/
  stiShadow : Bool
  /-- running, halted or shutdown (R90) -/
  run : RunState
  /-- ghost flag `a31_20_high` (R90): no rule reads it -/
  a31High : Bool
  /-- prefix state of R203 and the model's count of consumed prefix bytes -/
  pfx : Prefixes
  /-- MODEL's own: an exception raised after a task switch committed, due in the new task (log entry 12) -/
  pendingExc : Option Exc
  /-- external inputs (R89) -/
  pins : Pins
  /-- open platform parameters -/
  plat : Platform
  /-- MODEL's own: how many free values have been drawn (log entry 1) -/
  draws : Nat
  /-- port writes so far, newest first: the machine's observable output (20_memory.md R105) -/
  ioOut : List PortWrite
  /-- commands handed to the coprocessor, newest first (R440) -/
  copOut : List CopCommand
  /-- bytes written to devices in the memory space, newest first (20_memory.md R107) -/
  busOut : List BusWrite
  /-- the LOCK# output: sequences made with it asserted, newest first (R89; 20_memory.md R150, R151) -/
  lockOut : List LockedCycle
  /-- physical memory in canonical form (20_memory.md R100; log entry 5) -/
  mem : List Host.Cell
deriving DecidableEq, Repr

/-- The model has no fault: every event the 80386 reports is an exception whose entry is modelled, and shutdown is a run
state (R90). The type is empty. -/
inductive Fault where
deriving DecidableEq, Repr

/-- Reasons the model has no step. Every one is safe: nothing is claimed about what the hardware does there. -/
inductive Refusal where
  /-- raised by exec for an instruction that has no meaning yet -/
  | notModelled (mnemonic : String)
  /-- raised when EFLAGS.VM is or would become 1 (00_scope.md R6 (a), D3) -/
  | virtual8086
  /-- raised when a transfer, delivery or task switch meets an 80286 gate or TSS (00_scope.md R6 (b), D4) -/
  | format286
  /-- raised by an ESC that passes its tests with no coprocessor agent (00_scope.md R6 (c), D42) -/
  | coprocessorAbsent
deriving DecidableEq, Repr

/-- No breakpoint condition. -/
def Hits.none : Hits := ⟨false, false, false, false⟩

/-- No prefix read. -/
def Prefixes.empty : Prefixes := ⟨none, false, false, .none, false, 0⟩

/-- A hidden part as reset leaves it: present, DPL 0, writable data, accessed, 16-bit, limit FFFFH (R94). -/
def SegReg.afterReset (sel : BitVec 16) (base : BitVec 32) : SegReg :=
  { sel := sel, base := base, limit := 0xFFFF#32, p := true, dpl := 0#2, s := true, typ := 3#4, db := false, valid := true }

/-- EFLAGS = 00000002H (R92). -/
def Eflags.afterReset : Eflags :=
  { CF := false, PF := false, AF := false, ZF := false, SF := false, TF := false, IF := false, DF := false, OF := false,
    IOPL := 0#2, NT := false, RF := false, VM := false }

/-- A TLB entry that matches nothing. -/
def TlbEntry.empty : TlbEntry := ⟨false, 0#20, false, false, false, 0#20, false⟩

/-- The platform the reset state describes (log entry 4). -/
def Platform.default : Platform :=
  { coprocessor := .absent, steppingId := 0#8, selfTestResult := 0#32, iceInUse := false, prefetchDepth := 0, eipWrap := false,
    seltestSetsAccessed := true, tlbFills := true, memMap := [] }

/-- The machine right after RESET (10_state.md R92 to R95; 70_reset_and_hazards.md R700). Registers the spec leaves
undefined hold 0 (log entry 6). -/
def State.reset : State :=
  { gpr := { eax := 0#32, ecx := 0#32, edx := 0x0300#32, ebx := 0#32, esp := 0#32, ebp := 0#32, esi := 0#32, edi := 0#32 }
    seg := { es := SegReg.afterReset 0#16 0#32, cs := SegReg.afterReset 0xF000#16 0xFFFF0000#32,
             ss := SegReg.afterReset 0#16 0#32, ds := SegReg.afterReset 0#16 0#32,
             fs := SegReg.afterReset 0#16 0#32, gs := SegReg.afterReset 0#16 0#32 }
    eip := 0xFFF0#32
    eipNext := 0xFFF0#32
    flags := Eflags.afterReset
    cpl := 0#2
    gdtr := ⟨0#32, 0#16⟩
    idtr := ⟨0#32, 0x3FF#16⟩
    ldtr := ⟨0#16, 0#32, 0#32, false, 0#2, false, 0#4, false⟩
    tr := ⟨0#16, 0#32, 0#32, false⟩
    cr0 := ⟨false, false, false, false, false, false⟩
    cr2 := 0#32
    cr3 := 0#20
    dbg := { dr0 := 0#32, dr1 := 0#32, dr2 := 0#32, dr3 := 0#32, dr6 := 0#32, dr7 := 0#32, pending := Hits.none,
             pendingBS := false, pendingBT := false, matched := Hits.none, late := Hits.none, seen := Hits.none, tfAtStart := false }
    tr6 := 0#32
    tr7 := 0#32
    tlb := List.replicate 32 TlbEntry.empty
    pastEnd := false
    queue := []
    fetched := []
    nmiInService := false
    nmiPending := false
    ssShadow := false
    stiShadow := false
    run := .running
    a31High := true
    pfx := Prefixes.empty
    pendingExc := none
    pins := ⟨none, false, false, false, false⟩
    plat := Platform.default
    draws := 0
    ioOut := []
    copOut := []
    busOut := []
    lockOut := []
    mem := [] }

end Sys2Proof.Machine
end

