-- ==== Sys2Proof/Machine/Memory.lean ====
section
/-! DEFINITION. Physical memory in one canonical form, byte order, and the machine monad with its free values
(20_memory.md R100 to R102). -/
namespace Sys2Proof.Machine

/-! ## Memory -/

/-- What an address that the list does not hold reads as (log entry 5). -/
def Memory.default : Byte := 0#8

/-- Canonical form: addresses strictly rising and below 2^32, no entry equal to the default. -/
def Memory.wf : List Host.Cell → Bool
  | [] => true
  | (a, v) :: rest =>
    decide (a < 2 ^ 32) && v != Memory.default && (match rest with | [] => true | (b, _) :: _ => decide (a < b)) && Memory.wf rest

/-- The byte at an address. -/
def Memory.read : List Host.Cell → Nat → Byte
  | [], _ => Memory.default
  | (k, v) :: rest, a => if k = a then v else Memory.read rest a

/-- Store a byte, keeping the canonical form. -/
def Memory.write : List Host.Cell → Nat → Byte → List Host.Cell
  | [], a, v => if v = Memory.default then [] else [(a, v)]
  | (k, w) :: rest, a, v =>
    if a < k then (if v = Memory.default then (k, w) :: rest else (a, v) :: (k, w) :: rest)
    else if a = k then (if v = Memory.default then rest else (a, v) :: rest)
    else (k, w) :: Memory.write rest a v

/-- A located operand: the physical address of each of its bytes, lowest first. -/
abbrev Loc := List (BitVec 32)

/-- `n` consecutive physical addresses, modulo 2^32 (R100, D20). -/
def Loc.from (pa : BitVec 32) : Nat → Loc
  | 0 => []
  | n + 1 => pa :: Loc.from (pa + 1#32) n

/-- What backs a physical address: the first region that holds it, RAM where there is none (`PHYS_MEM_MAP`, 00_scope.md R7;
log entry 5). -/
def kindIn : List Region → BitVec 32 → MemKind
  | [], _ => .ram
  | r :: rest, a => if r.base.toNat ≤ a.toNat ∧ a.toNat ≤ r.last.toNat then r.kind else kindIn rest a

/-- Memory holds a byte there, whether or not it can be written. -/
def MemKind.holds : MemKind → Bool
  | .ram => true | .rom => true | .device => false | .nothing => false

/-- The byte a read finds at a physical address: memory's, or a free value where no memory answers (R100, R107). -/
def Memory.busRead (map : List Region) (draws : Nat) (m : List Host.Cell) (a : BitVec 32) : Byte :=
  if (kindIn map a).holds then Memory.read m a.toNat else Config.busByte draws a

/-- The little-endian value of the bytes at a location (R102). -/
def Memory.loadNat (map : List Region) (draws : Nat) (m : List Host.Cell) : Loc → Nat
  | [] => 0
  | a :: rest => (Memory.busRead map draws m a).toNat + 256 * Memory.loadNat map draws m rest

/-- Store the low bytes of a value, least significant first; only RAM keeps them (R101, R102). -/
def Memory.storeNat (map : List Region) (m : List Host.Cell) : Loc → Nat → List Host.Cell
  | [], _ => m
  | a :: rest, v =>
    Memory.storeNat map (if kindIn map a = .ram then Memory.write m a.toNat (BitVec.ofNat 8 v) else m) rest (v / 256)

/-- The bytes of a store that devices receive, added to those they have received (R107). That a device sees them one by one, the
lowest address first, is the model's choice (R104; 93_implementation_defined.md I4; log entry 35, DESIGN CHOICE). -/
def busWrites (map : List Region) (out : List BusWrite) : Loc → Nat → List BusWrite
  | [], _ => out
  | a :: rest, v => busWrites map (if kindIn map a = .device then ⟨a, BitVec.ofNat 8 v⟩ :: out else out) rest (v / 256)

/-- What backs a physical address. -/
def State.kindAt (s : State) (a : BitVec 32) : MemKind := kindIn s.plat.memMap a

/-- The byte memory holds at a physical address (RAM and ROM). -/
def State.byteAt (s : State) (a : BitVec 32) : Byte := Memory.read s.mem a.toNat

/-- Read a value at a location. -/
def State.load (s : State) (w : Nat) (l : Loc) : BitVec w := BitVec.ofNat w (Memory.loadNat s.plat.memMap s.draws s.mem l)

/-- Store a value at a location: RAM keeps it, devices receive it, ROM and nothing lose it (R101, R107; I3). -/
def State.store (s : State) {w : Nat} (l : Loc) (v : BitVec w) : State :=
  { s with mem := Memory.storeNat s.plat.memMap s.mem l v.toNat, busOut := busWrites s.plat.memMap s.busOut l v.toNat }

/-- Every byte of a location is in memory. -/
def State.holdsAll (s : State) (l : Loc) : Bool := l.all fun a => (s.kindAt a).holds

/-- The machine about to access a location: where memory does not hold all of it, the next draw, so that two reads of a
device need not agree (R107; log entry 5). -/
def State.settled (s : State) (l : Loc) : State := if s.holdsAll l then s else { s with draws := s.draws + 1 }

/-- LOCK# asserted for a sequence of accesses (R150, R151; 10_state.md R89). -/
def State.asserting (s : State) (c : LockCause) (l : Loc) : State := { s with lockOut := ⟨c, l⟩ :: s.lockOut }

/-! ## The machine monad -/

/-- Why a computation on the machine ends early. -/
inductive Halt where
  /-- an exception found in the current context -/
  | exc (e : Exc)
  /-- an exception found after a task switch committed: it belongs to the incoming task (49_multitasking.md R556) -/
  | late (e : Exc)
  /-- the processor shuts down (60_exceptions.md R589) -/
  | shutdown
  /-- the coprocessor segment overrun, an abort, with the EIP it saves (61_debug_coproc_multiproc.md R694) -/
  | abort (ret : BitVec 32)
  /-- the model has no step -/
  | refuse (r : Refusal)
deriving DecidableEq, Repr

/-- Computations on the machine. -/
abbrev M := EStateM Halt State

/-- The current state. -/
def getS : M State := fun s => .ok s s

/-- Change the state. -/
def modS (f : State → State) : M Unit := fun s => .ok () (f s)

/-- End with a reason. -/
def halt {α : Type} (h : Halt) : M α := fun s => .error h s

/-- Raise exception `vec` with an error code (60_exceptions.md R581). -/
def raise {α : Type} (vec : BitVec 8) (err : ErrCode) : M α := halt (.exc ⟨vec, err⟩)

/-- Go on only if the condition holds, else raise. -/
def require (c : Bool) (vec : BitVec 8) (err : ErrCode) : M Unit := if c then pure () else raise vec err

/-- A free value of `w` bits, at most 64 (00_scope.md R19; log entry 1). -/
def draw (w : Nat) : M (BitVec w) := fun s =>
  .ok ((Config.freeValue s.draws).setWidth w) { s with draws := s.draws + 1 }

/-- A free truth value. -/
def drawBool : M Bool := fun s =>
  .ok ((Config.freeValue s.draws).getLsbD 0) { s with draws := s.draws + 1 }

/-! Vectors of the exceptions the processor raises (60_exceptions.md R582). -/
def vDE : BitVec 8 := 0#8
def vDB : BitVec 8 := 1#8
def vNMI : BitVec 8 := 2#8
def vBP : BitVec 8 := 3#8
def vOF : BitVec 8 := 4#8
def vBR : BitVec 8 := 5#8
def vUD : BitVec 8 := 6#8
def vNM : BitVec 8 := 7#8
def vDF : BitVec 8 := 8#8
def vMP : BitVec 8 := 9#8
def vTS : BitVec 8 := 10#8
def vNP : BitVec 8 := 11#8
def vSS : BitVec 8 := 12#8
def vGP : BitVec 8 := 13#8
def vPF : BitVec 8 := 14#8
def vMF : BitVec 8 := 16#8

/-- Raise #UD (60_exceptions.md R587). -/
def raiseUD {α : Type} : M α := raise vUD .none

/-- Error code of a selector: RPL replaced by I = 0 and EXT (60_exceptions.md R606). -/
def selCode (sel : BitVec 16) (ext : Bool) : ErrCode :=
  .sel ((sel &&& 0xFFFC#16) ||| (if ext then 1#16 else 0#16))

/-- Error code 0, plus EXT. -/
def zeroCode (ext : Bool) : ErrCode := selCode 0#16 ext

/-- Error code naming an IDT entry: index v, I = 1 (60_exceptions.md R606). -/
def idtCode (v : BitVec 8) (ext : Bool) : ErrCode :=
  .sel ((v.setWidth 16 <<< 3) ||| 2#16 ||| (if ext then 1#16 else 0#16))

end Sys2Proof.Machine
end

