-- ==== Sys2Proof/Machine/Registers.lean ====
section
/-! DEFINITION. Register access: aliases of the general registers, segment registers, EFLAGS images, size attributes, the
stack pointer (10_state.md R30 to R60; 30_encoding.md R205 to R207). -/
namespace Sys2Proof.Machine

/-- A 32-bit general register by code (30_encoding.md R212). -/
def Gpr.get (g : Gpr) : Reg → BitVec 32
  | .ax => g.eax | .cx => g.ecx | .dx => g.edx | .bx => g.ebx
  | .sp => g.esp | .bp => g.ebp | .si => g.esi | .di => g.edi

/-- Write a 32-bit general register. -/
def Gpr.set (g : Gpr) (r : Reg) (v : BitVec 32) : Gpr :=
  match r with
  | .ax => { g with eax := v } | .cx => { g with ecx := v } | .dx => { g with edx := v } | .bx => { g with ebx := v }
  | .sp => { g with esp := v } | .bp => { g with ebp := v } | .si => { g with esi := v } | .di => { g with edi := v }

/-- The 32-bit register that holds a byte register, and whether the byte is bits 15..8 (R31). -/
def byteHome : Reg → Reg × Bool
  | .ax => (.ax, false) | .cx => (.cx, false) | .dx => (.dx, false) | .bx => (.bx, false)
  | .sp => (.ax, true) | .bp => (.cx, true) | .si => (.dx, true) | .di => (.bx, true)

/-- Replace bits 7..0 of a doubleword. -/
def setByteLo (x : BitVec 32) (v : BitVec 8) : BitVec 32 := x.extractLsb' 8 24 ++ v
/-- Replace bits 15..8 of a doubleword. -/
def setByteHi (x : BitVec 32) (v : BitVec 8) : BitVec 32 := x.extractLsb' 16 16 ++ v ++ x.extractLsb' 0 8
/-- Replace bits 15..0 of a doubleword. -/
def setWordLo (x : BitVec 32) (v : BitVec 16) : BitVec 32 := x.extractLsb' 16 16 ++ v

/-- A general register read at a width (R31). -/
def Gpr.read (g : Gpr) (sz : Size) (r : Reg) : BitVec sz.bits :=
  match sz with
  | .b => if (byteHome r).2 then (g.get (byteHome r).1).extractLsb' 8 8 else (g.get (byteHome r).1).extractLsb' 0 8
  | .w => (g.get r).extractLsb' 0 16
  | .d => g.get r

/-- A general register written at a width; the other bits keep their value (R31). -/
def Gpr.write (g : Gpr) (sz : Size) (r : Reg) (v : BitVec sz.bits) : Gpr :=
  match sz with
  | .b => if (byteHome r).2 then g.set (byteHome r).1 (setByteHi (g.get (byteHome r).1) v)
          else g.set (byteHome r).1 (setByteLo (g.get (byteHome r).1) v)
  | .w => g.set r (setWordLo (g.get r) v)
  | .d => g.set r v

/-- Read a general register at a width. -/
def State.reg (s : State) (sz : Size) (r : Reg) : BitVec sz.bits := s.gpr.read sz r
/-- Write a general register at a width. -/
def State.setReg (s : State) (sz : Size) (r : Reg) (v : BitVec sz.bits) : State := { s with gpr := s.gpr.write sz r v }

/-- Read a register in the machine monad. -/
def getReg (sz : Size) (r : Reg) : M (BitVec sz.bits) := fun s => .ok (s.reg sz r) s
/-- Write a register in the machine monad. -/
def putReg (sz : Size) (r : Reg) (v : BitVec sz.bits) : M Unit := modS fun s => s.setReg sz r v

/-- A segment register by name. -/
def Segs.get (g : Segs) : SReg → SegReg
  | .es => g.es | .cs => g.cs | .ss => g.ss | .ds => g.ds | .fs => g.fs | .gs => g.gs

/-- Write a segment register, hidden part included. -/
def Segs.set (g : Segs) (r : SReg) (v : SegReg) : Segs :=
  match r with
  | .es => { g with es := v } | .cs => { g with cs := v } | .ss => { g with ss := v }
  | .ds => { g with ds := v } | .fs => { g with fs := v } | .gs => { g with gs := v }

/-- Segment register named by a ModR/M `reg` field; 6 and 7 name none (47_segment_far_transfer.md R450). -/
def SReg.ofCode? (n : BitVec 3) : Option SReg :=
  match n.toNat with
  | 0 => some .es | 1 => some .cs | 2 => some .ss | 3 => some .ds | 4 => some .fs | 5 => some .gs | _ => none

/-- Write a segment register, hidden part included, in the machine monad. -/
def putSeg (r : SReg) (v : SegReg) : M Unit := modS fun s => { s with seg := s.seg.set r v }

/-! Hidden-part tests (21_protection.md R165). -/
/-- an executable segment -/
def SegReg.executable (r : SegReg) : Bool := r.typ.getLsbD 3
/-- bit 2: conforming (executable) or expand-down (data) -/
def SegReg.bit2 (r : SegReg) : Bool := r.typ.getLsbD 2
/-- bit 1: readable (executable) or writable (data) -/
def SegReg.bit1 (r : SegReg) : Bool := r.typ.getLsbD 1
/-- an expand-down data segment -/
def SegReg.expandDown (r : SegReg) : Bool := r.s && !r.executable && r.bit2

/-- A selector is null: index 0 and TI 0 (10_state.md R44). -/
def nullSel (sel : BitVec 16) : Bool := sel.extractLsb' 2 14 == 0#14
/-- RPL of a selector (10_state.md R43). -/
def rplOf (sel : BitVec 16) : BitVec 2 := sel.extractLsb' 0 2
/-- TI of a selector. -/
def tiOf (sel : BitVec 16) : Bool := sel.getLsbD 2
/-- INDEX of a selector. -/
def indexOf (sel : BitVec 16) : BitVec 13 := sel.extractLsb' 3 13
/-- A selector with its RPL replaced. -/
def withRpl (sel : BitVec 16) (rpl : BitVec 2) : BitVec 16 := sel.extractLsb' 2 14 ++ rpl

/-- One bit from a truth value. -/
def bit (b : Bool) : BitVec 1 := BitVec.ofBool b

/-- The 32-bit image of EFLAGS, reserved bits fixed (10_state.md R50). -/
def Eflags.toBits (f : Eflags) : BitVec 32 :=
  0#14 ++ bit f.VM ++ bit f.RF ++ 0#1 ++ bit f.NT ++ f.IOPL ++ bit f.OF ++ bit f.DF ++ bit f.IF ++ bit f.TF ++
  bit f.SF ++ bit f.ZF ++ 0#1 ++ bit f.AF ++ 0#1 ++ bit f.PF ++ 1#1 ++ bit f.CF

/-- EFLAGS from an image; reserved positions are ignored (10_state.md R50, D10). -/
def Eflags.ofBits (v : BitVec 32) : Eflags :=
  { CF := v.getLsbD 0, PF := v.getLsbD 2, AF := v.getLsbD 4, ZF := v.getLsbD 6, SF := v.getLsbD 7, TF := v.getLsbD 8,
    IF := v.getLsbD 9, DF := v.getLsbD 10, OF := v.getLsbD 11, IOPL := v.extractLsb' 12 2, NT := v.getLsbD 14,
    RF := v.getLsbD 16, VM := v.getLsbD 17 }

/-- Change flags in the machine monad. -/
def modFlags (f : Eflags → Eflags) : M Unit := modS fun s => { s with flags := f s.flags }

/-- Operand size as a width: word or doubleword. -/
def vSize (o32 : Bool) : Size := if o32 then .d else .w

/-- Size attributes of the instruction: the D bit of CS, each toggled by its prefix (30_encoding.md R205, R206). -/
def State.attrs (s : State) : Attrs :=
  { o32 := s.seg.cs.db != s.pfx.opsize, a32 := s.seg.cs.db != s.pfx.adsize }

/-- The operand-size attribute as a width. -/
def State.osz (s : State) : Size := vSize s.attrs.o32

/-- The stack address size is 32 when the B bit of SS is set (30_encoding.md R207). -/
def State.ssz32 (s : State) : Bool := s.seg.ss.db

/-- An offset of the stack's address size: wrapped to 16 bits when the size is 16. -/
def wrapOff (is32 : Bool) (v : BitVec 32) : BitVec 32 := if is32 then v else (v.extractLsb' 0 16).setWidth 32

/-- The stack pointer: ESP, or SP zero-extended (10_state.md R46). -/
def State.stackPtr (s : State) : BitVec 32 := wrapOff s.ssz32 s.gpr.esp

/-- Write the stack pointer: ESP, or SP leaving the upper half (10_state.md R46, R47). -/
def State.setStackPtr (s : State) (v : BitVec 32) : State :=
  { s with gpr := { s.gpr with esp := if s.ssz32 then v else setWordLo s.gpr.esp (v.extractLsb' 0 16) } }

/-- Transfer control: the instruction's `EIP_next` becomes the target, and the prefetch queue is discarded
(10_state.md R71, R86). -/
def State.jump (s : State) (target : BitVec 32) : State := { s with eipNext := target, pastEnd := false, queue := [] }

/-- Protected mode. -/
def State.protectedMode (s : State) : Bool := s.cr0.PE

/-- User level of an access made by an instruction: CPL = 3 (20_memory.md R120). -/
def State.user (s : State) : Bool := s.cpl == 3#2

end Sys2Proof.Machine
end

