-- ==== Sys2Proof/Machine/Access.lean ====
section
/-! DEFINITION. Memory access: page translation and its cache, data breakpoints, segment checks, operand access, the stack
(20_memory.md R120 to R142; 21_protection.md R170 to R173; 61_debug_coproc_multiproc.md R670 to R674; 10_state.md R46). -/
namespace Sys2Proof.Machine

/-! ## Page translation -/

/-- Raise #PF: CR2 receives the linear address (60_exceptions.md R595). -/
def pageFault {α : Type} (la : BitVec 32) (present write user : Bool) : M α := do
  modS fun s => { s with cr2 := la }
  raise vPF (.page present write user)

/-- A doubleword of physical memory. -/
def State.phys32 (s : State) (pa : BitVec 32) : BitVec 32 := s.load 32 (Loc.from pa 4)

/-- Physical address of the directory entry for a linear address (20_memory.md R133). -/
def State.pdeAddr (s : State) (la : BitVec 32) : BitVec 32 := s.cr3 ++ la.extractLsb' 22 10 ++ 0#2

/-- Physical address of the table entry a directory entry leads to (20_memory.md R133). -/
def pteAddr (pde la : BitVec 32) : BitVec 32 := pde.extractLsb' 12 20 ++ la.extractLsb' 12 10 ++ 0#2

/-- Page-level protection: the entries combine by AND, and supervisor accesses always pass (20_memory.md R137). -/
def pageAllowed (u w write user : Bool) : Bool := !user || (u && (!write || w))

/-- Set the accessed bit, and the dirty bit too when `dirty`, of an entry (20_memory.md R136). -/
def markEntry (e : BitVec 32) (dirty : Bool) : BitVec 32 := e ||| (if dirty then 0x60#32 else 0x20#32)

/-- Read a paging entry. -/
def readEntry (pa : BitVec 32) : M (BitVec 32) := do
  modS fun s => s.settled (Loc.from pa 4)
  let s ← getS
  pure (s.phys32 pa)

/-- Store an entry back only if it changed (20_memory.md R133: "if not already set"), with LOCK# asserted (R136, R151). -/
def updateEntry (pa old new : BitVec 32) : M Unit :=
  if old = new then pure () else modS fun s => (s.store (Loc.from pa 4) new).asserting .pageEntry (Loc.from pa 4)

/-- TLB entries of the set a page belongs to: entry `8 * block + set` for blocks 0 to 3; the set is the page number's
low three bits (10_state.md R85; log entry 14). -/
def tlbIndex (block : Nat) (page : BitVec 20) : Nat := 8 * block + (page.extractLsb' 0 3).toNat

/-- The valid entries that match a page, with their block numbers. -/
def State.tlbMatches (s : State) (page : BitVec 20) : List (Nat × TlbEntry) :=
  [0, 1, 2, 3].filterMap fun k =>
    let e := s.tlb.getD (tlbIndex k page) TlbEntry.empty
    if e.v && e.page == page then some (k, e) else none

/-- Invalidate every entry: the valid bits are cleared (20_memory.md R140). -/
def State.flushTlb (s : State) : State := { s with tlb := s.tlb.map fun e => { e with v := false } }

/-- Load a translation into a drawn block, any other entry of that page becoming invalid; whether an entry is loaded at all is
drawn (20_memory.md R140; 10_state.md R85; log entry 14). -/
def tlbFill (e : TlbEntry) : M Unit := do
  let s ← getS
  if s.plat.tlbFills then do
    let take ← drawBool
    if take then do
      let block ← draw 2
      modS fun s =>
        let cleared := (s.tlbMatches e.page).foldl (fun t m => t.set (tlbIndex m.1 e.page) { m.2 with v := false }) s.tlb
        { s with tlb := cleared.set (tlbIndex block.toNat e.page) e }
    else pure ()
  else pure ()

/-- The page walk (20_memory.md R133): the page frame of a linear address, with protection checked and the accessed and
dirty bits set. -/
def walk (la : BitVec 32) (write user : Bool) : M (BitVec 20) := do
  let s ← getS
  let pdeA := s.pdeAddr la
  let pde ← readEntry pdeA
  if !pde.getLsbD 0 then pageFault la false write user else do
    let pteA := pteAddr pde la
    let pte ← readEntry pteA
    if !pte.getLsbD 0 then pageFault la false write user else do
      let u := pde.getLsbD 2 && pte.getLsbD 2
      let w := pde.getLsbD 1 && pte.getLsbD 1
      if !pageAllowed u w write user then pageFault la true write user else do
        updateEntry pdeA pde (markEntry pde false)
        let s ← getS
        let pte := if s.holdsAll (Loc.from pteA 4) then s.phys32 pteA else pte
        updateEntry pteA pte (markEntry pte write)
        tlbFill { v := true, page := la.extractLsb' 12 20, d := write || pte.getLsbD 6, u := u, w := w,
                  phys := pte.extractLsb' 12 20, known := true }
        pure (pte.extractLsb' 12 20)

/-- The page frame of a linear address with paging on: from a cached translation or from a fresh walk, by a draw when a
translation is cached (20_memory.md R140, R141). A cached clean entry is not used for a write, so that the write sets
the dirty bit in memory (R136). Duplicate tags give an undefined frame (R142). -/
def frameOf (la : BitVec 32) (write user : Bool) : M (BitVec 20) := do
  let s ← getS
  match s.tlbMatches (la.extractLsb' 12 20) with
  | [] => walk la write user
  | [(_, e)] => do
    let cached ← drawBool
    if cached && (!write || e.d) then
      if pageAllowed e.u e.w write user then pure e.phys else pageFault la true write user
    else walk la write user
  | _ => draw 20

/-- Linear to physical (20_memory.md R130, R131). -/
def translate (la : BitVec 32) (write user : Bool) : M (BitVec 32) := do
  let s ← getS
  if s.cr0.PG then do
    let f ← frameOf la write user
    pure (f ++ la.extractLsb' 0 12)
  else pure la

/-- The physical bytes of `n` linear bytes, at most two pages, every page checked before any byte is used; the
lower-addressed page first (20_memory.md R131, R139; D21, D23). -/
def physBytes (la : BitVec 32) (n : Nat) (write user : Bool) : M Loc := do
  let s ← getS
  if s.cr0.PG then do
    let room := 4096 - (la.extractLsb' 0 12).toNat
    let p0 ← translate la write user
    if n ≤ room then pure (Loc.from p0 n)
    else do
      let p1 ← translate (la + BitVec.ofNat 32 room) write user
      pure (Loc.from p0 room ++ Loc.from p1 (n - room))
  else pure (Loc.from la n)

/-- The physical bytes of an access about to be made (20_memory.md R131; log entry 5). -/
def resolve (la : BitVec 32) (n : Nat) (write user : Bool) : M Loc := do
  let l ← physBytes la n write user
  modS fun s => s.settled l
  pure l

/-- Read a value of `w` bits at a resolved location. -/
def loadLoc (w : Nat) (l : Loc) : M (BitVec w) := fun s => .ok (s.load w l) s

/-- Store a value at a resolved location. -/
def storeLoc {w : Nat} (l : Loc) (v : BitVec w) : M Unit := modS fun s => s.store l v

/-- A read the processor makes on its own behalf, at supervisor level (20_memory.md R138, R157). -/
def sysRead (la : BitVec 32) (n : Nat) (w : Nat) : M (BitVec w) := do
  let l ← resolve la n false false
  loadLoc w l

/-- A write the processor makes on its own behalf (20_memory.md R138, R157). -/
def sysWrite {w : Nat} (la : BitVec 32) (n : Nat) (v : BitVec w) : M Unit := do
  let l ← resolve la n true false
  storeLoc l v

/-! ## Data breakpoints -/

/-- Address register of condition `n`. -/
def Debug.addr (d : Debug) (n : Fin 4) : BitVec 32 :=
  match n with
  | 0 => d.dr0 | 1 => d.dr1 | 2 => d.dr2 | 3 => d.dr3

/-- `R/Wn` (10_state.md R78). -/
def Debug.rw (d : Debug) (n : Fin 4) : BitVec 2 := d.dr7.extractLsb' (16 + 4 * n.val) 2
/-- `LENn` (10_state.md R78). -/
def Debug.len (d : Debug) (n : Fin 4) : BitVec 2 := d.dr7.extractLsb' (18 + 4 * n.val) 2
/-- `Ln` or `Gn` is set (61_debug_coproc_multiproc.md R670). -/
def Debug.enabled (d : Debug) (n : Fin 4) : Bool := d.dr7.getLsbD (2 * n.val) || d.dr7.getLsbD (2 * n.val + 1)
/-- Some breakpoint is enabled. -/
def Debug.anyEnabled (d : Debug) : Bool := d.dr7.extractLsb' 0 8 != 0#8

/-- Members of a hit set. -/
def Hits.get (h : Hits) (n : Fin 4) : Bool :=
  match n with
  | 0 => h.b0 | 1 => h.b1 | 2 => h.b2 | 3 => h.b3
/-- Add a condition to a hit set. -/
def Hits.add (h : Hits) (n : Fin 4) : Hits :=
  match n with
  | 0 => { h with b0 := true } | 1 => { h with b1 := true } | 2 => { h with b2 := true } | 3 => { h with b3 := true }
/-- Union of hit sets. -/
def Hits.union (a b : Hits) : Hits := ⟨a.b0 || b.b0, a.b1 || b.b1, a.b2 || b.b2, a.b3 || b.b3⟩
/-- Nothing hit. -/
def Hits.isNone (h : Hits) : Bool := !(h.b0 || h.b1 || h.b2 || h.b3)

/-- Bytes a LEN field covers, 0 for the undefined setting (61_debug_coproc_multiproc.md R670). -/
def lenBytes (len : BitVec 2) : Nat :=
  match len.toNat with
  | 0 => 1 | 1 => 2 | 3 => 4 | _ => 0

/-- First byte of a condition's field: low address bits masked by the length (R670). -/
def fieldBase (addr : BitVec 32) (len : BitVec 2) : BitVec 32 := addr &&& ~~~ (BitVec.ofNat 32 (lenBytes len - 1))

/-- Whether `n` bytes from `la` and the field share a byte, modulo 2^32 (R672). -/
def overlaps (la : BitVec 32) (n : Nat) (base : BitVec 32) (len : Nat) : Bool :=
  decide ((base - la).toNat < n) || decide ((la - base).toNat < len)

/-- Settings whose match is undefined: R/W = 10, LEN = 10, execution with LEN other than 00 (R670, D53). -/
def undefinedSetting (rw len : BitVec 2) : Bool := rw == 2#2 || len == 2#2 || (rw == 0#2 && len != 0#2)

/-- Note a data access for one condition (R672); an undefined setting matches by a draw while enabled (D53). -/
def noteOne (la : BitVec 32) (n : Nat) (write : Bool) (k : Fin 4) : M Unit := do
  let s ← getS
  let d := s.dbg
  let hit ←
    if undefinedSetting (d.rw k) (d.len k) then (if d.enabled k then drawBool else pure false)
    else pure ((d.rw k == 3#2 || (d.rw k == 1#2 && write)) && overlaps la n (fieldBase (d.addr k) (d.len k)) (lenBytes (d.len k)))
  if hit then modS fun s => { s with dbg := { s.dbg with matched := s.dbg.matched.add k } } else pure ()

/-- Condition `n` can match a data access: it is set for data, or its setting is an undefined one that is enabled (R670, R672). -/
def Debug.watches (d : Debug) (n : Fin 4) : Bool :=
  (d.rw n).getLsbD 0 || (d.enabled n && undefinedSetting (d.rw n) (d.len n))
/-- Some condition can match a data access. -/
def Debug.anyWatch (d : Debug) : Bool := d.watches 0 || d.watches 1 || d.watches 2 || d.watches 3

/-- Note a data access, for every condition that can match one, enabled or not (R672, R676). -/
def noteAccess (la : BitVec 32) (n : Nat) (write : Bool) : M Unit := do
  let s ← getS
  if s.dbg.anyWatch then do
    noteOne la n write 0
    noteOne la n write 1
    noteOne la n write 2
    noteOne la n write 3
  else pure ()

/-- DR6 with new bits ORed in; no bit is ever cleared (61_debug_coproc_multiproc.md R676). -/
def Debug.report (d : Debug) (h : Hits) (bs bt : Bool) : Debug :=
  { d with dr6 := d.dr6 ||| (0#16 ++ bit bt ++ bit bs ++ 0#10 ++ bit h.b3 ++ bit h.b2 ++ bit h.b1 ++ bit h.b0),
           pending := Hits.none, pendingBS := false, pendingBT := false, seen := Hits.none }

/-! ## Segment checks and operand access -/

/-- What an access through a segment register does. -/
inductive AccessKind where
  | read
  | write
  | fetch
deriving DecidableEq, Repr

/-- Limit check of `n` bytes at an offset, computed without wraparound (21_protection.md R172, D29). -/
def SegReg.inLimit (r : SegReg) (off : BitVec 32) (n : Nat) : Bool :=
  if r.expandDown then
    decide (r.limit.toNat < off.toNat) && decide (off.toNat + n ≤ (if r.db then 0x100000000 else 0x10000))
  else decide (off.toNat + n ≤ r.limit.toNat + 1)

/-- Type check of an access (21_protection.md R173). -/
def SegReg.permits (r : SegReg) : AccessKind → Bool
  | .read => !r.executable || r.bit1
  | .write => !r.executable && r.bit1
  | .fetch => true

/-- The exception of a failed segment check: #SS(0) for SS, #GP(0) otherwise (21_protection.md R170). -/
def segFault {α : Type} (r : SReg) : M α := if r = .ss then raise vSS (zeroCode false) else raise vGP (zeroCode false)

/-- The check of an access against the attributes that protected mode left in a hidden part, in real-address mode
(70_reset_and_hazards.md R713): a write needs a writable data segment, but through CS, which counts as writable data (R709). No other
type check is made (21_protection.md R187), and a part protected mode did not fill is writable (R704), so that the limit is then the
only check (40_data_movement.md R260). How these rules go together is log entry 33, DEDUCED. -/
def SegReg.permitsReal (g : SegReg) (r : SReg) : AccessKind → Bool
  | .write => r == .cs || g.permits .write
  | .read => true
  | .fetch => true

/-- The null and type checks of protected mode, where no write goes through CS (21_protection.md R171, R173; 30_encoding.md R221), or
what real-address mode keeps of them (70_reset_and_hazards.md R709, R713; log entry 33). -/
def State.typeOk (s : State) (r : SReg) (k : AccessKind) : Bool :=
  let g := s.seg.get r
  if s.protectedMode then g.valid && g.permits k && !(r == .cs && k == .write) else g.permitsReal r k

/-- Null, type and limit checks, in this order (21_protection.md R170 to R173, R187; 70_reset_and_hazards.md R709, R713). -/
def State.segOk (s : State) (r : SReg) (off : BitVec 32) (n : Nat) (k : AccessKind) : Bool :=
  s.typeOk r k && (s.seg.get r).inLimit off n

/-- An operand about to be written by a locked instruction asserts LOCK# (20_memory.md R150). -/
def State.locking (s : State) (write : Bool) (l : Loc) : State := if write && s.pfx.lock then s.asserting .prefixed l else s

/-- Locate an operand of `n` bytes: segment checks, linear address, breakpoints, page translation (20_memory.md R120). -/
def locate (r : SReg) (off : BitVec 32) (n : Nat) (write : Bool) : M Loc := do
  let s ← getS
  if s.segOk r off n (if write then .write else .read) then do
    let la := (s.seg.get r).base + off
    noteAccess la n write
    let l ← resolve la n write s.user
    modS fun s => s.locking write l
    pure l
  else segFault r

/-- `LRead` (20_memory.md R120). -/
def lread (r : SReg) (off : BitVec 32) (sz : Size) : M (BitVec sz.bits) := do
  let l ← locate r off sz.bytes false
  loadLoc sz.bits l

/-- `LWrite` (20_memory.md R120). -/
def lwrite (r : SReg) (off : BitVec 32) (sz : Size) (v : BitVec sz.bits) : M Unit := do
  let l ← locate r off sz.bytes true
  storeLoc l v

/-! ## The stack -/

/-- The stack offset `n` bytes below the stack pointer, in the stack's address size. -/
def State.below (s : State) (n : Nat) : BitVec 32 := wrapOff s.ssz32 (s.stackPtr - BitVec.ofNat 32 n)
/-- The stack offset `n` bytes above the stack pointer, in the stack's address size. -/
def State.above (s : State) (n : Nat) : BitVec 32 := wrapOff s.ssz32 (s.stackPtr + BitVec.ofNat 32 n)

/-- `Push(v, n)`: the write is checked before ESP changes (10_state.md R46). -/
def push (sz : Size) (v : BitVec sz.bits) : M Unit := do
  let s ← getS
  lwrite .ss (s.below sz.bytes) sz v
  modS fun s => s.setStackPtr (s.below sz.bytes)

/-- `Pop(n)` (10_state.md R47). -/
def pop (sz : Size) : M (BitVec sz.bits) := do
  let s ← getS
  let v ← lread .ss s.stackPtr sz
  modS fun s => s.setStackPtr (s.above sz.bytes)
  pure v

/-- The item at the stack pointer plus `n`, read without moving it. -/
def peek (n : Nat) (sz : Size) : M (BitVec sz.bits) := do
  let s ← getS
  lread .ss (s.above n) sz

/-- A 16-bit selector as a stack item of the operand size: the upper half of a doubleword item is undefined (D45). -/
def padSel (sz : Size) (sel : BitVec 16) : M (BitVec sz.bits) :=
  match sz with
  | .d => do
    let u ← draw 16
    pure (u ++ sel)
  | .w => pure sel
  | .b => pure (sel.extractLsb' 0 8)

/-- Push a selector as an item of the operand size (47_segment_far_transfer.md R452). -/
def pushSel (sz : Size) (sel : BitVec 16) : M Unit := do
  let v ← padSel sz sel
  push sz v

/-- The `n` bytes below an offset of a segment's stack lie inside its limit, as one block: the room test of far calls and of
delivery (47_segment_far_transfer.md R461, R463, R472; 60_exceptions.md R600; log entry 18). -/
def SegReg.roomBelow (g : SegReg) (is32 : Bool) (top : BitVec 32) (n : Nat) : Bool :=
  g.inLimit (wrapOff is32 (top - BitVec.ofNat 32 n)) n

/-- The room test on the current stack. -/
def State.room (s : State) (n : Nat) : Bool := s.seg.ss.roomBelow s.ssz32 s.stackPtr n

end Sys2Proof.Machine
end

