-- ==== Sys2Proof/Machine/Descriptor.lean ====
section
/-! DEFINITION. Descriptors: their fields, fetching them, loading a segment register, the inner stack of a TSS
(21_protection.md R160 to R176; 47_segment_far_transfer.md R450, R458). -/
namespace Sys2Proof.Machine

/-- A descriptor as two doublewords (21_protection.md R160), with the linear address of its table entry. -/
structure Desc where
  lo : BitVec 32
  hi : BitVec 32
  at_ : BitVec 32
deriving DecidableEq, Repr

/-- BASE (R161). -/
def Desc.base (d : Desc) : BitVec 32 := d.hi.extractLsb' 24 8 ++ d.hi.extractLsb' 0 8 ++ d.lo.extractLsb' 16 16
/-- The 20-bit LIMIT field (R162). -/
def Desc.rawLimit (d : Desc) : BitVec 20 := d.hi.extractLsb' 16 4 ++ d.lo.extractLsb' 0 16
/-- The effective limit after G scaling (R162). -/
def Desc.limit (d : Desc) : BitVec 32 := if d.hi.getLsbD 23 then d.rawLimit ++ 0xFFF#12 else d.rawLimit.setWidth 32
/-- P (R163). -/
def Desc.p (d : Desc) : Bool := d.hi.getLsbD 15
/-- DPL (R164). -/
def Desc.dpl (d : Desc) : BitVec 2 := d.hi.extractLsb' 13 2
/-- S: a code or data descriptor (R164). -/
def Desc.s (d : Desc) : Bool := d.hi.getLsbD 12
/-- TYPE, four bits, the accessed bit of a code or data descriptor included (R165, R166). -/
def Desc.typ (d : Desc) : BitVec 4 := d.hi.extractLsb' 8 4
/-- D or B (R189, R190). -/
def Desc.db (d : Desc) : Bool := d.hi.getLsbD 22
/-- A code descriptor (R165). -/
def Desc.isCode (d : Desc) : Bool := d.s && d.hi.getLsbD 11
/-- A data descriptor (R165). -/
def Desc.isData (d : Desc) : Bool := d.s && !d.hi.getLsbD 11
/-- C of a code descriptor, E of a data descriptor (R165). -/
def Desc.bit2 (d : Desc) : Bool := d.hi.getLsbD 10
/-- R of a code descriptor, W of a data descriptor (R165). -/
def Desc.bit1 (d : Desc) : Bool := d.hi.getLsbD 9
/-- A writable data descriptor. -/
def Desc.isWritableData (d : Desc) : Bool := d.isData && d.bit1
/-- A descriptor that a data-segment register may hold: data, or readable code (R174). -/
def Desc.isReadable (d : Desc) : Bool := d.isData || (d.isCode && d.bit1)
/-- A conforming code descriptor. -/
def Desc.isConforming (d : Desc) : Bool := d.isCode && d.bit2
/-- A system descriptor of the given TYPE (R166). -/
def Desc.isSystem (d : Desc) (t : BitVec 4) : Bool := !d.s && d.typ == t
/-- SELECTOR of a gate (R181). -/
def Desc.gateSel (d : Desc) : BitVec 16 := d.lo.extractLsb' 16 16
/-- OFFSET of a gate (R181). -/
def Desc.gateOff (d : Desc) : BitVec 32 := d.hi.extractLsb' 16 16 ++ d.lo.extractLsb' 0 16
/-- DWORD COUNT of a call gate (R181). -/
def Desc.gateCount (d : Desc) : Nat := (d.hi.extractLsb' 0 5).toNat

/-- Numeric maximum of two privilege levels. -/
def maxPl (a b : BitVec 2) : BitVec 2 := if a.toNat < b.toNat then b else a
/-- The data access rule: DPL at least max(CPL, RPL) (R178). -/
def dataPrivOk (cpl rpl dpl : BitVec 2) : Bool := decide ((maxPl cpl rpl).toNat ≤ dpl.toNat)

/-- The table a selector indexes: its base and limit, or none when LDTR holds no LDT (R168). -/
def State.tableOf (s : State) (sel : BitVec 16) : Option (BitVec 32 × Nat) :=
  if tiOf sel then
    if nullSel s.ldtr.sel || !s.ldtr.valid then none else some (s.ldtr.base, s.ldtr.limit.toNat)
  else some (s.gdtr.base, s.gdtr.limit.toNat)

/-- Linear address of the table entry a selector names, or none when the index is outside the table (R168). -/
def State.entryAddr (s : State) (sel : BitVec 16) : Option (BitVec 32) :=
  match s.tableOf sel with
  | none => none
  | some (base, limit) =>
    if (indexOf sel).toNat * 8 + 7 ≤ limit then some (base + BitVec.ofNat 32 ((indexOf sel).toNat * 8)) else none

/-- Read the descriptor at a table entry, low doubleword first. -/
def readDesc (la : BitVec 32) : M Desc := do
  let lo ← sysRead la 4 32
  let hi ← sysRead (la + 4#32) 4 32
  pure ⟨lo, hi, la⟩

/-- `FetchDesc` (R168): none is its `fail`. -/
def fetchDesc (sel : BitVec 16) : M (Option Desc) := do
  let s ← getS
  match s.entryAddr sel with
  | none => pure none
  | some la => do
    let d ← readDesc la
    pure (some d)

/-- `FetchDesc` with `fail` turned into an exception. -/
def fetchDescOr (sel : BitVec 16) (vec : BitVec 8) (err : ErrCode) : M Desc := do
  let d? ← fetchDesc sel
  match d? with
  | none => raise vec err
  | some d => pure d

/-- Set the accessed bit of a code or data descriptor in memory if it is clear (R168). -/
def writeAccessed (d : Desc) : M Unit :=
  if d.hi.getLsbD 8 then pure () else sysWrite (d.at_ + 4#32) 4 (d.hi ||| 0x100#32)

/-- A descriptor is being loaded: its eight bytes are read, and its accessed bit written, with LOCK# asserted (R168;
20_memory.md R151). -/
def setAccessed (d : Desc) : M Unit := do
  modS fun s => s.asserting .descriptor [d.at_]
  writeAccessed d

/-- The segment register a descriptor makes, marked accessed and valid (R174). -/
def Desc.toSeg (d : Desc) (sel : BitVec 16) : SegReg :=
  { sel := sel, base := d.base, limit := d.limit, p := d.p, dpl := d.dpl, s := d.s, typ := d.typ ||| 1#4, db := d.db, valid := true }

/-- LDTR as an LDT descriptor fills it (10_state.md R75). -/
def Desc.toLdt (d : Desc) (sel : BitVec 16) : LdtReg :=
  { sel := sel, base := d.base, limit := d.limit, p := d.p, dpl := d.dpl, s := d.s, typ := d.typ, valid := true }

/-- Load LDTR from an LDT descriptor (10_state.md R75; 20_memory.md R151). -/
def putLdt (d : Desc) (sel : BitVec 16) : M Unit :=
  modS fun s => { s.asserting .descriptor [d.at_] with ldtr := d.toLdt sel }

/-- A register that a null selector was loaded into: marked invalid (R171). That its hidden base, limit and attributes stay those
of the segment held before, which an access after PE is cleared uses, is the model's choice (10_state.md R44; log entry 34, DESIGN
CHOICE). -/
def SegReg.nulled (g : SegReg) (sel : BitVec 16) : SegReg := { g with sel := sel, valid := false }

/-- A real-address-mode load: selector and base only (10_state.md R45; 70_reset_and_hazards.md R704). -/
def SegReg.realLoad (g : SegReg) (sel : BitVec 16) : SegReg :=
  { g with sel := sel, base := sel.setWidth 32 <<< 4, valid := true }

/-- The checks of a data-segment register load (R174), or of the same load in a task switch (49_multitasking.md R557):
`bad` is the vector of the type failures. -/
def checkDataSeg (d : Desc) (sel : BitVec 16) (cpl : BitVec 2) (bad : BitVec 8) (ext : Bool) : M Unit := do
  require d.isReadable bad (selCode sel ext)
  require (d.isConforming || dataPrivOk cpl (rplOf sel) d.dpl) vGP (selCode sel ext)
  require d.p vNP (selCode sel ext)

/-- `LoadSeg` for DS, ES, FS, GS in protected mode (R174). -/
def loadDataSeg (r : SReg) (sel : BitVec 16) : M Unit := do
  let s ← getS
  if nullSel sel then putSeg r ((s.seg.get r).nulled sel)
  else do
    let d ← fetchDescOr sel vGP (selCode sel false)
    checkDataSeg d sel s.cpl vGP false
    setAccessed d
    putSeg r (d.toSeg sel)

/-- `LoadSeg` for SS in protected mode (R175). -/
def loadStackSeg (sel : BitVec 16) : M Unit := do
  let s ← getS
  require (!nullSel sel) vGP (zeroCode false)
  let d ← fetchDescOr sel vGP (selCode sel false)
  require d.isWritableData vGP (selCode sel false)
  require (rplOf sel == s.cpl) vGP (selCode sel false)
  require (d.dpl == s.cpl) vGP (selCode sel false)
  require d.p vSS (selCode sel false)
  setAccessed d
  putSeg .ss (d.toSeg sel)

/-- `LoadSeg(s, sel)` for MOV, POP and the pointer loads (47_segment_far_transfer.md R450). -/
def loadSeg (r : SReg) (sel : BitVec 16) : M Unit := do
  let s ← getS
  if s.protectedMode then
    if r = .ss then loadStackSeg sel else loadDataSeg r sel
  else putSeg r ((s.seg.get r).realLoad sel)

/-- Write CS from a descriptor, its RPL replaced by the new CPL; the reload ends the reset-time assertion of the high
address lines (R176; 47_segment_far_transfer.md R460). -/
def putCode (d : Desc) (sel : BitVec 16) (cpl : BitVec 2) : M Unit := do
  putSeg .cs (d.toSeg (withRpl sel cpl))
  modS fun s => { s with cpl := cpl, a31High := false }

/-- Set a code descriptor's accessed bit and write CS from it. -/
def loadCode (d : Desc) (sel : BitVec 16) (cpl : BitVec 2) : M Unit := do
  setAccessed d
  putCode d sel cpl

/-- Real-address-mode reload of CS (70_reset_and_hazards.md R704; 47_segment_far_transfer.md R467). -/
def loadCodeReal (sel : BitVec 16) : M Unit :=
  modS fun s => { s with seg := { s.seg with cs := s.seg.cs.realLoad sel }, a31High := false }

/-- `InnerStack(newCPL)`: the stack the TSS names for an inner level (47_segment_far_transfer.md R458). -/
def innerStack (newCpl : BitVec 2) (ext : Bool) : M (BitVec 16 × Desc × BitVec 32) := do
  let s ← getS
  require (decide (8 * newCpl.toNat + 11 ≤ s.tr.limit.toNat)) vTS (selCode s.tr.sel ext)
  let nesp ← sysRead (s.tr.base + BitVec.ofNat 32 (4 + 8 * newCpl.toNat)) 4 32
  let nss ← sysRead (s.tr.base + BitVec.ofNat 32 (8 + 8 * newCpl.toNat)) 2 16
  require (!nullSel nss) vTS (selCode nss ext)
  let d ← fetchDescOr nss vTS (selCode nss ext)
  require (rplOf nss == newCpl) vTS (selCode nss ext)
  require d.isWritableData vTS (selCode nss ext)
  require (d.dpl == newCpl) vTS (selCode nss ext)
  require d.p vSS (selCode nss ext)
  pure (nss, d, nesp)

/-- Store an item on a stack that is being switched to, at supervisor level; an interlevel CALL's items are watched by
data breakpoints, those of delivery are not (47_segment_far_transfer.md R463; 60_exceptions.md R600; D54). -/
def innerWrite (note : Bool) (g : SegReg) (off : BitVec 32) (v : BitVec 32) : M Unit := do
  if note then noteAccess (g.base + off) 4 true else pure ()
  sysWrite (g.base + off) 4 v

/-- Store items downwards from an offset of a stack being switched to, first item highest; the final offset. -/
def innerPushAll (note : Bool) (g : SegReg) : BitVec 32 → List (BitVec 32) → M (BitVec 32)
  | off, [] => pure off
  | off, v :: rest => do
    innerWrite note g (wrapOff g.db (off - 4#32)) v
    innerPushAll note g (wrapOff g.db (off - 4#32)) rest

/-- A push made by delivery on the current stack: checked as any push, not watched by data breakpoints (D54). -/
def pushQuiet (sz : Size) (v : BitVec sz.bits) : M Unit := do
  let s ← getS
  if s.segOk .ss (s.below sz.bytes) sz.bytes .write then do
    let l ← resolve (s.seg.ss.base + s.below sz.bytes) sz.bytes true s.user
    storeLoc l v
    modS fun s => s.setStackPtr (s.below sz.bytes)
  else segFault .ss

end Sys2Proof.Machine
end

