-- ==== Sys2Proof/Machine/TaskSwitch.lean ====
section
/-! DEFINITION. The task switch (49_multitasking.md R550 to R564). -/
namespace Sys2Proof.Machine

/-- What causes a task switch (R556). -/
inductive SwitchCause where
  | jmp
  | call
  | iret
  | int
deriving DecidableEq, Repr

/-- The task nests: the back link is set and NT becomes 1 (R560). -/
def SwitchCause.nests : SwitchCause → Bool
  | .call => true | .int => true | .jmp => false | .iret => false

/-- The outgoing task's busy bit is cleared (R560). -/
def SwitchCause.leaves : SwitchCause → Bool
  | .jmp => true | .iret => true | .call => false | .int => false

/-- Make the exceptions of a computation those of the incoming task (R556 steps D to F). -/
def inNewTask {α : Type} (x : M α) : M α := fun s =>
  match x s with
  | .error (.exc e) s' => .error (.late e) s'
  | r => r

/-- Write `w`-bit values at ascending TSS offsets `step` bytes apart. -/
def writeFields {w : Nat} (n step : Nat) : BitVec 32 → List (BitVec w) → M Unit
  | _, [] => pure ()
  | la, v :: rest => do
    sysWrite la n v
    writeFields n step (la + BitVec.ofNat 32 step) rest

/-- Step B: save the outgoing state in the current TSS (R556). -/
def saveTask (base eipSave fl : BitVec 32) : M Unit := do
  let s ← getS
  writeFields 4 4 (base + 0x20#32)
    [eipSave, fl, s.gpr.eax, s.gpr.ecx, s.gpr.edx, s.gpr.ebx, s.gpr.esp, s.gpr.ebp, s.gpr.esi, s.gpr.edi]
  writeFields 2 4 (base + 0x48#32) [s.seg.es.sel, s.seg.cs.sel, s.seg.ss.sel, s.seg.ds.sel, s.seg.fs.sel, s.seg.gs.sel]

/-- Read a general register's image from the incoming TSS. -/
def loadGpr (nb : BitVec 32) (off : Nat) (r : Reg) : M Unit := do
  let v ← sysRead (nb + BitVec.ofNat 32 off) 4 32
  putReg .d r v

/-- Read a segment selector from the incoming TSS; the hidden part becomes invalid (R556 step D). -/
def loadTssSel (nb : BitVec 32) (off : Nat) (r : SReg) : M Unit := do
  let v ← sysRead (nb + BitVec.ofNat 32 off) 2 16
  modS fun s => { s with seg := s.seg.set r ((s.seg.get r).nulled v) }

/-- Step D: load the incoming state, field by field in the order of R556. EIP holds no stated value until its field is read (I9;
log entry 12). -/
def readTask (cause : SwitchCause) (nb : BitVec 32) : M Unit := do
  let u ← draw 32
  modS fun s => { s with eip := u, eipNext := u, pastEnd := false }
  let s ← getS
  if s.cr0.PG then do
    let c ← sysRead (nb + 0x1C#32) 4 32
    modS fun s => { s with cr3 := c.extractLsb' 12 20 }.flushTlb
  else pure ()
  let ldt ← sysRead (nb + 0x60#32) 2 16
  let e ← sysRead (nb + 0x20#32) 4 32
  modS fun s => { s with eip := e, eipNext := e }
  let f ← sysRead (nb + 0x24#32) 4 32
  let fl := Eflags.ofBits f
  modS fun s => { s with flags := { fl with NT := if cause.nests then true else if cause = .jmp then false else fl.NT } }
  loadGpr nb 0x28 .ax
  loadGpr nb 0x2C .cx
  loadGpr nb 0x30 .dx
  loadGpr nb 0x34 .bx
  loadGpr nb 0x38 .sp
  loadGpr nb 0x3C .bp
  loadGpr nb 0x40 .si
  loadGpr nb 0x44 .di
  loadTssSel nb 0x48 .es
  loadTssSel nb 0x4C .cs
  loadTssSel nb 0x50 .ss
  loadTssSel nb 0x54 .ds
  loadTssSel nb 0x58 .fs
  loadTssSel nb 0x5C .gs
  modS fun s =>
    { s with ldtr := { s.ldtr with sel := ldt, valid := false }, cpl := rplOf s.seg.cs.sel,
             dbg := { s.dbg with dr7 := s.dbg.dr7 &&& ~~~ 0x155#32 }, a31High := false }
  if fl.VM then halt (.refuse .virtual8086) else pure ()

/-- A general register keeps the value it had, by a draw. -/
def keepReg (old : Gpr) (r : Reg) : M Unit := do
  let keep ← drawBool
  if keep then putReg .d r (old.get r) else pure ()

/-- Each general register keeps the value it had, by a draw. -/
def keepSome (old : Gpr) : M Unit := do
  keepReg old .ax
  keepReg old .cx
  keepReg old .dx
  keepReg old .bx
  keepReg old .sp
  keepReg old .bp
  keepReg old .si
  keepReg old .di

/-- Step D; after a page fault in it, which general registers hold their new values is open (R558, I9; log entry 12). -/
def loadTask (cause : SwitchCause) (nb : BitVec 32) : M Unit := fun s =>
  match readTask cause nb s with
  | .error (.exc e) s' => (do keepSome s.gpr; halt (.exc e)) s'
  | r => r

/-- Tests 4 and 5: load LDTR (R557). -/
def switchLdt (ext : Bool) : M Unit := do
  let s ← getS
  let x := s.ldtr.sel
  if nullSel x then pure ()
  else do
    require (!tiOf x) vTS (selCode x ext)
    let d ← fetchDescOr x vTS (selCode x ext)
    require (d.isSystem 2#4 && d.p) vTS (selCode x ext)
    putLdt d x

/-- Tests 6 to 8: load CS (R557). -/
def switchCs (ext : Bool) : M Unit := do
  let s ← getS
  let x := s.seg.cs.sel
  require (!nullSel x) vTS (selCode x ext)
  let d ← fetchDescOr x vTS (selCode x ext)
  require d.isCode vTS (selCode x ext)
  require (if d.isConforming then decide (d.dpl.toNat ≤ (rplOf x).toNat) else d.dpl == rplOf x) vTS (selCode x ext)
  require d.p vNP (selCode x ext)
  setAccessed d
  putSeg .cs (d.toSeg x)

/-- Tests 9 to 12: load SS (R557). -/
def switchSs (ext : Bool) : M Unit := do
  let s ← getS
  let x := s.seg.ss.sel
  require (!nullSel x) vTS (selCode x ext)
  let d ← fetchDescOr x vTS (selCode x ext)
  require d.isWritableData vTS (selCode x ext)
  require (d.dpl == s.cpl && rplOf x == s.cpl) vTS (selCode x ext)
  require d.p vSS (selCode x ext)
  setAccessed d
  putSeg .ss (d.toSeg x)

/-- Tests 13 to 16: load one data-segment register (R557). -/
def switchData (ext : Bool) (r : SReg) : M Unit := do
  let s ← getS
  let x := (s.seg.get r).sel
  if nullSel x then pure ()
  else do
    let d ← fetchDescOr x vTS (selCode x ext)
    checkDataSeg d x s.cpl vTS ext
    setAccessed d
    putSeg r (d.toSeg x)

/-- Step E (R556, R557). -/
def switchSegments (ext : Bool) : M Unit := do
  switchLdt ext
  switchCs ext
  switchSs ext
  switchData ext .ds
  switchData ext .es
  switchData ext .fs
  switchData ext .gs
  let s ← getS
  require (decide (s.eip.toNat ≤ s.seg.cs.limit.toNat)) vGP (zeroCode ext)

/-- Set and clear bits of the doubleword at a location, with LOCK# asserted: a busy bit (R556 step C; 20_memory.md R151). -/
def writeBusy (l : Loc) (f : BitVec 32 → BitVec 32) : M Unit := do
  let h ← loadLoc 32 l
  modS fun s => (s.store l (f h)).asserting .busyBit l

/-- A place that a step writes only for some causes. -/
def resolveIf (c : Bool) (la : BitVec 32) (n : Nat) : M Loc := if c then resolve la n true false else pure []

/-- `TaskSwitch` steps A to E and the queue flush of F (R556). `eipSave` is the EIP image saved, `fl` the EFLAGS image. The places
step C writes are located in step B, so that a page fault on them is still the outgoing task's (log entry 13). -/
def taskSwitchCore (cause : SwitchCause) (nsel : BitVec 16) (nd : Desc) (ext : Bool) (eipSave : BitVec 32) (fl : Eflags) : M Unit := do
  require (decide (103 ≤ nd.limit.toNat)) vTS (selCode nsel ext)
  let s ← getS
  let oldSel := s.tr.sel
  saveTask s.tr.base eipSave (if cause = .iret then { fl with NT := false } else fl).toBits
  let oldHi ← resolveIf cause.leaves (s.gdtr.base + BitVec.ofNat 32 ((indexOf oldSel).toNat * 8 + 4)) 4
  let newHi ← resolveIf (cause != .iret) (nd.at_ + 4#32) 4
  let link ← resolveIf cause.nests nd.base 2
  -- step C: committed from here
  if cause.leaves then writeBusy oldHi fun h => h &&& ~~~ 0x200#32 else pure ()
  if cause = .iret then pure () else writeBusy newHi fun h => h ||| 0x200#32
  modS fun s => { s with tr := ⟨nsel, nd.base, nd.limit, true⟩, cr0 := { s.cr0 with TS := true },
                         nmiInService := s.nmiInService && cause != .iret }
  if cause.nests then storeLoc link oldSel else pure ()
  inNewTask do
    loadTask cause nd.base
    switchSegments ext
    modS fun s => { s with queue := [], ssShadow := false, stiShadow := false }

/-- The T bit of the new TSS adds BT to the pending debug traps (R559; 61_debug_coproc_multiproc.md R685). -/
def taskTrapBit : M Unit := do
  let s ← getS
  let t ← sysRead (s.tr.base + 0x64#32) 2 16
  if t.getLsbD 0 then modS fun s => { s with dbg := { s.dbg with pendingBT := true } } else pure ()

/-- `TaskSwitch` for JMP, CALL and IRET: the EIP saved is that of the next instruction (R556). -/
def taskSwitch (cause : SwitchCause) (nsel : BitVec 16) (nd : Desc) : M Unit := do
  let s ← getS
  taskSwitchCore cause nsel nd false s.eipNext s.flags
  inNewTask taskTrapBit

/-- A TSS selector of a task gate (R554, R562): its descriptor, checked to be an available 386 TSS. -/
def gateTss (tsel : BitVec 16) (ext : Bool) : M Desc := do
  require (!tiOf tsel && indexOf tsel != 0#13) vGP (selCode tsel ext)
  let d ← fetchDescOr tsel vGP (selCode tsel ext)
  if d.isSystem 1#4 || d.isSystem 3#4 then halt (.refuse .format286)
  else do
    require (d.isSystem 9#4) vGP (selCode tsel ext)
    require d.p vNP (selCode tsel ext)
    pure d

/-- JMP or CALL through a task gate (R554). -/
def viaTaskGate (cause : SwitchCause) (gsel : BitVec 16) (gate : Desc) : M Unit := do
  let s ← getS
  require (dataPrivOk s.cpl (rplOf gsel) gate.dpl) vGP (selCode gsel false)
  require gate.p vNP (selCode gsel false)
  let d ← gateTss gate.gateSel false
  taskSwitch cause gate.gateSel d

/-- JMP or CALL to a TSS descriptor (R555). -/
def viaTss (cause : SwitchCause) (sel : BitVec 16) (d : Desc) : M Unit := do
  let s ← getS
  require (!tiOf sel) vGP (selCode sel false)
  require (dataPrivOk s.cpl (rplOf sel) d.dpl) vGP (selCode sel false)
  require (d.isSystem 9#4) vGP (selCode sel false)
  require d.p vNP (selCode sel false)
  taskSwitch cause sel d

/-- IRET with NT = 1: return to the task of the back link; the switch clears `nmi_in_service` as it commits (R561). -/
def iretTask : M Unit := do
  let s ← getS
  let bsel ← sysRead s.tr.base 2 16
  require (!tiOf bsel && indexOf bsel != 0#13) vTS (selCode bsel false)
  let d ← fetchDescOr bsel vTS (selCode bsel false)
  if d.isSystem 1#4 || d.isSystem 3#4 then halt (.refuse .format286)
  else do
    require (d.isSystem 0xB#4) vTS (selCode bsel false)
    require d.p vNP (selCode bsel false)
    taskSwitch .iret bsel d

end Sys2Proof.Machine
end

