-- ==== Sys2Proof/Machine/Ops.lean ====
section
/-! DEFINITION. The shared operations over a whole instruction or event: TAKING AN EXCEPTION OR INTERRUPT (`deliver`), THE
RETURN from one (`interruptReturn`), completing an instruction, and running an instruction's body
(60_exceptions.md R580 to R625; 70_reset_and_hazards.md R706; 47_segment_far_transfer.md R466 to R470). -/
namespace Sys2Proof.Machine

/-! ## Taking an exception or interrupt -/

/-- Kinds of event (60_exceptions.md R580); NMI, an external event, is told apart from INTR (70_reset_and_hazards.md R706). -/
inductive EventKind where
  | external
  | nmi
  | exception
  | software
deriving DecidableEq, Repr

/-- An event to deliver: vector, kind, error code, the EIP to save, and whether the saved image gets RF = 1, which it
does for faults (60_exceptions.md R600, R612). -/
structure Event where
  vec : BitVec 8
  kind : EventKind
  err : ErrCode
  ret : BitVec 32
  setRF : Bool
deriving DecidableEq, Repr

/-- The event is external: EXT = 1 in error codes (60_exceptions.md R607). -/
def Event.ext (ev : Event) : Bool := ev.kind == .external || ev.kind == .nmi

/-- The event's delivery puts an NMI in service: in protected mode an external event of vector 2, in real-address mode NMI
itself (60_exceptions.md R600; 70_reset_and_hazards.md R706). -/
def Event.servesNmi (ev : Event) (protectedMode : Bool) : Bool :=
  if protectedMode then ev.vec == vNMI && ev.ext else ev.vec == vNMI && ev.kind == .nmi

/-- The error code as the doubleword pushed, its undefined upper bits drawn (60_exceptions.md R595, R606). -/
def errDword : ErrCode → M (List (BitVec 32))
  | .none => pure []
  | .sel c => do
    let u ← draw 16
    pure [u ++ c]
  | .page p w u => do
    let x ← draw 29
    pure [x ++ bit u ++ bit w ++ bit p]

/-- `ReadIDT` (60_exceptions.md R610). -/
def readIdt (v : BitVec 8) (ext : Bool) : M Desc := do
  let s ← getS
  require (decide (v.toNat * 8 + 7 ≤ s.idtr.limit.toNat)) vGP (idtCode v ext)
  let d ← readDesc (s.idtr.base + BitVec.ofNat 32 (v.toNat * 8))
  if d.isSystem 6#4 || d.isSystem 7#4 then halt (.refuse .format286)
  else do
    require (d.isSystem 5#4 || d.isSystem 0xE#4 || d.isSystem 0xF#4) vGP (idtCode v ext)
    pure d

/-- The EFLAGS image an event saves (60_exceptions.md R612). -/
def Event.image (ev : Event) (f : Eflags) : Eflags := { f with RF := f.RF || ev.setRF }

/-- What every completed delivery does last: the run state, the shadows, the NMI latch, the prefetch queue
(60_exceptions.md R600). -/
def State.delivered (s : State) (ev : Event) : State :=
  { s with run := .running, ssShadow := false, stiShadow := false, pastEnd := false, queue := [],
           nmiInService := s.nmiInService || ev.servesNmi s.protectedMode }

/-- Enter a handler: CS:EIP and the flags (60_exceptions.md R600, R612). -/
def enterHandler (gate target : Desc) (newCpl : BitVec 2) : M Unit := do
  loadCode target gate.gateSel newCpl
  modS fun s =>
    { s with eip := gate.gateOff, eipNext := gate.gateOff,
             flags := { s.flags with TF := false, IF := if gate.isSystem 0xE#4 then false else s.flags.IF, NT := false, RF := false } }

/-- Push a list of doublewords on the current stack, first item highest. -/
def pushAllQuiet : List (BitVec 32) → M Unit
  | [] => pure ()
  | v :: rest => do
    pushQuiet .d v
    pushAllQuiet rest

/-- Delivery to the same privilege level (60_exceptions.md R600). -/
def deliverSame (ev : Event) (gate target : Desc) : M Unit := do
  let s ← getS
  let err ← errDword ev.err
  require (s.room (4 * (3 + err.length))) vSS (zeroCode ev.ext)
  require (decide (gate.gateOff.toNat ≤ target.limit.toNat)) vGP (zeroCode ev.ext)
  let cs ← padSel .d s.seg.cs.sel
  pushAllQuiet ([(ev.image s.flags).toBits, cs, ev.ret] ++ err)
  enterHandler gate target s.cpl

/-- Delivery to an inner privilege level, on the stack the TSS names (60_exceptions.md R600). -/
def deliverInner (ev : Event) (gate target : Desc) : M Unit := do
  let s ← getS
  let (nss, nd, nesp) ← innerStack target.dpl ev.ext
  let err ← errDword ev.err
  let g := nd.toSeg nss
  require (g.roomBelow g.db nesp (4 * (5 + err.length))) vSS (selCode nss ev.ext)
  require (decide (gate.gateOff.toNat ≤ target.limit.toNat)) vGP (zeroCode ev.ext)
  let ss ← padSel .d s.seg.ss.sel
  let cs ← padSel .d s.seg.cs.sel
  let _ ← innerPushAll false g nesp ([ss, s.gpr.esp, (ev.image s.flags).toBits, cs, ev.ret] ++ err)
  setAccessed nd
  putSeg .ss g
  modS fun s => { s with gpr := { s.gpr with esp := nesp - BitVec.ofNat 32 (4 * (5 + err.length)) } }
  enterHandler gate target target.dpl

/-- Delivery through a task gate: the error code goes on the new task's stack (60_exceptions.md R615;
49_multitasking.md R562). -/
def deliverTask (ev : Event) (gate : Desc) : M Unit := do
  let d ← gateTss gate.gateSel ev.ext
  let s ← getS
  modS fun s => s.delivered ev
  taskSwitchCore .int gate.gateSel d ev.ext ev.ret (ev.image s.flags)
  inNewTask do
    let err ← errDword ev.err
    pushAllQuiet err
    taskTrapBit

/-- `Deliver` in protected mode (60_exceptions.md R600, R613, R614). -/
def deliverProtected (ev : Event) : M Unit := do
  let s ← getS
  let gate ← readIdt ev.vec ev.ext
  require (ev.kind != .software || decide (s.cpl.toNat ≤ gate.dpl.toNat)) vGP (idtCode ev.vec ev.ext)
  require gate.p vNP (idtCode ev.vec ev.ext)
  if gate.isSystem 5#4 then deliverTask ev gate
  else do
    let csel := gate.gateSel
    require (!nullSel csel) vGP (zeroCode ev.ext)
    let target ← fetchDescOr csel vGP (selCode csel ev.ext)
    require target.isCode vGP (selCode csel ev.ext)
    require (decide (target.dpl.toNat ≤ s.cpl.toNat)) vGP (selCode csel ev.ext)
    require target.p vNP (selCode csel ev.ext)
    if !target.isConforming && decide (target.dpl.toNat < s.cpl.toNat) then deliverInner ev gate target
    else deliverSame ev gate target
    modS fun s => s.delivered ev

/-- Turn any exception of a computation into shutdown (70_reset_and_hazards.md R706). -/
def orShutdown {α : Type} (x : M α) : M α := fun s =>
  match x s with
  | .error (.exc _) s' => .error .shutdown s'
  | r => r

/-- `DeliverReal` (70_reset_and_hazards.md R706). -/
def deliverReal (ev : Event) : M Unit := do
  let s ← getS
  if s.idtr.limit.toNat < 4 * ev.vec.toNat + 3 then
    if ev.vec = vDF then halt .shutdown else raise vDF .none
  else do
    let off ← sysRead (s.idtr.base + BitVec.ofNat 32 (4 * ev.vec.toNat)) 2 16
    let seg ← sysRead (s.idtr.base + BitVec.ofNat 32 (4 * ev.vec.toNat + 2)) 2 16
    orShutdown do
      pushQuiet .w (s.flags.toBits.extractLsb' 0 16)
      pushQuiet .w s.seg.cs.sel
      pushQuiet .w (ev.ret.extractLsb' 0 16)
    loadCodeReal seg
    modS fun s =>
      { s with eip := off.setWidth 32, eipNext := off.setWidth 32,
               flags := { s.flags with TF := false, IF := false, RF := false } }
    modS fun s => s.delivered ev

/-- One attempt at `Deliver`, by mode. -/
def deliverOnce (ev : Event) : M Unit := do
  let s ← getS
  if s.protectedMode then deliverProtected ev else deliverReal ev

/-- Double-fault classes (60_exceptions.md R589, Table 9-3). -/
inductive FaultClass where
  | benign
  | contributory
  | page
deriving DecidableEq, Repr

/-- Class of a vector (R589); software interrupts never reach this test (R604). -/
def classOf (v : BitVec 8) : FaultClass :=
  if v = vPF then .page
  else if v = vDE ∨ v = 9#8 ∨ v = vTS ∨ v = vNP ∨ v = vSS ∨ v = vGP then .contributory
  else .benign

/-- Table 9-4: the pair is a double fault (R589). -/
def isDouble (first second : FaultClass) : Bool :=
  match first, second with
  | .contributory, .contributory => true
  | .page, .contributory => true
  | .page, .page => true
  | _, _ => false

/-- The machine after an attempt that failed: registers as they were, with the memory, CR2, TLB and outputs the attempt
left (60_exceptions.md R581, R600; D52). -/
def State.rollback (before after : State) : State :=
  { before with mem := after.mem, cr2 := after.cr2, tlb := after.tlb, draws := after.draws, ioOut := after.ioOut,
                copOut := after.copOut, busOut := after.busOut, lockOut := after.lockOut, dbg := { after.dbg with matched := Hits.none }, pfx := Prefixes.empty }

/-- The processor stops executing until RESET (60_exceptions.md R589). -/
def State.shutDown (s : State) : State := { s with run := .shutdown, pfx := Prefixes.empty }

/-- An exception of the incoming task, due at the next step (49_multitasking.md R556). -/
def State.owing (s : State) (e : Exc) : State :=
  { s with pendingExc := some e, pfx := Prefixes.empty, dbg := { s.dbg with matched := Hits.none }, run := .running,
           eip := s.eipNext, ssShadow := false, stiShadow := false, pastEnd := false, queue := [] }

/-- An exception as an event: faults set RF in the saved image, the double fault does not (60_exceptions.md R612). -/
def Exc.event (e : Exc) (ret : BitVec 32) : Event := ⟨e.vec, .exception, e.err, ret, e.vec != vDF⟩

/-- The coprocessor segment overrun as an event: an abort without an error code, that saves a drawn EIP and leaves RF as it is
(61_debug_coproc_multiproc.md R681, R694). -/
def overrun (ret : BitVec 32) : Event := ⟨vMP, .exception, .none, ret, false⟩

/-- `Deliver` with the serial handling of nested exceptions, the double fault and shutdown (60_exceptions.md R589, R604).
Four attempts always suffice: benign, contributory, page fault, double fault. -/
def deliver : Nat → Event → State → Host.Outcome State Fault Refusal
  | 0, _, s => .next s.shutDown
  | fuel + 1, ev, s =>
    match deliverOnce ev s with
    | .ok _ s' => .next s'
    | .error (.late e) s' => .next (s'.owing e)
    | .error .shutdown s' => .next (State.rollback s s').shutDown
    | .error (.refuse r) _ => .refused r
    | .error (.abort ret) s' => deliver fuel (overrun ret) (State.rollback s s')
    | .error (.exc y) s' =>
      if ev.vec = vDF then .next (State.rollback s s').shutDown
      else if isDouble (classOf ev.vec) (classOf y.vec) then
        deliver fuel ⟨vDF, .exception, .sel 0#16, ev.ret, false⟩ (State.rollback s s')
      else deliver fuel (y.event ev.ret) (State.rollback s s')

/-- Attempts allowed to a delivery. -/
def deliverFuel : Nat := 5

/-! ## Completing an instruction -/

/-- How an instruction or string element ends (61_debug_coproc_multiproc.md R681; 10_state.md R88): RF is cleared, or kept as
it is (IRET, POPF, task switches); the instruction opens a shadow (a load of SS, an STI that sets IF), RF being cleared; one
element of a repeated string instruction is done and more follow; or the instruction has not completed and is executed again
(WAIT while BUSY# is active, 46_block_flag_coproc_misc.md R441): RF is kept and the step earns no single-step trap. -/
inductive Done where
  | normal
  | keepRF
  | opensSs
  | opensSti
  | element
  | again
deriving DecidableEq, Repr

/-- RF is not cleared (61_debug_coproc_multiproc.md R681). -/
def Done.keepsRF : Done → Bool
  | .normal => false | .keepRF => true | .opensSs => false | .opensSti => false | .element => true | .again => true

/-- The whole instruction has completed. -/
def Done.completes : Done → Bool
  | .normal => true | .keepRF => true | .opensSs => true | .opensSti => true | .element => false | .again => false

/-- The bytes of the instruction in progress as it may find them again in the queue, each by a draw (log entry 15). -/
def reoffer : List Byte → M (List (Option Byte))
  | [] => pure []
  | b :: rest => do
    let keep ← drawBool
    let q ← reoffer rest
    pure ((if keep then some b else none) :: q)

/-- The instruction is executed again from its own address: no transfer, so the prefetch queue stays, behind the
instruction's own bytes (45_string.md R401; 20_memory.md R152; 70_reset_and_hazards.md R730; log entry 15). -/
def runAgain : M Unit := do
  let s ← getS
  if s.plat.prefetchDepth = 0 then modS fun s => { s with eipNext := s.eip, pastEnd := false, queue := [] }
  else do
    let own ← reoffer s.fetched
    modS fun s => { s with eipNext := s.eip, pastEnd := false, queue := own ++ s.queue }

/-- Some condition both matched and is enabled (61_debug_coproc_multiproc.md R672). -/
def Debug.reportable (d : Debug) : Bool :=
  (d.matched.b0 && d.enabled 0) || (d.matched.b1 && d.enabled 1) || (d.matched.b2 && d.enabled 2) || (d.matched.b3 && d.enabled 3)

/-- Data-breakpoint reports at completion: exact with LE or GE, else now, one instruction late, or never, by a draw
(61_debug_coproc_multiproc.md R672, R673); matches of which none is enabled are kept for a debug exception of another cause
(R676). -/
def reportBreakpoints : M Unit := do
  let s ← getS
  if s.dbg.reportable then do
    if s.dbg.dr7.getLsbD 8 || s.dbg.dr7.getLsbD 9 then
      modS fun s => { s with dbg := { s.dbg with pending := s.dbg.pending.union s.dbg.matched } }
    else do
      let now ← drawBool
      let later ← drawBool
      if now then modS fun s => { s with dbg := { s.dbg with pending := s.dbg.pending.union s.dbg.matched } }
      else if later then modS fun s => { s with dbg := { s.dbg with late := s.dbg.matched } }
      else pure ()
  else modS fun s => { s with dbg := { s.dbg with seen := s.dbg.matched } }

/-- The instruction's end: EIP becomes `EIP_next`, the prefix state is forgotten, RF is cleared unless kept, a step that
began with TF = 1 earns BS, and a completed instruction ends the shadows but for one it opens (10_state.md R71, R88;
61_debug_coproc_multiproc.md R672, R681, R684; log entry 32). -/
def State.retire (s : State) (d : Done) : State :=
  { s with eip := s.eipNext, pfx := Prefixes.empty,
           flags := { s.flags with RF := s.flags.RF && d.keepsRF },
           ssShadow := if d.completes then d == .opensSs else s.ssShadow,
           stiShadow := if d.completes then d == .opensSti else s.stiShadow,
           dbg := { s.dbg with pendingBS := s.dbg.pendingBS || (s.dbg.tfAtStart && d != .again), matched := Hits.none } }

/-- Completion of an instruction or string element: earlier late reports become pending, then this one's are recorded. -/
def complete (d : Done) : M Unit := do
  modS fun s => { s with dbg := { s.dbg with pending := s.dbg.pending.union s.dbg.late, late := Hits.none } }
  reportBreakpoints
  modS fun s => s.retire d

/-- The step an instruction's computation makes from `s`: its own effect, or the fault it raises delivered with
`EIP_start` saved (60_exceptions.md R581). -/
def outcomeOf (s : State) (r : EStateM.Result Halt State Unit) : Host.Outcome State Fault Refusal :=
  match r with
  | .ok _ s' => .next s'
  | .error (.exc e) s' => deliver deliverFuel (e.event s.eip) (State.rollback s s')
  | .error (.late e) s' => .next (s'.owing e)
  | .error .shutdown s' => .next (State.rollback s s').shutDown
  | .error (.abort ret) s' => deliver deliverFuel (overrun ret) (State.rollback s s')
  | .error (.refuse x) _ => .refused x

/-- Run an instruction: LOCK is #UD unless `lockable` (30_encoding.md R224), then the body, then completion. -/
def runInstr (lockable : Bool) (body : M Done) (s : State) : Host.Outcome State Fault Refusal :=
  outcomeOf s <| (do
    if s.pfx.lock && !lockable then raiseUD else pure ()
    let d ← body
    complete d) s

/-- Run an instruction whose body always ends normally. -/
def runNormal (lockable : Bool) (body : M Unit) (s : State) : Host.Outcome State Fault Refusal :=
  runInstr lockable (do body; pure Done.normal) s

/-- Run an instruction that LOCK may not precede and that ends normally. -/
def run (body : M Unit) (s : State) : Host.Outcome State Fault Refusal := runNormal false body s

/-! ## The return from an interrupt or exception -/

/-- `LoadFlags` of `n` bits at privilege level `c` (47_segment_far_transfer.md R470). -/
def Eflags.load (f : Eflags) (v : BitVec 32) (is32 : Bool) (c : BitVec 2) : Eflags :=
  let g := Eflags.ofBits v
  { g with IF := if c.toNat ≤ f.IOPL.toNat then g.IF else f.IF, IOPL := if c = 0#2 then g.IOPL else f.IOPL,
           RF := if is32 then g.RF else f.RF, VM := if is32 && c == 0#2 then g.VM else f.VM }

/-- The checks of a popped CS selector (47_segment_far_transfer.md R468). -/
def checkReturnCs (ncs : BitVec 16) : M Desc := do
  let s ← getS
  require (decide (s.cpl.toNat ≤ (rplOf ncs).toNat)) vGP (selCode ncs false)
  require (!nullSel ncs) vGP (selCode ncs false)
  let d ← fetchDescOr ncs vGP (selCode ncs false)
  require d.isCode vGP (selCode ncs false)
  require (if d.isConforming then decide (d.dpl.toNat ≤ (rplOf ncs).toNat) else d.dpl == rplOf ncs) vGP (selCode ncs false)
  require d.p vNP (selCode ncs false)
  pure d

/-- The checks of a popped SS selector against the RPL of the popped CS (47_segment_far_transfer.md R466). -/
def checkReturnSs (nss : BitVec 16) (rpl : BitVec 2) : M Desc := do
  require (!nullSel nss) vGP (selCode nss false)
  let d ← fetchDescOr nss vGP (selCode nss false)
  require d.isWritableData vGP (selCode nss false)
  require (rplOf nss == rpl) vGP (selCode nss false)
  require (d.dpl == rpl) vGP (selCode nss false)
  require d.p vSS (selCode nss false)
  pure d

/-- After a return outward, a data-segment register that names a more privileged segment becomes null
(47_segment_far_transfer.md R466 step 3). -/
def SegReg.scrub (g : SegReg) (cpl : BitVec 2) : SegReg :=
  if g.valid && g.s && !(g.executable && g.bit2) && decide (g.dpl.toNat < cpl.toNat) then g.nulled 0#16 else g

/-- Scrub DS, ES, FS, GS. -/
def Segs.scrub (g : Segs) (cpl : BitVec 2) : Segs :=
  { g with ds := g.ds.scrub cpl, es := g.es.scrub cpl, fs := g.fs.scrub cpl, gs := g.gs.scrub cpl }

/-- Bytes `sp .. sp + n - 1` lie inside the SS limit (47_segment_far_transfer.md R468). -/
def State.stackHas (s : State) (n : Nat) : Bool := s.seg.ss.inLimit s.stackPtr n

/-- Finish a return to the same level: CS:EIP, and the stack pointer past `n` bytes (47_segment_far_transfer.md R468). -/
def returnSame (d : Desc) (ncs : BitVec 16) (neip : BitVec 32) (n : Nat) : M Unit := do
  let s ← getS
  require (decide (neip.toNat ≤ d.limit.toNat)) vGP (zeroCode false)
  loadCode d ncs s.cpl
  modS fun s => (s.setStackPtr (s.above n)).jump neip

/-- Finish a return to an outer level: the stack holds the new ESP and SS after `skip` bytes; `release` more bytes are
released on the outer stack (47_segment_far_transfer.md R466). -/
def returnOuter (sz : Size) (d : Desc) (ncs : BitVec 16) (neip : BitVec 32) (skip release : Nat) : M Unit := do
  let s ← getS
  require (s.stackHas (skip + 2 * sz.bytes)) vSS (zeroCode false)
  let nesp ← peek skip sz
  let nss ← peek (skip + sz.bytes) .w
  let sd ← checkReturnSs nss (rplOf ncs)
  require (decide (neip.toNat ≤ d.limit.toNat)) vGP (zeroCode false)
  loadCode d ncs (rplOf ncs)
  setAccessed sd
  putSeg .ss (sd.toSeg nss)
  modS fun s =>
    { s with gpr := s.gpr.write sz .sp (nesp + BitVec.ofNat sz.bits release), seg := s.seg.scrub (rplOf ncs) }.jump neip

/-- IRET in real-address mode (47_segment_far_transfer.md R470). The popped EIP is not held against the CS limit: log entry 36, DESIGN
CHOICE. -/
def iretReal (sz : Size) (neip : BitVec 32) (ncs : BitVec 16) (nfl : BitVec 32) : M Unit := do
  if sz == .d && nfl.getLsbD 17 then halt (.refuse .virtual8086) else pure ()
  loadCodeReal ncs
  modS fun s =>
    { (s.setStackPtr (s.above (3 * sz.bytes))).jump neip with flags := s.flags.load nfl (sz == .d) 0#2, nmiInService := false }

/-- THE RETURN FROM AN INTERRUPT OR EXCEPTION: IRET and IRETD (47_segment_far_transfer.md R470). -/
def interruptReturn : M Done := do
  let s ← getS
  let sz := s.osz
  if s.protectedMode && s.flags.NT then do
    iretTask
    pure .keepRF
  else do
    require (s.stackHas (3 * sz.bytes)) vSS (zeroCode false)
    let neip ← peek 0 sz
    let ncs ← peek sz.bytes .w
    let nfl ← peek (2 * sz.bytes) sz
    let eip := neip.setWidth 32
    let fl := nfl.setWidth 32
    if !s.protectedMode then do
      iretReal sz eip ncs fl
      pure .keepRF
    else if sz == .d && fl.getLsbD 17 && s.cpl == 0#2 then halt (.refuse .virtual8086)
    else do
      let d ← checkReturnCs ncs
      if rplOf ncs = s.cpl then returnSame d ncs eip (3 * sz.bytes)
      else returnOuter sz d ncs eip (3 * sz.bytes) 0
      modS fun s' => { s' with flags := s'.flags.load fl (sz == .d) s.cpl, nmiInService := false }
      pure .keepRF

end Sys2Proof.Machine
end

