-- ==== Sys2Proof/Machine/Boundary.lean ====
section
/-! DEFINITION. What a step does around an instruction: RESET, the events serviced at an instruction boundary, and fetching
an instruction's bytes (60_exceptions.md R601; 61_debug_coproc_multiproc.md R671, R677; 30_encoding.md R225;
20_memory.md R121; 70_reset_and_hazards.md R700). -/
namespace Sys2Proof.Machine

/-- The RESET signal: the reset state, with memory, platform, outputs and inputs kept; EAX holds the result of the self-test
if BUSY# requests one (10_state.md R93; 70_reset_and_hazards.md R700). -/
def State.afterReset (s : State) : State :=
  { State.reset with
    gpr := { State.reset.gpr with eax := if s.pins.busy then s.plat.selfTestResult else 0#32, edx := 0#16 ++ 3#8 ++ s.plat.steppingId }
    cr0 := { State.reset.cr0 with ET := s.plat.coprocessor == .i387 }
    plat := s.plat
    pins := { s.pins with reset := false }
    draws := s.draws
    ioOut := s.ioOut
    copOut := s.copOut
    busOut := s.busOut
    lockOut := s.lockOut
    mem := s.mem }

/-- Latch an NMI signal; while an NMI handler runs it is dropped (10_state.md R87, D14). -/
def State.sampleNmi (s : State) : State :=
  { s with nmiPending := s.nmiPending || (s.pins.nmi && !s.nmiInService), pins := { s.pins with nmi := false } }

/-- Linear address of the next instruction (10_state.md R70). -/
def State.codeAddr (s : State) : BitVec 32 := s.seg.cs.base + s.eip

/-- Whether one condition matches the start of the next instruction; an undefined setting by a draw while enabled
(61_debug_coproc_multiproc.md R670, R671). -/
def instrHit (k : Fin 4) : M Bool := do
  let s ← getS
  if undefinedSetting (s.dbg.rw k) (s.dbg.len k) then (if s.dbg.enabled k then drawBool else pure false)
  else pure (s.dbg.rw k == 0#2 && s.dbg.addr k == s.codeAddr)

/-- The instruction breakpoints on the next instruction, enabled or not, and whether an enabled one is among them (R671, R676). -/
def instrBreakpoints : M (Hits × Bool) := do
  let s ← getS
  if !s.flags.RF && s.run != .halted then do
    let h0 ← instrHit 0
    let h1 ← instrHit 1
    let h2 ← instrHit 2
    let h3 ← instrHit 3
    let e := s.dbg.enabled
    pure (⟨h0, h1, h2, h3⟩, (h0 && e 0) || (h1 && e 1) || (h2 && e 2) || (h3 && e 3))
  else pure (Hits.none, false)

/-- Debug traps are pending (R661). -/
def Debug.trapPending (d : Debug) : Bool := !d.pending.isNone || d.pendingBS || d.pendingBT

/-- The event serviced at this boundary, if any, in the order of 60_exceptions.md R601. A debug exception reports every condition
that matched, enabled or not (61_debug_coproc_multiproc.md R676, R677; I20). In the shadow of a load of SS the traps pending here are
dropped (60_exceptions.md R625). That a data-breakpoint report the load holds back (`dbg.late`, R673) is not among them, and one held
back by the instruction before it is, is the model's choice (log entry 40, DESIGN CHOICE). -/
def boundaryEvent : M (Option Event) := do
  let s ← getS
  if s.ssShadow then do
    modS fun s => { s with dbg := { s.dbg with pending := Hits.none, pendingBS := false, pendingBT := false, seen := Hits.none } }
    pure none
  else do
    let (h, fault) ← instrBreakpoints
    if s.dbg.trapPending || fault then do
      modS fun s =>
        { s with dbg := s.dbg.report ((s.dbg.pending.union s.dbg.seen).union h) s.dbg.pendingBS s.dbg.pendingBT }
      pure (some ⟨vDB, .exception, .none, s.eip, fault⟩)
    else if s.nmiPending && !s.nmiInService then do
      modS fun s => { s with nmiPending := false, dbg := { s.dbg with seen := Hits.none } }
      pure (some ⟨vNMI, .nmi, .none, s.eip, false⟩)
    else if s.flags.IF && !s.stiShadow then
      match s.pins.intr with
      | some v => do
        modS fun s =>
          { s.asserting .acknowledge [] with pins := { s.pins with intr := none }, dbg := { s.dbg with seen := Hits.none } }
        pure (some ⟨v, .external, .none, s.eip, false⟩)
      | none => pure none
    else pure none

/-- What the start of an instruction or element does: TF is remembered, nothing has matched, no byte has been fetched
(61_debug_coproc_multiproc.md R672, R684). -/
def State.beginInstr (s : State) : State :=
  { s with fetched := [], dbg := { s.dbg with tfAtStart := s.flags.TF, matched := Hits.none, seen := Hits.none } }

/-- Whether the instruction byte `k` bytes after EIP may be fetched: inside the CS limit, and not past offset FFFFFFFFH in
sequence where that is #GP(0) by `EIP_WRAP` (20_memory.md R121; 10_state.md R72, D11; log entry 28). -/
def State.mayFetch (s : State) (k : Nat) : Bool :=
  s.segOk .cs (s.eip + BitVec.ofNat 32 k) 1 .fetch &&
    (s.plat.eipWrap || (!s.pastEnd && decide (s.eip.toNat + k < 2 ^ 32)))

/-- Read the instruction byte `k` bytes after EIP from memory (20_memory.md R121). -/
def codeByte (k : Nat) : M Byte := do
  let s ← getS
  let l ← resolve (s.seg.cs.base + (s.eip + BitVec.ofNat 32 k)) 1 false s.user
  loadLoc 8 l

/-- Fetch the instruction byte `k` bytes after EIP: its checks, then the prefetch queue if it holds the byte, else memory
(20_memory.md R121; 10_state.md R86). -/
def fetchByte (k : Nat) : M Byte := do
  let s ← getS
  if s.mayFetch k then do
    modS fun s => { s with queue := s.queue.tail }
    let b ← match s.queue with
      | some b :: _ => pure b
      | _ => codeByte k
    modS fun s => { s with fetched := s.fetched ++ [b] }
    pure b
  else raise vGP (zeroCode false)

/-- Fetch until the decoder has an instruction: bytes one at a time, at most 15 with the prefixes (30_encoding.md R201,
R225). Answers the instruction and how many bytes it took after the prefixes. -/
def fetchFrom : Nat → List Byte → M (Instr × Nat)
  | 0, _ => raise vGP (zeroCode false)
  | fuel + 1, acc => do
    let s ← getS
    match decode s.attrs acc with
    | .ok i _ => pure (i, acc.length)
    | .stop .needMore =>
      if s.pfx.count + acc.length < 15 then do
        let b ← fetchByte (s.pfx.count + acc.length)
        fetchFrom fuel (acc ++ [b])
      else raise vGP (zeroCode false)
    | .stop .undefinedOpcode => raiseUD
    | .stop .undefinedGroupCell => raiseUD

/-- Read ahead the byte `k` bytes after EIP: as any fetch, by a cached translation or a page walk, but without its exception
(93_implementation_defined.md I6; 20_memory.md R136, R141; log entry 15). -/
def readAhead (k : Nat) : M (Option Byte) := fun s =>
  if s.mayFetch k then
    match codeByte k s with
    | .ok b t => .ok (some b) t
    | .error _ t => .ok none { s with draws := t.draws }
  else .ok none s

/-- The queue after `n` slots from the byte `k` bytes after EIP on had their chance: a slot that holds a byte keeps it, any
other is read ahead by a draw (10_state.md R86; 20_memory.md R152; log entry 15). -/
def refill : Nat → Nat → List (Option Byte) → M (List (Option Byte))
  | 0, _, q => pure q
  | n + 1, k, q => do
    let b ← match q with
      | some b :: _ => pure (some b)
      | _ => do
        let ahead ← drawBool
        if ahead then readAhead k else pure none
    let rest ← refill n (k + 1) q.tail
    pure (b :: rest)

/-- Prefetch: each of the `PREFETCH_DEPTH` bytes after the bytes fetched so far may be read ahead, before the instruction's own
effect (10_state.md R86; 20_memory.md R152; 70_reset_and_hazards.md R730; log entry 15). -/
def prefetch (k : Nat) : M Unit := do
  let s ← getS
  let q ← refill s.plat.prefetchDepth k s.queue
  modS fun s => { s with queue := q }

/-- Fetch and decode one instruction or prefix, set `EIP_next`, and read ahead (30_encoding.md R225). -/
def fetchInstr : M Instr := do
  let (i, n) ← fetchFrom 16 []
  let s ← getS
  let len := s.pfx.count + n
  prefetch len
  modS fun s => { s with eipNext := s.eip + BitVec.ofNat 32 len, pastEnd := decide (s.eip.toNat + len = 2 ^ 32) }
  pure i

/-- What a linear byte address translates to without any side effect, for placing an instruction. -/
def State.peekPhys (s : State) (la : BitVec 32) : Option (BitVec 32) :=
  if s.cr0.PG then
    let pde := s.phys32 (s.pdeAddr la)
    let pte := s.phys32 (pteAddr pde la)
    if pde.getLsbD 0 && pte.getLsbD 0 && pageAllowed (pde.getLsbD 2 && pte.getLsbD 2) (pde.getLsbD 1 && pte.getLsbD 1) false s.user
    then some (pte.extractLsb' 12 20 ++ la.extractLsb' 0 12) else none
  else some la

end Sys2Proof.Machine
end

