-- ==== Sys2Proof/Machine/Flags.lean ====
section
/-! DEFINITION. Every status-flag computation of the spec (41_binary_arithmetic.md R290; 10_state.md R51;
30_encoding.md R233; 42_decimal_arithmetic.md; 43_logical_shift_bit.md R343 to R353). -/
namespace Sys2Proof.Machine

/-- The six status flags an instruction computes. -/
structure Status where
  CF : Bool
  PF : Bool
  AF : Bool
  ZF : Bool
  SF : Bool
  OF : Bool
deriving DecidableEq, Repr

/-- Write all six status flags. -/
def Eflags.setStatus (f : Eflags) (st : Status) : Eflags :=
  { f with CF := st.CF, PF := st.PF, AF := st.AF, ZF := st.ZF, SF := st.SF, OF := st.OF }

/-- Write the status flags but CF, as INC and DEC do (R293, R296). -/
def Eflags.setStatusKeepCF (f : Eflags) (st : Status) : Eflags := f.setStatus { st with CF := f.CF }

/-- Number of one bits among the low `n` bits. -/
def countOnes {w : Nat} (v : BitVec w) : Nat → Nat
  | 0 => 0
  | n + 1 => (if v.getLsbD n then 1 else 0) + countOnes v n

/-- PF: the low eight bits of the result hold an even number of ones (10_state.md R51). -/
def parityOf {w : Nat} (r : BitVec w) : Bool := countOnes r 8 % 2 == 0

/-- SF: the sign bit of the result. -/
def signOf {w : Nat} (r : BitVec w) : Bool := r.msb

/-- ZF: all bits of the result are zero. -/
def zeroOf {w : Nat} (r : BitVec w) : Bool := r == 0#w

/-- `AddFlags` (R290). -/
def addFlags {w : Nat} (a b : BitVec w) (c : Bool) : BitVec w × Status :=
  let full := a.toNat + b.toNat + c.toNat
  let r := BitVec.ofNat w full
  (r, { CF := decide (2 ^ w ≤ full), PF := parityOf r, AF := decide (16 ≤ a.toNat % 16 + b.toNat % 16 + c.toNat),
        ZF := zeroOf r, SF := signOf r, OF := a.msb == b.msb && r.msb != a.msb })

/-- `SubFlags` (R290). -/
def subFlags {w : Nat} (a b : BitVec w) (c : Bool) : BitVec w × Status :=
  let r := BitVec.ofInt w ((a.toNat : Int) - (b.toNat : Int) - (c.toNat : Int))
  (r, { CF := decide (a.toNat < b.toNat + c.toNat), PF := parityOf r, AF := decide (a.toNat % 16 < b.toNat % 16 + c.toNat),
        ZF := zeroOf r, SF := signOf r, OF := a.msb != b.msb && r.msb != a.msb })

/-- `LogicFlags` with its undefined AF supplied (R290). -/
def logicFlags {w : Nat} (r : BitVec w) (af : Bool) : Status :=
  { CF := false, PF := parityOf r, AF := af, ZF := zeroOf r, SF := signOf r, OF := false }

/-- The condition codes (30_encoding.md R233). -/
def condHolds (c : Cond) (f : Eflags) : Bool :=
  match c with
  | .o => f.OF
  | .no => !f.OF
  | .b => f.CF
  | .nb => !f.CF
  | .e => f.ZF
  | .ne => !f.ZF
  | .be => f.CF || f.ZF
  | .nbe => !f.CF && !f.ZF
  | .s => f.SF
  | .ns => !f.SF
  | .p => f.PF
  | .np => !f.PF
  | .l => f.SF != f.OF
  | .nl => f.SF == f.OF
  | .le => f.ZF || f.SF != f.OF
  | .nle => !f.ZF && f.SF == f.OF

/-- Write the status flags in the machine monad. -/
def putStatus (st : Status) : M Unit := modFlags fun f => f.setStatus st

/-- CF and OF get a value, the other four are undefined: MUL and IMUL (R300 to R303). -/
def putCarryOverflow (v : Bool) : M Unit := do
  let pf ← drawBool
  let af ← drawBool
  let zf ← drawBool
  let sf ← drawBool
  putStatus { CF := v, PF := pf, AF := af, ZF := zf, SF := sf, OF := v }

/-- All six status flags are undefined: DIV and IDIV (R304, R305). -/
def undefStatus : M Unit := do
  let cf ← drawBool
  let pf ← drawBool
  let af ← drawBool
  let zf ← drawBool
  let sf ← drawBool
  let of ← drawBool
  putStatus { CF := cf, PF := pf, AF := af, ZF := zf, SF := sf, OF := of }

/-- The flags of a logical result, AF drawn (R290). -/
def putLogic {w : Nat} (r : BitVec w) : M Unit := do
  let af ← drawBool
  putStatus (logicFlags r af)

end Sys2Proof.Machine
end

