-- ==== Sys2Proof/Machine/Operands.lean ====
section
/-! DEFINITION. Every operand form: effective addresses, the segment of a memory operand, register or memory operands
located, read and written, immediates (30_encoding.md R211 to R221; 40_data_movement.md R260). -/
namespace Sys2Proof.Machine

/-- Factor of a scale. -/
def scaleShift : Scale → Nat
  | .x1 => 0 | .x2 => 1 | .x4 => 2 | .x8 => 3

/-- The register terms of a 16-bit address (30_encoding.md R215). -/
def base16 (g : Gpr) : Base16 → BitVec 16
  | .bxsi => g.read .w .bx + g.read .w .si
  | .bxdi => g.read .w .bx + g.read .w .di
  | .bpsi => g.read .w .bp + g.read .w .si
  | .bpdi => g.read .w .bp + g.read .w .di
  | .si => g.read .w .si
  | .di => g.read .w .di
  | .bp => g.read .w .bp
  | .bx => g.read .w .bx
  | .none => 0#16

/-- Effective address (30_encoding.md R216). -/
def memEa (g : Gpr) : Mem → BitVec 32
  | .a32 base index disp =>
    (match base with | none => 0#32 | some r => g.get r) +
    (match index with | none => 0#32 | some (x, sc) => g.get x <<< scaleShift sc) + disp
  | .a16 base disp => (base16 g base + disp).setWidth 32

/-- A multi-part operand's later offset, in the operand's address size (47_segment_far_transfer.md R454). -/
def memEaPlus (g : Gpr) (m : Mem) (n : Nat) : BitVec 32 :=
  match m with
  | .a32 .. => memEa g m + BitVec.ofNat 32 n
  | .a16 .. => wrapOff false (memEa g m + BitVec.ofNat 32 n)

/-- Default segment: SS for a base of ESP, EBP or BP, else DS (30_encoding.md R220). -/
def memDefaultSeg : Mem → SReg
  | .a32 (some .sp) _ _ => .ss
  | .a32 (some .bp) _ _ => .ss
  | .a16 .bpsi _ => .ss
  | .a16 .bpdi _ => .ss
  | .a16 .bp _ => .ss
  | _ => .ds

/-- A segment with any override applied (30_encoding.md R221). -/
def State.segFor (s : State) (default : SReg) : SReg := s.pfx.segOvr.getD default

/-- Segment of a memory operand. -/
def State.memSeg (s : State) (m : Mem) : SReg := s.segFor (memDefaultSeg m)

/-- The operand is in memory. -/
def isMem : Rm → Bool
  | .reg _ => false
  | .mem _ => true

/-- An operand once located: a register, or the physical bytes. -/
inductive Place where
  | reg (r : Reg)
  | mem (l : Loc)
deriving DecidableEq, Repr

/-- Locate an operand, with every check of the access made (40_data_movement.md R260). -/
def place (sz : Size) (rm : Rm) (write : Bool) : M Place :=
  match rm with
  | .reg r => pure (.reg r)
  | .mem m => do
    let s ← getS
    let l ← locate (s.memSeg m) (memEa s.gpr m) sz.bytes write
    pure (.mem l)

/-- Read a located operand. -/
def readPlace (sz : Size) : Place → M (BitVec sz.bits)
  | .reg r => getReg sz r
  | .mem l => loadLoc sz.bits l

/-- Write a located operand. -/
def writePlace (sz : Size) (p : Place) (v : BitVec sz.bits) : M Unit :=
  match p with
  | .reg r => putReg sz r v
  | .mem l => storeLoc l v

/-- Read an `E` operand. -/
def readRm (sz : Size) (rm : Rm) : M (BitVec sz.bits) := do
  let p ← place sz rm false
  readPlace sz p

/-- Write an `E` operand. -/
def writeRm (sz : Size) (rm : Rm) (v : BitVec sz.bits) : M Unit := do
  let p ← place sz rm true
  writePlace sz p v

/-- Read, change and write an `E` operand: write permission is checked before the read (41_binary_arithmetic.md R299). -/
def modifyRm (sz : Size) (rm : Rm) (f : BitVec sz.bits → M (BitVec sz.bits)) : M Unit := do
  let p ← place sz rm true
  let a ← readPlace sz p
  let r ← f a
  writePlace sz p r

/-- An immediate of `v` width (30_encoding.md R218). -/
def immV (sz : Size) (imm : BitVec 32) : BitVec sz.bits := imm.setWidth sz.bits
/-- A byte immediate sign-extended (30_encoding.md R218). -/
def immS (sz : Size) (imm : BitVec 8) : BitVec sz.bits := imm.signExtend sz.bits

/-- The memory operand of a form that admits no register: a register operand is #UD (30_encoding.md R241). -/
def onlyMem (rm : Rm) : M Mem :=
  match rm with
  | .reg _ => raiseUD
  | .mem m => pure m

/-- A part of a memory operand read `n` bytes after its start, the address not being taken modulo 2^16 again
(30_encoding.md R216; 47_segment_far_transfer.md R464, R465; 48_system_io.md R490). -/
def readPart (sz : Size) (m : Mem) (n : Nat) : M (BitVec sz.bits) := do
  let s ← getS
  lread (s.memSeg m) (memEa s.gpr m + BitVec.ofNat 32 n) sz

/-- The segment checks of a memory operand of `n` bytes that is accessed in parts, made for all of it as one access before any part
(21_protection.md R172, D29). -/
def checkWhole (m : Mem) (n : Nat) (k : AccessKind) : M Unit := do
  let s ← getS
  if s.segOk (s.memSeg m) (memEa s.gpr m) n k then pure () else segFault (s.memSeg m)

/-- A far pointer in memory: offset of the operand size, then selector (20_memory.md R112; 47_segment_far_transfer.md R464,
R465; 21_protection.md R172). -/
def readFarPtr (sz : Size) (rm : Rm) : M (BitVec 32 × BitVec 16) := do
  let m ← onlyMem rm
  checkWhole m (sz.bytes + 2) .read
  let off ← readPart sz m 0
  let sel ← readPart .w m sz.bytes
  pure (off.setWidth 32, sel)

/-- Index registers of string instructions and XLAT: 32 or 16 bits by the address size (30_encoding.md R206). -/
def State.asz (s : State) : Size := vSize s.attrs.a32

end Sys2Proof.Machine
end

