-- ==== Sys2Proof/Machine/Arith.lean ====
section
/-! DEFINITION. Shared operations of binary arithmetic, and of AND, OR, XOR, TEST (41_binary_arithmetic.md R291 to R305;
43_logical_shift_bit.md R331 to R335). -/
namespace Sys2Proof.Machine

/-- The eight operations of group 1 and of the six-form opcodes (R299). -/
inductive AluOp where
  | add | or | adc | sbb | and | sub | xor | cmp
deriving DecidableEq, Repr

/-- Compute a result and write the flags (R291 to R297; 43_logical_shift_bit.md R331 to R333). -/
def alu (op : AluOp) {w : Nat} (a b : BitVec w) : M (BitVec w) := do
  let s ← getS
  match op with
  | .add => do
    putStatus (addFlags a b false).2
    pure (addFlags a b false).1
  | .adc => do
    putStatus (addFlags a b s.flags.CF).2
    pure (addFlags a b s.flags.CF).1
  | .sub => do
    putStatus (subFlags a b false).2
    pure (subFlags a b false).1
  | .cmp => do
    putStatus (subFlags a b false).2
    pure a
  | .sbb => do
    putStatus (subFlags a b s.flags.CF).2
    pure (subFlags a b s.flags.CF).1
  | .and => do
    putLogic (a &&& b)
    pure (a &&& b)
  | .or => do
    putLogic (a ||| b)
    pure (a ||| b)
  | .xor => do
    putLogic (a ^^^ b)
    pure (a ^^^ b)

/-- Destination `E`, source a value (R299). -/
def aluTo (op : AluOp) (sz : Size) (rm : Rm) (b : BitVec sz.bits) : M Unit := modifyRm sz rm fun a => alu op a b

/-- Forms `E,G` (R299). -/
def aluEG (op : AluOp) (sz : Size) (rm : Rm) (r : Reg) : M Unit := do
  let b ← getReg sz r
  aluTo op sz rm b

/-- Forms `G,E` (R299). -/
def aluGE (op : AluOp) (sz : Size) (r : Reg) (rm : Rm) : M Unit := do
  let b ← readRm sz rm
  aluTo op sz (.reg r) b

/-- CMP of `E` with a value: the destination is only read (R297). -/
def cmpWith (sz : Size) (rm : Rm) (b : BitVec sz.bits) : M Unit := do
  let a ← readRm sz rm
  let _ ← alu .cmp a b

/-- CMP `E,G`. -/
def cmpEG (sz : Size) (rm : Rm) (r : Reg) : M Unit := do
  let b ← getReg sz r
  cmpWith sz rm b

/-- CMP `G,E`. -/
def cmpGE (sz : Size) (r : Reg) (rm : Rm) : M Unit := do
  let b ← readRm sz rm
  cmpWith sz (.reg r) b

/-- TEST of `E` with a value: AND, flags only (43_logical_shift_bit.md R335). -/
def testWith (sz : Size) (rm : Rm) (b : BitVec sz.bits) : M Unit := do
  let a ← readRm sz rm
  putLogic (a &&& b)

/-- TEST `E,G`. -/
def testEG (sz : Size) (rm : Rm) (r : Reg) : M Unit := do
  let b ← getReg sz r
  testWith sz rm b

/-- INC (R293). -/
def incRm (sz : Size) (rm : Rm) : M Unit := modifyRm sz rm fun a => do
  modFlags fun f => f.setStatusKeepCF (addFlags a 1#sz.bits false).2
  pure (addFlags a 1#sz.bits false).1

/-- DEC (R296). -/
def decRm (sz : Size) (rm : Rm) : M Unit := modifyRm sz rm fun a => do
  modFlags fun f => f.setStatusKeepCF (subFlags a 1#sz.bits false).2
  pure (subFlags a 1#sz.bits false).1

/-- NEG (R298). -/
def negRm (sz : Size) (rm : Rm) : M Unit := modifyRm sz rm fun a => do
  putStatus (subFlags 0#sz.bits a false).2
  pure (subFlags 0#sz.bits a false).1

/-- NOT: no flags (43_logical_shift_bit.md R334). -/
def notRm (sz : Size) (rm : Rm) : M Unit := modifyRm sz rm fun a => pure (~~~ a)

/-- The upper accumulator: AH for bytes, DX or EDX otherwise (R300, R304). -/
def highAcc : Size → Reg
  | .b => .sp | .w => .dx | .d => .dx

/-- Write a double-length result (R300). -/
def putWide (sz : Size) (p : Int) : M Unit := do
  putReg sz .ax (BitVec.ofInt sz.bits p)
  putReg sz (highAcc sz) (BitVec.ofInt sz.bits (p / 2 ^ sz.bits))

/-- MUL (R300). -/
def mulRm (sz : Size) (rm : Rm) : M Unit := do
  let b ← readRm sz rm
  let a ← getReg sz .ax
  let p : Int := (a.toNat * b.toNat : Nat)
  putWide sz p
  putCarryOverflow (decide (2 ^ sz.bits ≤ p))

/-- The signed product does not fit in `w` bits (R301 to R303). -/
def signedOverflow (w : Nat) (p : Int) : Bool := (BitVec.ofInt w p).toInt != p

/-- One-operand IMUL (R301). -/
def imulRm (sz : Size) (rm : Rm) : M Unit := do
  let b ← readRm sz rm
  let a ← getReg sz .ax
  let p := a.toInt * b.toInt
  putWide sz p
  putCarryOverflow (signedOverflow sz.bits p)

/-- Two- and three-operand IMUL: the product truncated to a register (R302, R303). -/
def imulTo (sz : Size) (r : Reg) (a b : BitVec sz.bits) : M Unit := do
  putReg sz r (BitVec.ofInt sz.bits (a.toInt * b.toInt))
  putCarryOverflow (signedOverflow sz.bits (a.toInt * b.toInt))

/-- Two-operand IMUL (R302). -/
def imulGE (sz : Size) (r : Reg) (rm : Rm) : M Unit := do
  let b ← readRm sz rm
  let a ← getReg sz r
  imulTo sz r a b

/-- Three-operand IMUL (R303). -/
def imulGEI (sz : Size) (r : Reg) (rm : Rm) (imm : BitVec sz.bits) : M Unit := do
  let a ← readRm sz rm
  imulTo sz r a imm

/-- DIV (R304). -/
def divRm (sz : Size) (rm : Rm) : M Unit := do
  let d ← readRm sz rm
  let hi ← getReg sz (highAcc sz)
  let lo ← getReg sz .ax
  let n := hi.toNat * 2 ^ sz.bits + lo.toNat
  require (d != 0#sz.bits) vDE .none
  require (decide (n / d.toNat < 2 ^ sz.bits)) vDE .none
  putReg sz .ax (BitVec.ofNat sz.bits (n / d.toNat))
  putReg sz (highAcc sz) (BitVec.ofNat sz.bits (n % d.toNat))
  undefStatus

/-- IDIV: quotient truncated toward zero, remainder of the dividend's sign (R305). -/
def idivRm (sz : Size) (rm : Rm) : M Unit := do
  let d ← readRm sz rm
  let hi ← getReg sz (highAcc sz)
  let lo ← getReg sz .ax
  let n : Int := hi.toInt * 2 ^ sz.bits + lo.toNat
  require (d != 0#sz.bits) vDE .none
  let q := n.tdiv d.toInt
  require (decide (-(2 ^ (sz.bits - 1)) ≤ q) && decide (q < 2 ^ (sz.bits - 1))) vDE .none
  putReg sz .ax (BitVec.ofInt sz.bits q)
  putReg sz (highAcc sz) (BitVec.ofInt sz.bits (n.tmod d.toInt))
  undefStatus

end Sys2Proof.Machine
end

