-- ==== Sys2Proof/Machine/ArithInstrs.lean ====
section
/-! DEFINITION. The meanings of binary arithmetic (41_binary_arithmetic.md): one definition per constructor, over the shared operations. -/
namespace Sys2Proof.Machine

/-- ADD Eb,Gb (41_binary_arithmetic.md R291). -/
def execAddEbGb (rm : Rm) (r : Reg) (s : State) : Host.Outcome State Fault Refusal :=
  runNormal (isMem rm) (aluEG .add .b rm r) s

/-- ADD Ev,Gv (41_binary_arithmetic.md R291). -/
def execAddEvGv (rm : Rm) (r : Reg) (s : State) : Host.Outcome State Fault Refusal :=
  runNormal (isMem rm) (aluEG .add s.osz rm r) s

/-- ADD Gb,Eb (41_binary_arithmetic.md R291). -/
def execAddGbEb (r : Reg) (rm : Rm) (s : State) : Host.Outcome State Fault Refusal := run (aluGE .add .b r rm) s

/-- ADD Gv,Ev (41_binary_arithmetic.md R291). -/
def execAddGvEv (r : Reg) (rm : Rm) (s : State) : Host.Outcome State Fault Refusal := run (aluGE .add s.osz r rm) s

/-- ADD AL,Ib (41_binary_arithmetic.md R291). -/
def execAddAlIb (imm : BitVec 8) (s : State) : Host.Outcome State Fault Refusal := run (aluTo .add .b (.reg .ax) imm) s

/-- ADD eAX,Iv (41_binary_arithmetic.md R291). -/
def execAddEaxIv (imm : BitVec 32) (s : State) : Host.Outcome State Fault Refusal :=
  run (aluTo .add s.osz (.reg .ax) (immV s.osz imm)) s

/-- ADC Eb,Gb (41_binary_arithmetic.md R292). -/
def execAdcEbGb (rm : Rm) (r : Reg) (s : State) : Host.Outcome State Fault Refusal :=
  runNormal (isMem rm) (aluEG .adc .b rm r) s

/-- ADC Ev,Gv (41_binary_arithmetic.md R292). -/
def execAdcEvGv (rm : Rm) (r : Reg) (s : State) : Host.Outcome State Fault Refusal :=
  runNormal (isMem rm) (aluEG .adc s.osz rm r) s

/-- ADC Gb,Eb (41_binary_arithmetic.md R292). -/
def execAdcGbEb (r : Reg) (rm : Rm) (s : State) : Host.Outcome State Fault Refusal := run (aluGE .adc .b r rm) s

/-- ADC Gv,Ev (41_binary_arithmetic.md R292). -/
def execAdcGvEv (r : Reg) (rm : Rm) (s : State) : Host.Outcome State Fault Refusal := run (aluGE .adc s.osz r rm) s

/-- ADC AL,Ib (41_binary_arithmetic.md R292). -/
def execAdcAlIb (imm : BitVec 8) (s : State) : Host.Outcome State Fault Refusal := run (aluTo .adc .b (.reg .ax) imm) s

/-- ADC eAX,Iv (41_binary_arithmetic.md R292). -/
def execAdcEaxIv (imm : BitVec 32) (s : State) : Host.Outcome State Fault Refusal :=
  run (aluTo .adc s.osz (.reg .ax) (immV s.osz imm)) s

/-- SBB Eb,Gb (41_binary_arithmetic.md R295). -/
def execSbbEbGb (rm : Rm) (r : Reg) (s : State) : Host.Outcome State Fault Refusal :=
  runNormal (isMem rm) (aluEG .sbb .b rm r) s

/-- SBB Ev,Gv (41_binary_arithmetic.md R295). -/
def execSbbEvGv (rm : Rm) (r : Reg) (s : State) : Host.Outcome State Fault Refusal :=
  runNormal (isMem rm) (aluEG .sbb s.osz rm r) s

/-- SBB Gb,Eb (41_binary_arithmetic.md R295). -/
def execSbbGbEb (r : Reg) (rm : Rm) (s : State) : Host.Outcome State Fault Refusal := run (aluGE .sbb .b r rm) s

/-- SBB Gv,Ev (41_binary_arithmetic.md R295). -/
def execSbbGvEv (r : Reg) (rm : Rm) (s : State) : Host.Outcome State Fault Refusal := run (aluGE .sbb s.osz r rm) s

/-- SBB AL,Ib (41_binary_arithmetic.md R295). -/
def execSbbAlIb (imm : BitVec 8) (s : State) : Host.Outcome State Fault Refusal := run (aluTo .sbb .b (.reg .ax) imm) s

/-- SBB eAX,Iv (41_binary_arithmetic.md R295). -/
def execSbbEaxIv (imm : BitVec 32) (s : State) : Host.Outcome State Fault Refusal :=
  run (aluTo .sbb s.osz (.reg .ax) (immV s.osz imm)) s

/-- SUB Eb,Gb (41_binary_arithmetic.md R294). -/
def execSubEbGb (rm : Rm) (r : Reg) (s : State) : Host.Outcome State Fault Refusal :=
  runNormal (isMem rm) (aluEG .sub .b rm r) s

/-- SUB Ev,Gv (41_binary_arithmetic.md R294). -/
def execSubEvGv (rm : Rm) (r : Reg) (s : State) : Host.Outcome State Fault Refusal :=
  runNormal (isMem rm) (aluEG .sub s.osz rm r) s

/-- SUB Gb,Eb (41_binary_arithmetic.md R294). -/
def execSubGbEb (r : Reg) (rm : Rm) (s : State) : Host.Outcome State Fault Refusal := run (aluGE .sub .b r rm) s

/-- SUB Gv,Ev (41_binary_arithmetic.md R294). -/
def execSubGvEv (r : Reg) (rm : Rm) (s : State) : Host.Outcome State Fault Refusal := run (aluGE .sub s.osz r rm) s

/-- SUB AL,Ib (41_binary_arithmetic.md R294). -/
def execSubAlIb (imm : BitVec 8) (s : State) : Host.Outcome State Fault Refusal := run (aluTo .sub .b (.reg .ax) imm) s

/-- SUB eAX,Iv (41_binary_arithmetic.md R294). -/
def execSubEaxIv (imm : BitVec 32) (s : State) : Host.Outcome State Fault Refusal :=
  run (aluTo .sub s.osz (.reg .ax) (immV s.osz imm)) s

/-- CMP Eb,Gb (41_binary_arithmetic.md R297). -/
def execCmpEbGb (rm : Rm) (r : Reg) (s : State) : Host.Outcome State Fault Refusal := run (cmpEG .b rm r) s

/-- CMP Ev,Gv (41_binary_arithmetic.md R297). -/
def execCmpEvGv (rm : Rm) (r : Reg) (s : State) : Host.Outcome State Fault Refusal := run (cmpEG s.osz rm r) s

/-- CMP Gb,Eb (41_binary_arithmetic.md R297). -/
def execCmpGbEb (r : Reg) (rm : Rm) (s : State) : Host.Outcome State Fault Refusal := run (cmpGE .b r rm) s

/-- CMP Gv,Ev (41_binary_arithmetic.md R297). -/
def execCmpGvEv (r : Reg) (rm : Rm) (s : State) : Host.Outcome State Fault Refusal := run (cmpGE s.osz r rm) s

/-- CMP AL,Ib (41_binary_arithmetic.md R297). -/
def execCmpAlIb (imm : BitVec 8) (s : State) : Host.Outcome State Fault Refusal := run (cmpWith .b (.reg .ax) imm) s

/-- CMP eAX,Iv (41_binary_arithmetic.md R297). -/
def execCmpEaxIv (imm : BitVec 32) (s : State) : Host.Outcome State Fault Refusal :=
  run (cmpWith s.osz (.reg .ax) (immV s.osz imm)) s

/-- ADD Eb,Ib (41_binary_arithmetic.md R291). -/
def execAddEbIb (rm : Rm) (imm : BitVec 8) (s : State) : Host.Outcome State Fault Refusal :=
  runNormal (isMem rm) (aluTo .add .b rm imm) s

/-- ADD Ev,Iv (41_binary_arithmetic.md R291). -/
def execAddEvIv (rm : Rm) (imm : BitVec 32) (s : State) : Host.Outcome State Fault Refusal :=
  runNormal (isMem rm) (aluTo .add s.osz rm (immV s.osz imm)) s

/-- ADD Ev,Ib (41_binary_arithmetic.md R291). -/
def execAddEvIb (rm : Rm) (imm : BitVec 8) (s : State) : Host.Outcome State Fault Refusal :=
  runNormal (isMem rm) (aluTo .add s.osz rm (immS s.osz imm)) s

/-- ADC Eb,Ib (41_binary_arithmetic.md R292). -/
def execAdcEbIb (rm : Rm) (imm : BitVec 8) (s : State) : Host.Outcome State Fault Refusal :=
  runNormal (isMem rm) (aluTo .adc .b rm imm) s

/-- ADC Ev,Iv (41_binary_arithmetic.md R292). -/
def execAdcEvIv (rm : Rm) (imm : BitVec 32) (s : State) : Host.Outcome State Fault Refusal :=
  runNormal (isMem rm) (aluTo .adc s.osz rm (immV s.osz imm)) s

/-- ADC Ev,Ib (41_binary_arithmetic.md R292). -/
def execAdcEvIb (rm : Rm) (imm : BitVec 8) (s : State) : Host.Outcome State Fault Refusal :=
  runNormal (isMem rm) (aluTo .adc s.osz rm (immS s.osz imm)) s

/-- SBB Eb,Ib (41_binary_arithmetic.md R295). -/
def execSbbEbIb (rm : Rm) (imm : BitVec 8) (s : State) : Host.Outcome State Fault Refusal :=
  runNormal (isMem rm) (aluTo .sbb .b rm imm) s

/-- SBB Ev,Iv (41_binary_arithmetic.md R295). -/
def execSbbEvIv (rm : Rm) (imm : BitVec 32) (s : State) : Host.Outcome State Fault Refusal :=
  runNormal (isMem rm) (aluTo .sbb s.osz rm (immV s.osz imm)) s

/-- SBB Ev,Ib (41_binary_arithmetic.md R295). -/
def execSbbEvIb (rm : Rm) (imm : BitVec 8) (s : State) : Host.Outcome State Fault Refusal :=
  runNormal (isMem rm) (aluTo .sbb s.osz rm (immS s.osz imm)) s

/-- SUB Eb,Ib (41_binary_arithmetic.md R294). -/
def execSubEbIb (rm : Rm) (imm : BitVec 8) (s : State) : Host.Outcome State Fault Refusal :=
  runNormal (isMem rm) (aluTo .sub .b rm imm) s

/-- SUB Ev,Iv (41_binary_arithmetic.md R294). -/
def execSubEvIv (rm : Rm) (imm : BitVec 32) (s : State) : Host.Outcome State Fault Refusal :=
  runNormal (isMem rm) (aluTo .sub s.osz rm (immV s.osz imm)) s

/-- SUB Ev,Ib (41_binary_arithmetic.md R294). -/
def execSubEvIb (rm : Rm) (imm : BitVec 8) (s : State) : Host.Outcome State Fault Refusal :=
  runNormal (isMem rm) (aluTo .sub s.osz rm (immS s.osz imm)) s

/-- CMP Eb,Ib (41_binary_arithmetic.md R297). -/
def execCmpEbIb (rm : Rm) (imm : BitVec 8) (s : State) : Host.Outcome State Fault Refusal := run (cmpWith .b rm imm) s

/-- CMP Ev,Iv (41_binary_arithmetic.md R297). -/
def execCmpEvIv (rm : Rm) (imm : BitVec 32) (s : State) : Host.Outcome State Fault Refusal :=
  run (cmpWith s.osz rm (immV s.osz imm)) s

/-- CMP Ev,Ib (41_binary_arithmetic.md R297). -/
def execCmpEvIb (rm : Rm) (imm : BitVec 8) (s : State) : Host.Outcome State Fault Refusal :=
  run (cmpWith s.osz rm (immS s.osz imm)) s

/-- INC r16/r32 (41_binary_arithmetic.md R293). -/
def execIncReg (r : Reg) (s : State) : Host.Outcome State Fault Refusal := run (incRm s.osz (.reg r)) s

/-- DEC r16/r32 (41_binary_arithmetic.md R296). -/
def execDecReg (r : Reg) (s : State) : Host.Outcome State Fault Refusal := run (decRm s.osz (.reg r)) s

/-- IMUL Gv,Ev,Iv (41_binary_arithmetic.md R303). -/
def execImulGvEvIv (r : Reg) (rm : Rm) (imm : BitVec 32) (s : State) : Host.Outcome State Fault Refusal :=
  run (imulGEI s.osz r rm (immV s.osz imm)) s

/-- IMUL Gv,Ev,Ib (41_binary_arithmetic.md R303). -/
def execImulGvEvIb (r : Reg) (rm : Rm) (imm : BitVec 8) (s : State) : Host.Outcome State Fault Refusal :=
  run (imulGEI s.osz r rm (immS s.osz imm)) s

/-- NEG Eb (41_binary_arithmetic.md R298). -/
def execNegEb (rm : Rm) (s : State) : Host.Outcome State Fault Refusal := runNormal (isMem rm) (negRm .b rm) s

/-- NEG Ev (41_binary_arithmetic.md R298). -/
def execNegEv (rm : Rm) (s : State) : Host.Outcome State Fault Refusal := runNormal (isMem rm) (negRm s.osz rm) s

/-- MUL Eb (41_binary_arithmetic.md R300). -/
def execMulEb (rm : Rm) (s : State) : Host.Outcome State Fault Refusal := run (mulRm .b rm) s

/-- MUL Ev (41_binary_arithmetic.md R300). -/
def execMulEv (rm : Rm) (s : State) : Host.Outcome State Fault Refusal := run (mulRm s.osz rm) s

/-- IMUL Eb (41_binary_arithmetic.md R301). -/
def execImulEb (rm : Rm) (s : State) : Host.Outcome State Fault Refusal := run (imulRm .b rm) s

/-- IMUL Ev (41_binary_arithmetic.md R301). -/
def execImulEv (rm : Rm) (s : State) : Host.Outcome State Fault Refusal := run (imulRm s.osz rm) s

/-- DIV Eb (41_binary_arithmetic.md R304). -/
def execDivEb (rm : Rm) (s : State) : Host.Outcome State Fault Refusal := run (divRm .b rm) s

/-- DIV Ev (41_binary_arithmetic.md R304). -/
def execDivEv (rm : Rm) (s : State) : Host.Outcome State Fault Refusal := run (divRm s.osz rm) s

/-- IDIV Eb (41_binary_arithmetic.md R305). -/
def execIdivEb (rm : Rm) (s : State) : Host.Outcome State Fault Refusal := run (idivRm .b rm) s

/-- IDIV Ev (41_binary_arithmetic.md R305). -/
def execIdivEv (rm : Rm) (s : State) : Host.Outcome State Fault Refusal := run (idivRm s.osz rm) s

/-- INC Eb (41_binary_arithmetic.md R293). -/
def execIncEb (rm : Rm) (s : State) : Host.Outcome State Fault Refusal := runNormal (isMem rm) (incRm .b rm) s

/-- DEC Eb (41_binary_arithmetic.md R296). -/
def execDecEb (rm : Rm) (s : State) : Host.Outcome State Fault Refusal := runNormal (isMem rm) (decRm .b rm) s

/-- INC Ev (41_binary_arithmetic.md R293). -/
def execIncEv (rm : Rm) (s : State) : Host.Outcome State Fault Refusal := runNormal (isMem rm) (incRm s.osz rm) s

/-- DEC Ev (41_binary_arithmetic.md R296). -/
def execDecEv (rm : Rm) (s : State) : Host.Outcome State Fault Refusal := runNormal (isMem rm) (decRm s.osz rm) s

/-- IMUL Gv,Ev (41_binary_arithmetic.md R302). -/
def execImulGvEv (r : Reg) (rm : Rm) (s : State) : Host.Outcome State Fault Refusal := run (imulGE s.osz r rm) s

end Sys2Proof.Machine
end

