-- ==== Sys2Proof/Machine/Shift.lean ====
section
/-! DEFINITION. Shared operations of bit test, bit scan, shift, rotate and SETcc (43_logical_shift_bit.md R336 to R354). -/
namespace Sys2Proof.Machine

/-! ## Bit test and modify -/

/-- What a bit instruction does to the selected bit (R336, Table 3-1). -/
inductive BitOp where
  | test
  | set
  | reset
  | complement
deriving DecidableEq, Repr

/-- A value with its bit `n` replaced according to the operation (R337 to R340). -/
def BitOp.apply (op : BitOp) {w : Nat} (v : BitVec w) (n : Nat) : BitVec w :=
  let m := BitVec.twoPow w n
  match op with
  | .test => v
  | .set => v ||| m
  | .reset => v &&& ~~~ m
  | .complement => v ^^^ m

/-- CF is the selected bit; the other status flags are undefined (R336). -/
def putBitFlags (v : Bool) : M Unit := do
  let pf ← drawBool
  let af ← drawBool
  let zf ← drawBool
  let sf ← drawBool
  let of ← drawBool
  putStatus { CF := v, PF := pf, AF := af, ZF := zf, SF := sf, OF := of }

/-- Operate on bit `n` of a located unit. -/
def bitAt (op : BitOp) (sz : Size) (p : Place) (n : Nat) : M Unit := do
  let v ← readPlace sz p
  putBitFlags (v.getLsbD n)
  if op = .test then pure () else writePlace sz p (op.apply v n)

/-- Bit offset in an immediate byte, modulo the width (R336). -/
def bitImm (op : BitOp) (sz : Size) (rm : Rm) (imm : BitVec 8) : M Unit := do
  let p ← place sz rm (op != .test)
  bitAt op sz p (imm.toNat % sz.bits)

/-- Effective address of the unit that holds a bit `off` bits from an operand: address arithmetic in the operand's
address size (R336). -/
def bitUnit (g : Gpr) (sz : Size) (m : Mem) (off : Int) : BitVec 32 :=
  let ea := memEa g m + BitVec.ofInt 32 (sz.bytes * (off / sz.bits))
  match m with
  | .a32 .. => ea
  | .a16 .. => wrapOff false ea

/-- Bit offset in a register: signed, and with a memory operand it reaches a whole bit string (R336). -/
def bitReg (op : BitOp) (sz : Size) (rm : Rm) (r : Reg) : M Unit := do
  let s ← getS
  let off := (s.reg sz r).toInt
  match rm with
  | .reg e => bitAt op sz (.reg e) (off % sz.bits).toNat
  | .mem m => do
    let l ← locate (s.memSeg m) (bitUnit s.gpr sz m off) sz.bytes (op != .test)
    bitAt op sz (.mem l) (off % sz.bits).toNat

/-! ## Bit scan -/

/-- Index of the least set bit, searching upward through `fuel` positions from `n`. -/
def lowestFrom {w : Nat} (v : BitVec w) : Nat → Nat → Nat
  | 0, n => n
  | fuel + 1, n => if v.getLsbD n then n else lowestFrom v fuel (n + 1)

/-- Index of the greatest set bit below `n`. -/
def highestBelow {w : Nat} (v : BitVec w) : Nat → Nat
  | 0 => 0
  | n + 1 => if v.getLsbD n then n else highestBelow v n

/-- ZF is defined, the other status flags are not (R341). -/
def putScanFlags (zf : Bool) : M Unit := do
  let cf ← drawBool
  let pf ← drawBool
  let af ← drawBool
  let sf ← drawBool
  let of ← drawBool
  putStatus { CF := cf, PF := pf, AF := af, ZF := zf, SF := sf, OF := of }

/-- BSF and BSR: a zero source leaves the destination undefined (R341, R342). -/
def bitScan (index : {w : Nat} → BitVec w → Nat) (sz : Size) (r : Reg) (rm : Rm) : M Unit := do
  let v ← readRm sz rm
  if v = 0#sz.bits then do
    let u ← draw sz.bits
    putReg sz r u
    putScanFlags true
  else do
    putReg sz r (BitVec.ofNat sz.bits (index v))
    putScanFlags false

/-- BSF's index (R341). -/
def bsfIndex {w : Nat} (v : BitVec w) : Nat := lowestFrom v w 0
/-- BSR's index (R342). -/
def bsrIndex {w : Nat} (v : BitVec w) : Nat := highestBelow v w

/-! ## Shifts and rotates -/

/-- The seven operations of group 2 (R343). -/
inductive ShiftOp where
  | rol | ror | rcl | rcr | shl | shr | sar
deriving DecidableEq, Repr

/-- One single-bit step: the new value and the new CF (R344 to R346, R350 to R353). -/
def ShiftOp.step (op : ShiftOp) {w : Nat} (v : BitVec w) (cf : Bool) : BitVec w × Bool :=
  let low (b : Bool) : BitVec w := if b then 1#w else 0#w
  let high (b : Bool) : BitVec w := if b then BitVec.twoPow w (w - 1) else 0#w
  match op with
  | .rol => (v <<< 1 ||| low v.msb, v.msb)
  | .ror => (v >>> 1 ||| high (v.getLsbD 0), v.getLsbD 0)
  | .rcl => (v <<< 1 ||| low cf, v.msb)
  | .rcr => (v >>> 1 ||| high cf, v.getLsbD 0)
  | .shl => (v <<< 1, v.msb)
  | .shr => (v >>> 1, v.getLsbD 0)
  | .sar => (v >>> 1 ||| high v.msb, v.getLsbD 0)

/-- `c` single-bit steps. -/
def ShiftOp.steps (op : ShiftOp) {w : Nat} : Nat → BitVec w → Bool → BitVec w × Bool
  | 0, v, cf => (v, cf)
  | n + 1, v, cf => op.steps n (op.step v cf).1 (op.step v cf).2

/-- The operation also writes SF, ZF, PF and AF: shifts do, rotates do not (R343, R349). -/
def ShiftOp.isShift : ShiftOp → Bool
  | .shl => true | .shr => true | .sar => true
  | .rol => false | .ror => false | .rcl => false | .rcr => false

/-- The flags after a count that is not zero; OF is defined for a count of one: the sign bit changed (R344, R349). -/
def putShiftFlags (op : ShiftOp) {w : Nat} (c : Nat) (before : BitVec w) (after : BitVec w × Bool) : M Unit := do
  let of ← if c = 1 then pure (before.msb != after.1.msb) else drawBool
  if op.isShift then do
    let af ← drawBool
    putStatus { CF := after.2, PF := parityOf after.1, AF := af, ZF := zeroOf after.1, SF := signOf after.1, OF := of }
  else modFlags fun f => { f with CF := after.2, OF := of }

/-- Shift or rotate by a count masked to five bits; a count of zero does nothing (R343, D37). -/
def shiftBy (op : ShiftOp) (sz : Size) (rm : Rm) (count : BitVec 8) : M Unit := do
  let c := count.toNat % 32
  if c = 0 then pure ()
  else modifyRm sz rm fun v => do
    let s ← getS
    let r := op.steps c v s.flags.CF
    putShiftFlags op c v r
    pure r.1

/-- Shift or rotate by CL (R343). -/
def shiftCl (op : ShiftOp) (sz : Size) (rm : Rm) : M Unit := do
  let c ← getReg .b .cx
  shiftBy op sz rm c

/-! ## Double shifts -/

/-- Result and CF of SHLD for a count of 1 to `w` (R347). -/
def shldResult {w : Nat} (d s : BitVec w) (c : Nat) : BitVec w × Bool :=
  (d <<< c ||| s >>> (w - c), d.getLsbD (w - c))

/-- Result and CF of SHRD for a count of 1 to `w` (R348). -/
def shrdResult {w : Nat} (d s : BitVec w) (c : Nat) : BitVec w × Bool :=
  (d >>> c ||| s <<< (w - c), d.getLsbD (c - 1))

/-- SHLD and SHRD: a count of zero does nothing, one above the width leaves everything undefined (R347). -/
def doubleShift (f : {w : Nat} → BitVec w → BitVec w → Nat → BitVec w × Bool) (sz : Size) (rm : Rm) (r : Reg)
    (count : BitVec 8) : M Unit := do
  let c := count.toNat % 32
  if c = 0 then pure ()
  else do
    let s ← getReg sz r
    modifyRm sz rm fun d =>
      if sz.bits < c then do
        let u ← draw sz.bits
        undefStatus
        pure u
      else do
        let v := f d s c
        let af ← drawBool
        let of ← drawBool
        putStatus { CF := v.2, PF := parityOf v.1, AF := af, ZF := zeroOf v.1, SF := signOf v.1, OF := of }
        pure v.1

/-- A double shift by CL. -/
def doubleShiftCl (f : {w : Nat} → BitVec w → BitVec w → Nat → BitVec w × Bool) (sz : Size) (rm : Rm) (r : Reg) : M Unit := do
  let c ← getReg .b .cx
  doubleShift f sz rm r c

/-! ## SETcc -/

/-- SETcc (R354). -/
def setByte (cc : Cond) (rm : Rm) : M Unit := do
  let s ← getS
  writeRm .b rm (if condHolds cc s.flags then 1#8 else 0#8)

end Sys2Proof.Machine
end

