-- ==== Sys2Proof/Machine/BitInstrs.lean ====
section
/-! DEFINITION. The meanings of bit test, bit scan and SETcc (43_logical_shift_bit.md): one definition per constructor, over the shared operations. -/
namespace Sys2Proof.Machine

/-- SETcc Eb (43_logical_shift_bit.md R354). -/
def execSetccEb (cc : Cond) (rm : Rm) (s : State) : Host.Outcome State Fault Refusal := run (setByte cc rm) s

/-- BT Ev,Gv (43_logical_shift_bit.md R337). -/
def execBtEvGv (rm : Rm) (r : Reg) (s : State) : Host.Outcome State Fault Refusal := run (bitReg .test s.osz rm r) s

/-- BTS Ev,Gv (43_logical_shift_bit.md R338). -/
def execBtsEvGv (rm : Rm) (r : Reg) (s : State) : Host.Outcome State Fault Refusal :=
  runNormal (isMem rm) (bitReg .set s.osz rm r) s

/-- BTR Ev,Gv (43_logical_shift_bit.md R339). -/
def execBtrEvGv (rm : Rm) (r : Reg) (s : State) : Host.Outcome State Fault Refusal :=
  runNormal (isMem rm) (bitReg .reset s.osz rm r) s

/-- BT Ev,Ib (43_logical_shift_bit.md R337). -/
def execBtEvIb (rm : Rm) (imm : BitVec 8) (s : State) : Host.Outcome State Fault Refusal :=
  run (bitImm .test s.osz rm imm) s

/-- BTS Ev,Ib (43_logical_shift_bit.md R338). -/
def execBtsEvIb (rm : Rm) (imm : BitVec 8) (s : State) : Host.Outcome State Fault Refusal :=
  runNormal (isMem rm) (bitImm .set s.osz rm imm) s

/-- BTR Ev,Ib (43_logical_shift_bit.md R339). -/
def execBtrEvIb (rm : Rm) (imm : BitVec 8) (s : State) : Host.Outcome State Fault Refusal :=
  runNormal (isMem rm) (bitImm .reset s.osz rm imm) s

/-- BTC Ev,Ib (43_logical_shift_bit.md R340). -/
def execBtcEvIb (rm : Rm) (imm : BitVec 8) (s : State) : Host.Outcome State Fault Refusal :=
  runNormal (isMem rm) (bitImm .complement s.osz rm imm) s

/-- BTC Ev,Gv (43_logical_shift_bit.md R340). -/
def execBtcEvGv (rm : Rm) (r : Reg) (s : State) : Host.Outcome State Fault Refusal :=
  runNormal (isMem rm) (bitReg .complement s.osz rm r) s

/-- BSF Gv,Ev (43_logical_shift_bit.md R341). -/
def execBsfGvEv (r : Reg) (rm : Rm) (s : State) : Host.Outcome State Fault Refusal :=
  run (bitScan bsfIndex s.osz r rm) s

/-- BSR Gv,Ev (43_logical_shift_bit.md R342). -/
def execBsrGvEv (r : Reg) (rm : Rm) (s : State) : Host.Outcome State Fault Refusal :=
  run (bitScan bsrIndex s.osz r rm) s

end Sys2Proof.Machine
end

