-- ==== Sys2Proof/Machine/Control.lean ====
section
/-! DEFINITION. Shared operations of near control transfer, loops and software interrupts
(44_control_transfer.md R370 to R388). -/
namespace Sys2Proof.Machine

/-- The checked target of a near transfer: masked to 16 bits by a 16-bit operand size, inside the CS limit (R370). -/
def nearTarget (t : BitVec 32) : M (BitVec 32) := do
  let s ← getS
  require (decide ((wrapOff s.attrs.o32 t).toNat ≤ s.seg.cs.limit.toNat)) vGP (zeroCode false)
  pure (wrapOff s.attrs.o32 t)

/-- `NearTransfer` (R370). -/
def nearTransfer (t : BitVec 32) : M Unit := do
  let t ← nearTarget t
  modS fun s => s.jump t

/-- Target of a byte displacement (R371). -/
def State.rel8 (s : State) (imm : BitVec 8) : BitVec 32 := s.eipNext + imm.signExtend 32

/-- Target of a displacement of the operand size (R371). -/
def State.relV (s : State) (imm : BitVec 32) : BitVec 32 := s.eipNext + (imm.setWidth s.osz.bits).signExtend 32

/-- JMP to a byte displacement (R371). -/
def jmpRel8 (imm : BitVec 8) : M Unit := do
  let s ← getS
  nearTransfer (s.rel8 imm)

/-- JMP to a displacement of the operand size (R371). -/
def jmpRelV (imm : BitVec 32) : M Unit := do
  let s ← getS
  nearTransfer (s.relV imm)

/-- JMP through an `E` operand (R371). -/
def jmpRm (sz : Size) (rm : Rm) : M Unit := do
  let v ← readRm sz rm
  nearTransfer (v.setWidth 32)

/-- CALL: the target is checked, the return address is pushed, control goes there (R372). -/
def callTo (t : BitVec 32) : M Unit := do
  let t ← nearTarget t
  let s ← getS
  push s.osz (s.eipNext.setWidth s.osz.bits)
  modS fun s => s.jump t

/-- CALL to a displacement (R372). -/
def callRel (imm : BitVec 32) : M Unit := do
  let s ← getS
  callTo (s.relV imm)

/-- CALL through an `E` operand (R372). -/
def callRm (sz : Size) (rm : Rm) : M Unit := do
  let v ← readRm sz rm
  callTo (v.setWidth 32)

/-- RET, releasing `n` more bytes (R373). -/
def retNear (sz : Size) (n : Nat) : M Unit := do
  let v ← peek 0 sz
  let t ← nearTarget (v.setWidth 32)
  modS fun s => (s.setStackPtr (s.above (sz.bytes + n))).jump t

/-- A jump taken if a condition holds (R374). -/
def jumpIf (c : Bool) (t : BitVec 32) : M Unit := if c then nearTransfer t else pure ()

/-- Jcc with a byte displacement (R374). -/
def jccRel8 (cc : Cond) (imm : BitVec 8) : M Unit := do
  let s ← getS
  jumpIf (condHolds cc s.flags) (s.rel8 imm)

/-- Jcc with a displacement of the operand size (R374). -/
def jccRelV (cc : Cond) (imm : BitVec 32) : M Unit := do
  let s ← getS
  jumpIf (condHolds cc s.flags) (s.relV imm)

/-- LOOP, LOOPE, LOOPNE: `go` is the condition on ZF; the count changes only after the target is checked (R380 to R383,
D38). -/
def loopWith (go : Eflags → Bool) (imm : BitVec 8) : M Unit := do
  let s ← getS
  let n := s.reg s.asz .cx - 1#s.asz.bits
  if n != 0#s.asz.bits && go s.flags then do
    let t ← nearTarget (s.rel8 imm)
    putReg s.asz .cx n
    modS fun s => s.jump t
  else putReg s.asz .cx n

/-- JCXZ and JECXZ (R384). -/
def jumpCountZero (imm : BitVec 8) : M Unit := do
  let s ← getS
  jumpIf (s.reg s.asz .cx == 0#s.asz.bits) (s.rel8 imm)

/-- A software interrupt: delivery with EIP past the instruction (R385; 60_exceptions.md R600). -/
def softInt (v : BitVec 8) : M Unit := do
  let s ← getS
  deliverOnce ⟨v, .software, .none, s.eipNext, false⟩

/-- INTO (R387). -/
def intOverflow : M Done := do
  let s ← getS
  if s.flags.OF then do
    softInt vOF
    pure .keepRF
  else pure .normal

/-- BOUND: the two limits are one read of twice the operand size (R388). -/
def boundCheck (sz : Size) (r : Reg) (rm : Rm) : M Unit := do
  let m ← onlyMem rm
  let s ← getS
  let l ← locate (s.memSeg m) (memEa s.gpr m) (2 * sz.bytes) false
  let lo ← loadLoc sz.bits (l.take sz.bytes)
  let hi ← loadLoc sz.bits (l.drop sz.bytes)
  let x ← getReg sz r
  require (decide (lo.toInt ≤ x.toInt) && decide (x.toInt ≤ hi.toInt)) vBR .none

end Sys2Proof.Machine
end

