-- ==== Sys2Proof/Machine/ControlInstrs.lean ====
section
/-! DEFINITION. The meanings of near control transfer and software interrupts (44_control_transfer.md): one definition per constructor, over the shared operations. -/
namespace Sys2Proof.Machine

/-- BOUND Gv,Ma (44_control_transfer.md R388). -/
def execBoundGvMa (r : Reg) (rm : Rm) (s : State) : Host.Outcome State Fault Refusal := run (boundCheck s.osz r rm) s

/-- Jcc Jb (44_control_transfer.md R374). -/
def execJccJb (cc : Cond) (imm : BitVec 8) (s : State) : Host.Outcome State Fault Refusal := run (jccRel8 cc imm) s

/-- RET Iw (near) (44_control_transfer.md R373). -/
def execRetNearIw (imm : BitVec 16) (s : State) : Host.Outcome State Fault Refusal := run (retNear s.osz imm.toNat) s

/-- INT Ib (44_control_transfer.md R385). -/
def execIntIb (imm : BitVec 8) (s : State) : Host.Outcome State Fault Refusal :=
  runInstr false (do softInt imm; pure .keepRF) s

/-- LOOPNE_LOOPNZ Jb (44_control_transfer.md R383). -/
def execLoopne (imm : BitVec 8) (s : State) : Host.Outcome State Fault Refusal := run (loopWith (fun f => !f.ZF) imm) s

/-- LOOPE_LOOPZ Jb (44_control_transfer.md R382). -/
def execLoope (imm : BitVec 8) (s : State) : Host.Outcome State Fault Refusal := run (loopWith (fun f => f.ZF) imm) s

/-- LOOP Jb (44_control_transfer.md R381). -/
def execLoop (imm : BitVec 8) (s : State) : Host.Outcome State Fault Refusal := run (loopWith (fun _ => true) imm) s

/-- JCXZ_JECXZ Jb (44_control_transfer.md R384). -/
def execJcxz (imm : BitVec 8) (s : State) : Host.Outcome State Fault Refusal := run (jumpCountZero imm) s

/-- CALL Jv (near relative) (44_control_transfer.md R372). -/
def execCallJv (imm : BitVec 32) (s : State) : Host.Outcome State Fault Refusal := run (callRel imm) s

/-- JMP Jv (near relative) (44_control_transfer.md R371). -/
def execJmpJv (imm : BitVec 32) (s : State) : Host.Outcome State Fault Refusal := run (jmpRelV imm) s

/-- JMP Jb (short) (44_control_transfer.md R371). -/
def execJmpJb (imm : BitVec 8) (s : State) : Host.Outcome State Fault Refusal := run (jmpRel8 imm) s

/-- CALL Ev (near indirect) (44_control_transfer.md R372). -/
def execCallNearEv (rm : Rm) (s : State) : Host.Outcome State Fault Refusal := run (callRm s.osz rm) s

/-- JMP Ev (near indirect) (44_control_transfer.md R371). -/
def execJmpNearEv (rm : Rm) (s : State) : Host.Outcome State Fault Refusal := run (jmpRm s.osz rm) s

/-- Jcc Jv (44_control_transfer.md R374). -/
def execJccJv (cc : Cond) (imm : BitVec 32) (s : State) : Host.Outcome State Fault Refusal := run (jccRelV cc imm) s

/-- RET (near) (44_control_transfer.md R373). -/
def execRetNear (s : State) : Host.Outcome State Fault Refusal := run (retNear s.osz 0) s

/-- INT_3  (44_control_transfer.md R386). -/
def execInt3 (s : State) : Host.Outcome State Fault Refusal := runInstr false (do softInt vBP; pure .keepRF) s

/-- INTO  (44_control_transfer.md R387). -/
def execInto (s : State) : Host.Outcome State Fault Refusal := runInstr false (intOverflow) s

end Sys2Proof.Machine
end

