-- ==== Sys2Proof/Machine/Data.lean ====
section
/-! DEFINITION. Shared operations of data movement (40_data_movement.md R260 to R275). -/
namespace Sys2Proof.Machine

/-- MOV to an `E` operand from a register (R261). -/
def movEG (sz : Size) (rm : Rm) (r : Reg) : M Unit := do
  let v ← getReg sz r
  writeRm sz rm v

/-- MOV to a register from an `E` operand (R261). -/
def movGE (sz : Size) (r : Reg) (rm : Rm) : M Unit := do
  let v ← readRm sz rm
  putReg sz r v

/-- MOV of the accumulator from a direct offset (R261; 30_encoding.md R219). -/
def movAccO (sz : Size) (off : BitVec 32) : M Unit := do
  let s ← getS
  let v ← lread (s.segFor .ds) off sz
  putReg sz .ax v

/-- MOV of a direct offset from the accumulator (R261). -/
def movOAcc (sz : Size) (off : BitVec 32) : M Unit := do
  let s ← getS
  lwrite (s.segFor .ds) off sz (s.reg sz .ax)

/-- XCHG with memory asserts LOCK# without a prefix too (20_memory.md R151). -/
def State.exchanging (s : State) : Place → State
  | .reg _ => s
  | .mem l => if s.pfx.lock then s else s.asserting .exchange l

/-- XCHG (R262). -/
def xchg (sz : Size) (rm : Rm) (r : Reg) : M Unit := do
  let p ← place sz rm true
  let a ← readPlace sz p
  let b ← getReg sz r
  modS fun s => s.exchanging p
  writePlace sz p b
  putReg sz r a

/-- PUSH of a register: the value is read before the stack pointer moves (R263). -/
def pushReg (sz : Size) (r : Reg) : M Unit := do
  let v ← getReg sz r
  push sz v

/-- PUSH of an `E` operand (R263). -/
def pushRm (sz : Size) (rm : Rm) : M Unit := do
  let v ← readRm sz rm
  push sz v

/-- POP into a register (R264). -/
def popReg (sz : Size) (r : Reg) : M Unit := do
  let v ← pop sz
  putReg sz r v

/-- POP into an `E` operand: the stack pointer has moved when the address is computed (R264). -/
def popRm (sz : Size) (rm : Rm) : M Unit := do
  let v ← pop sz
  writeRm sz rm v

/-- Locate `n` stack items of one size below an offset, highest first, every check made (R265, D21). -/
def locateBelow (sz : Size) (is32 : Bool) : BitVec 32 → Nat → M (List Loc)
  | _, 0 => pure []
  | top, n + 1 => do
    let off := wrapOff is32 (top - BitVec.ofNat 32 sz.bytes)
    let l ← locate .ss off sz.bytes true
    let rest ← locateBelow sz is32 off n
    pure (l :: rest)

/-- Store values at located places, in order. -/
def storeAll {w : Nat} : List Loc → List (BitVec w) → M Unit
  | l :: ls, v :: vs => do
    storeLoc l v
    storeAll ls vs
  | _, _ => pure ()

/-- The real-address-mode cases of PUSHA and PUSHAD that are no ordinary stack fault: shutdown when SP is 1, 3 or 5, and
interrupt 13 for PUSHA when SP is 7, 9, 11, 13 or 15 (R265; 70_reset_and_hazards.md R707; log entry 20). -/
def pushaRealCheck (sz : Size) : M Unit := do
  let s ← getS
  let sp := s.stackPtr.toNat
  if s.protectedMode then pure ()
  else if sp == 1 || sp == 3 || sp == 5 then halt .shutdown
  else require (!(sz == .w && (sp == 7 || sp == 9 || sp == 11 || sp == 13 || sp == 15))) vGP (zeroCode false)

/-- PUSHA and PUSHAD: the frame below the stack pointer is checked as one block (R265; 21_protection.md R172). -/
def pushAllRegs (sz : Size) : M Unit := do
  pushaRealCheck sz
  let s ← getS
  require (s.room (8 * sz.bytes)) vSS (zeroCode false)
  let ls ← locateBelow sz s.ssz32 s.stackPtr 8
  storeAll ls [s.reg sz .ax, s.reg sz .cx, s.reg sz .dx, s.reg sz .bx, s.reg sz .sp, s.reg sz .bp, s.reg sz .si, s.reg sz .di]
  modS fun s => s.setStackPtr (s.below (8 * sz.bytes))

/-- POPA and POPAD: the frame from the stack pointer up is checked as one block, and every item is read before any register
changes (R266; 21_protection.md R172; log entry 18). -/
def popAllRegs (sz : Size) : M Unit := do
  let s ← getS
  require (s.stackHas (8 * sz.bytes)) vSS (zeroCode false)
  let di ← peek 0 sz
  let si ← peek sz.bytes sz
  let bp ← peek (2 * sz.bytes) sz
  let _ ← peek (3 * sz.bytes) sz
  let bx ← peek (4 * sz.bytes) sz
  let dx ← peek (5 * sz.bytes) sz
  let cx ← peek (6 * sz.bytes) sz
  let ax ← peek (7 * sz.bytes) sz
  putReg sz .di di
  putReg sz .si si
  putReg sz .bp bp
  putReg sz .bx bx
  putReg sz .dx dx
  putReg sz .cx cx
  putReg sz .ax ax
  modS fun s => s.setStackPtr (s.above (8 * sz.bytes))

/-- CBW and CWDE (R273). -/
def signExtendAcc (o32 : Bool) : M Unit := do
  let s ← getS
  if o32 then putReg .d .ax ((s.reg .w .ax).signExtend 32) else putReg .w .ax ((s.reg .b .ax).signExtend 16)

/-- CWD and CDQ (R271). -/
def signSpread (sz : Size) : M Unit := do
  let s ← getS
  putReg sz .dx (if (s.reg sz .ax).msb then BitVec.allOnes sz.bits else 0#sz.bits)

/-- MOVSX: a source of `src` width sign-extended into a register (R274). -/
def movSx (src sz : Size) (r : Reg) (rm : Rm) : M Unit := do
  let v ← readRm src rm
  putReg sz r (v.signExtend sz.bits)

/-- MOVZX (R275). -/
def movZx (src sz : Size) (r : Reg) (rm : Rm) : M Unit := do
  let v ← readRm src rm
  putReg sz r (v.setWidth sz.bits)

end Sys2Proof.Machine
end

