-- ==== Sys2Proof/Machine/DataInstrs.lean ====
section
/-! DEFINITION. The meanings of data movement (40_data_movement.md): one definition per constructor, over the shared operations. -/
namespace Sys2Proof.Machine

/-- PUSH r16/r32 (40_data_movement.md R263). -/
def execPushReg (r : Reg) (s : State) : Host.Outcome State Fault Refusal := run (pushReg s.osz r) s

/-- POP r16/r32 (40_data_movement.md R264). -/
def execPopReg (r : Reg) (s : State) : Host.Outcome State Fault Refusal := run (popReg s.osz r) s

/-- PUSH Iv (40_data_movement.md R263). -/
def execPushIv (imm : BitVec 32) (s : State) : Host.Outcome State Fault Refusal := run (push s.osz (immV s.osz imm)) s

/-- PUSH Ib (40_data_movement.md R263). -/
def execPushIb (imm : BitVec 8) (s : State) : Host.Outcome State Fault Refusal := run (push s.osz (immS s.osz imm)) s

/-- XCHG Eb,Gb (40_data_movement.md R262). -/
def execXchgEbGb (rm : Rm) (r : Reg) (s : State) : Host.Outcome State Fault Refusal :=
  runNormal (isMem rm) (xchg .b rm r) s

/-- XCHG Ev,Gv (40_data_movement.md R262). -/
def execXchgEvGv (rm : Rm) (r : Reg) (s : State) : Host.Outcome State Fault Refusal :=
  runNormal (isMem rm) (xchg s.osz rm r) s

/-- MOV Eb,Gb (40_data_movement.md R261). -/
def execMovEbGb (rm : Rm) (r : Reg) (s : State) : Host.Outcome State Fault Refusal := run (movEG .b rm r) s

/-- MOV Ev,Gv (40_data_movement.md R261). -/
def execMovEvGv (rm : Rm) (r : Reg) (s : State) : Host.Outcome State Fault Refusal := run (movEG s.osz rm r) s

/-- MOV Gb,Eb (40_data_movement.md R261). -/
def execMovGbEb (r : Reg) (rm : Rm) (s : State) : Host.Outcome State Fault Refusal := run (movGE .b r rm) s

/-- MOV Gv,Ev (40_data_movement.md R261). -/
def execMovGvEv (r : Reg) (rm : Rm) (s : State) : Host.Outcome State Fault Refusal := run (movGE s.osz r rm) s

/-- POP Ev (40_data_movement.md R264). -/
def execPopEv (rm : Rm) (s : State) : Host.Outcome State Fault Refusal := run (popRm s.osz rm) s

/-- XCHG eAX,r16/r32 (40_data_movement.md R262). -/
def execXchgEaxReg (r : Reg) (s : State) : Host.Outcome State Fault Refusal := run (xchg s.osz (.reg .ax) r) s

/-- MOV AL,Ob (40_data_movement.md R261). -/
def execMovAlOb (off : BitVec 32) (s : State) : Host.Outcome State Fault Refusal := run (movAccO .b off) s

/-- MOV eAX,Ov (40_data_movement.md R261). -/
def execMovEaxOv (off : BitVec 32) (s : State) : Host.Outcome State Fault Refusal := run (movAccO s.osz off) s

/-- MOV Ob,AL (40_data_movement.md R261). -/
def execMovObAl (off : BitVec 32) (s : State) : Host.Outcome State Fault Refusal := run (movOAcc .b off) s

/-- MOV Ov,eAX (40_data_movement.md R261). -/
def execMovOvEax (off : BitVec 32) (s : State) : Host.Outcome State Fault Refusal := run (movOAcc s.osz off) s

/-- MOV r8,Ib (40_data_movement.md R261). -/
def execMovR8Ib (r : Reg) (imm : BitVec 8) (s : State) : Host.Outcome State Fault Refusal := run (putReg .b r imm) s

/-- MOV r16/r32,Iv (40_data_movement.md R261). -/
def execMovRegIv (r : Reg) (imm : BitVec 32) (s : State) : Host.Outcome State Fault Refusal :=
  run (putReg s.osz r (immV s.osz imm)) s

/-- MOV Eb,Ib (40_data_movement.md R261). -/
def execMovEbIb (rm : Rm) (imm : BitVec 8) (s : State) : Host.Outcome State Fault Refusal := run (writeRm .b rm imm) s

/-- MOV Ev,Iv (40_data_movement.md R261). -/
def execMovEvIv (rm : Rm) (imm : BitVec 32) (s : State) : Host.Outcome State Fault Refusal :=
  run (writeRm s.osz rm (immV s.osz imm)) s

/-- PUSH Ev (40_data_movement.md R263). -/
def execPushEv (rm : Rm) (s : State) : Host.Outcome State Fault Refusal := run (pushRm s.osz rm) s

/-- MOVZX Gv,Eb (40_data_movement.md R275). -/
def execMovzxGvEb (r : Reg) (rm : Rm) (s : State) : Host.Outcome State Fault Refusal := run (movZx .b s.osz r rm) s

/-- MOVZX Gd,Ew (40_data_movement.md R275). -/
def execMovzxGdEw (r : Reg) (rm : Rm) (s : State) : Host.Outcome State Fault Refusal := run (movZx .w s.osz r rm) s

/-- MOVSX Gv,Eb (40_data_movement.md R274). -/
def execMovsxGvEb (r : Reg) (rm : Rm) (s : State) : Host.Outcome State Fault Refusal := run (movSx .b s.osz r rm) s

/-- MOVSX Gd,Ew (40_data_movement.md R274). -/
def execMovsxGdEw (r : Reg) (rm : Rm) (s : State) : Host.Outcome State Fault Refusal := run (movSx .w s.osz r rm) s

/-- PUSHA_PUSHAD  (40_data_movement.md R265). -/
def execPusha (s : State) : Host.Outcome State Fault Refusal := run (pushAllRegs s.osz) s

/-- POPA_POPAD  (40_data_movement.md R266). -/
def execPopa (s : State) : Host.Outcome State Fault Refusal := run (popAllRegs s.osz) s

/-- CBW_CWDE  (40_data_movement.md R273). -/
def execCbwCwde (s : State) : Host.Outcome State Fault Refusal := run (signExtendAcc s.attrs.o32) s

/-- CWD_CDQ  (40_data_movement.md R271). -/
def execCwdCdq (s : State) : Host.Outcome State Fault Refusal := run (signSpread s.osz) s

end Sys2Proof.Machine
end

