-- ==== Sys2Proof/Machine/Decimal.lean ====
section
/-! DEFINITION. Shared operations of decimal arithmetic (42_decimal_arithmetic.md R320 to R327). -/
namespace Sys2Proof.Machine

/-- The low half-byte of AL needs adjusting. -/
def adjustLow (al : BitVec 8) (af : Bool) : Bool := decide (9 < al.toNat % 16) || af

/-- DAA: the new AL and the new AF and CF (R322). -/
def daaResult (al : BitVec 8) (af cf : Bool) : BitVec 8 × Bool × Bool :=
  let lo := adjustLow al af
  let hi := decide (0x99 < al.toNat) || cf
  let a := if lo then al + 6#8 else al
  (if hi then a + 0x60#8 else a, lo, hi)

/-- DAS: the new AL and the new AF and CF (R323). -/
def dasResult (al : BitVec 8) (af cf : Bool) : BitVec 8 × Bool × Bool :=
  let lo := adjustLow al af
  let hi := decide (0x99 < al.toNat) || cf
  let a := if lo then al - 6#8 else al
  (if hi then a - 0x60#8 else a, lo, hi || (lo && (cf || decide (al.toNat < 6))))

/-- Write AL and the flags of DAA or DAS, OF drawn. -/
def putPacked (r : BitVec 8 × Bool × Bool) : M Unit := do
  let of ← drawBool
  putReg .b .ax r.1
  putStatus { CF := r.2.2, PF := parityOf r.1, AF := r.2.1, ZF := zeroOf r.1, SF := signOf r.1, OF := of }

/-- DAA (R322). -/
def decAdjAdd : M Unit := do
  let s ← getS
  putPacked (daaResult (s.reg .b .ax) s.flags.AF s.flags.CF)

/-- DAS (R323). -/
def decAdjSub : M Unit := do
  let s ← getS
  putPacked (dasResult (s.reg .b .ax) s.flags.AF s.flags.CF)

/-- AAA and AAS: `dAl` and `dAh` are what an adjustment adds to AL and AH (R324, R325). -/
def unpackedAdjust (dAl dAh : BitVec 8) : M Unit := do
  let s ← getS
  let al := s.reg .b .ax
  let ah := s.reg .b .sp
  let adj := adjustLow al s.flags.AF
  putReg .b .ax ((if adj then al + dAl else al) &&& 0x0F#8)
  putReg .b .sp (if adj then ah + dAh else ah)
  let pf ← drawBool
  let zf ← drawBool
  let sf ← drawBool
  let of ← drawBool
  putStatus { CF := adj, PF := pf, AF := adj, ZF := zf, SF := sf, OF := of }

/-- The flags of AAM and AAD: SF, ZF, PF from AL; OF, AF, CF drawn (R326, R327). -/
def putAlFlags (al : BitVec 8) : M Unit := do
  let cf ← drawBool
  let af ← drawBool
  let of ← drawBool
  putStatus { CF := cf, PF := parityOf al, AF := af, ZF := zeroOf al, SF := signOf al, OF := of }

/-- AAM (R326). -/
def asciiAfterMul (imm : BitVec 8) : M Unit := do
  require (imm != 0#8) vDE .none
  let al ← getReg .b .ax
  putReg .b .sp (al / imm)
  putReg .b .ax (al % imm)
  putAlFlags (al % imm)

/-- AAD (R327). -/
def asciiBeforeDiv (imm : BitVec 8) : M Unit := do
  let al ← getReg .b .ax
  let ah ← getReg .b .sp
  putReg .b .ax (ah * imm + al)
  putReg .b .sp 0#8
  putAlFlags (ah * imm + al)

end Sys2Proof.Machine
end

