-- ==== Sys2Proof/Machine/DecimalInstrs.lean ====
section
/-! DEFINITION. The meanings of decimal arithmetic (42_decimal_arithmetic.md): one definition per constructor, over the shared operations. -/
namespace Sys2Proof.Machine

/-- AAM Ib (42_decimal_arithmetic.md R326). -/
def execAam (imm : BitVec 8) (s : State) : Host.Outcome State Fault Refusal := run (asciiAfterMul imm) s

/-- AAD Ib (42_decimal_arithmetic.md R327). -/
def execAad (imm : BitVec 8) (s : State) : Host.Outcome State Fault Refusal := run (asciiBeforeDiv imm) s

/-- DAA  (42_decimal_arithmetic.md R322). -/
def execDaa (s : State) : Host.Outcome State Fault Refusal := run (decAdjAdd) s

/-- DAS  (42_decimal_arithmetic.md R323). -/
def execDas (s : State) : Host.Outcome State Fault Refusal := run (decAdjSub) s

/-- AAA  (42_decimal_arithmetic.md R324). -/
def execAaa (s : State) : Host.Outcome State Fault Refusal := run (unpackedAdjust 6#8 1#8) s

/-- AAS  (42_decimal_arithmetic.md R325). -/
def execAas (s : State) : Host.Outcome State Fault Refusal := run (unpackedAdjust (-6#8) (-1#8)) s

end Sys2Proof.Machine
end

