-- ==== Sys2Proof/Machine/PortIO.lean ====
section
/-! DEFINITION. The I/O space and its protection (48_system_io.md R520 to R531; 20_memory.md R105). -/
namespace Sys2Proof.Machine

/-- The permission bits of `n` ports from `p` (R521). -/
def ioMapBits (iobase : Nat) : Nat → Nat → M Unit
  | _, 0 => pure ()
  | p, n + 1 => do
    let s ← getS
    let off := iobase + p / 8
    require (decide (off ≤ s.tr.limit.toNat)) vGP (zeroCode false)
    let b ← sysRead (s.tr.base + BitVec.ofNat 32 off) 1 8
    require (!b.getLsbD (p % 8)) vGP (zeroCode false)
    ioMapBits iobase (p + 1) n

/-- `IOMapCheck` (R521). -/
def ioMapCheck (p : BitVec 16) (n : Nat) : M Unit := do
  let s ← getS
  let iobase ← sysRead (s.tr.base + 0x66#32) 2 16
  require (decide (iobase.toNat < s.tr.limit.toNat)) vGP (zeroCode false)
  ioMapBits iobase.toNat p.toNat n

/-- `IOCheck` (R520). -/
def ioCheck (p : BitVec 16) (n : Nat) : M Unit := do
  let s ← getS
  if !s.protectedMode || decide (s.cpl.toNat ≤ s.flags.IOPL.toNat) then pure ()
  else ioMapCheck p n

/-- `PortRead`: the platform supplies the value (20_memory.md R105; log entry 2). -/
def portRead (sz : Size) (p : BitVec 16) : M (BitVec sz.bits) := fun s =>
  .ok ((Config.portInput s.draws p sz.bytes).setWidth sz.bits) { s with draws := s.draws + 1 }

/-- `PortWrite`: the machine's observable output (20_memory.md R105). -/
def portWrite (sz : Size) (p : BitVec 16) (v : BitVec sz.bits) : M Unit :=
  modS fun s => { s with ioOut := ⟨p, sz.bytes, v.setWidth 32⟩ :: s.ioOut }

/-- IN (R530). -/
def inPort (sz : Size) (p : BitVec 16) : M Unit := do
  ioCheck p sz.bytes
  let v ← portRead sz p
  putReg sz .ax v

/-- OUT (R531). -/
def outPort (sz : Size) (p : BitVec 16) : M Unit := do
  ioCheck p sz.bytes
  let v ← getReg sz .ax
  portWrite sz p v

end Sys2Proof.Machine
end

