-- ==== Sys2Proof/Machine/InOutInstrs.lean ====
section
/-! DEFINITION. The meanings of IN and OUT (48_system_io.md): one definition per constructor, over the shared operations. -/
namespace Sys2Proof.Machine

/-- IN AL,Ib (48_system_io.md R530). -/
def execInAlIb (imm : BitVec 8) (s : State) : Host.Outcome State Fault Refusal := run (inPort .b (imm.setWidth 16)) s

/-- IN eAX,Ib (48_system_io.md R530). -/
def execInEaxIb (imm : BitVec 8) (s : State) : Host.Outcome State Fault Refusal :=
  run (inPort s.osz (imm.setWidth 16)) s

/-- OUT Ib,AL (48_system_io.md R531). -/
def execOutIbAl (imm : BitVec 8) (s : State) : Host.Outcome State Fault Refusal := run (outPort .b (imm.setWidth 16)) s

/-- OUT Ib,eAX (48_system_io.md R531). -/
def execOutIbEax (imm : BitVec 8) (s : State) : Host.Outcome State Fault Refusal :=
  run (outPort s.osz (imm.setWidth 16)) s

/-- IN AL,DX (48_system_io.md R530). -/
def execInAlDx (s : State) : Host.Outcome State Fault Refusal := run (inPort .b (s.reg .w .dx)) s

/-- IN eAX,DX (48_system_io.md R530). -/
def execInEaxDx (s : State) : Host.Outcome State Fault Refusal := run (inPort s.osz (s.reg .w .dx)) s

/-- OUT DX,AL (48_system_io.md R531). -/
def execOutDxAl (s : State) : Host.Outcome State Fault Refusal := run (outPort .b (s.reg .w .dx)) s

/-- OUT DX,eAX (48_system_io.md R531). -/
def execOutDxEax (s : State) : Host.Outcome State Fault Refusal := run (outPort s.osz (s.reg .w .dx)) s

end Sys2Proof.Machine
end

