-- ==== Sys2Proof/Machine/LogicInstrs.lean ====
section
/-! DEFINITION. The meanings of AND, OR, XOR, NOT, TEST (43_logical_shift_bit.md): one definition per constructor, over the shared operations. -/
namespace Sys2Proof.Machine

/-- OR Eb,Gb (43_logical_shift_bit.md R332). -/
def execOrEbGb (rm : Rm) (r : Reg) (s : State) : Host.Outcome State Fault Refusal :=
  runNormal (isMem rm) (aluEG .or .b rm r) s

/-- OR Ev,Gv (43_logical_shift_bit.md R332). -/
def execOrEvGv (rm : Rm) (r : Reg) (s : State) : Host.Outcome State Fault Refusal :=
  runNormal (isMem rm) (aluEG .or s.osz rm r) s

/-- OR Gb,Eb (43_logical_shift_bit.md R332). -/
def execOrGbEb (r : Reg) (rm : Rm) (s : State) : Host.Outcome State Fault Refusal := run (aluGE .or .b r rm) s

/-- OR Gv,Ev (43_logical_shift_bit.md R332). -/
def execOrGvEv (r : Reg) (rm : Rm) (s : State) : Host.Outcome State Fault Refusal := run (aluGE .or s.osz r rm) s

/-- OR AL,Ib (43_logical_shift_bit.md R332). -/
def execOrAlIb (imm : BitVec 8) (s : State) : Host.Outcome State Fault Refusal := run (aluTo .or .b (.reg .ax) imm) s

/-- OR eAX,Iv (43_logical_shift_bit.md R332). -/
def execOrEaxIv (imm : BitVec 32) (s : State) : Host.Outcome State Fault Refusal :=
  run (aluTo .or s.osz (.reg .ax) (immV s.osz imm)) s

/-- AND Eb,Gb (43_logical_shift_bit.md R331). -/
def execAndEbGb (rm : Rm) (r : Reg) (s : State) : Host.Outcome State Fault Refusal :=
  runNormal (isMem rm) (aluEG .and .b rm r) s

/-- AND Ev,Gv (43_logical_shift_bit.md R331). -/
def execAndEvGv (rm : Rm) (r : Reg) (s : State) : Host.Outcome State Fault Refusal :=
  runNormal (isMem rm) (aluEG .and s.osz rm r) s

/-- AND Gb,Eb (43_logical_shift_bit.md R331). -/
def execAndGbEb (r : Reg) (rm : Rm) (s : State) : Host.Outcome State Fault Refusal := run (aluGE .and .b r rm) s

/-- AND Gv,Ev (43_logical_shift_bit.md R331). -/
def execAndGvEv (r : Reg) (rm : Rm) (s : State) : Host.Outcome State Fault Refusal := run (aluGE .and s.osz r rm) s

/-- AND AL,Ib (43_logical_shift_bit.md R331). -/
def execAndAlIb (imm : BitVec 8) (s : State) : Host.Outcome State Fault Refusal := run (aluTo .and .b (.reg .ax) imm) s

/-- AND eAX,Iv (43_logical_shift_bit.md R331). -/
def execAndEaxIv (imm : BitVec 32) (s : State) : Host.Outcome State Fault Refusal :=
  run (aluTo .and s.osz (.reg .ax) (immV s.osz imm)) s

/-- XOR Eb,Gb (43_logical_shift_bit.md R333). -/
def execXorEbGb (rm : Rm) (r : Reg) (s : State) : Host.Outcome State Fault Refusal :=
  runNormal (isMem rm) (aluEG .xor .b rm r) s

/-- XOR Ev,Gv (43_logical_shift_bit.md R333). -/
def execXorEvGv (rm : Rm) (r : Reg) (s : State) : Host.Outcome State Fault Refusal :=
  runNormal (isMem rm) (aluEG .xor s.osz rm r) s

/-- XOR Gb,Eb (43_logical_shift_bit.md R333). -/
def execXorGbEb (r : Reg) (rm : Rm) (s : State) : Host.Outcome State Fault Refusal := run (aluGE .xor .b r rm) s

/-- XOR Gv,Ev (43_logical_shift_bit.md R333). -/
def execXorGvEv (r : Reg) (rm : Rm) (s : State) : Host.Outcome State Fault Refusal := run (aluGE .xor s.osz r rm) s

/-- XOR AL,Ib (43_logical_shift_bit.md R333). -/
def execXorAlIb (imm : BitVec 8) (s : State) : Host.Outcome State Fault Refusal := run (aluTo .xor .b (.reg .ax) imm) s

/-- XOR eAX,Iv (43_logical_shift_bit.md R333). -/
def execXorEaxIv (imm : BitVec 32) (s : State) : Host.Outcome State Fault Refusal :=
  run (aluTo .xor s.osz (.reg .ax) (immV s.osz imm)) s

/-- OR Eb,Ib (43_logical_shift_bit.md R332). -/
def execOrEbIb (rm : Rm) (imm : BitVec 8) (s : State) : Host.Outcome State Fault Refusal :=
  runNormal (isMem rm) (aluTo .or .b rm imm) s

/-- OR Ev,Iv (43_logical_shift_bit.md R332). -/
def execOrEvIv (rm : Rm) (imm : BitVec 32) (s : State) : Host.Outcome State Fault Refusal :=
  runNormal (isMem rm) (aluTo .or s.osz rm (immV s.osz imm)) s

/-- OR Ev,Ib (43_logical_shift_bit.md R332). -/
def execOrEvIb (rm : Rm) (imm : BitVec 8) (s : State) : Host.Outcome State Fault Refusal :=
  runNormal (isMem rm) (aluTo .or s.osz rm (immS s.osz imm)) s

/-- AND Eb,Ib (43_logical_shift_bit.md R331). -/
def execAndEbIb (rm : Rm) (imm : BitVec 8) (s : State) : Host.Outcome State Fault Refusal :=
  runNormal (isMem rm) (aluTo .and .b rm imm) s

/-- AND Ev,Iv (43_logical_shift_bit.md R331). -/
def execAndEvIv (rm : Rm) (imm : BitVec 32) (s : State) : Host.Outcome State Fault Refusal :=
  runNormal (isMem rm) (aluTo .and s.osz rm (immV s.osz imm)) s

/-- AND Ev,Ib (43_logical_shift_bit.md R331). -/
def execAndEvIb (rm : Rm) (imm : BitVec 8) (s : State) : Host.Outcome State Fault Refusal :=
  runNormal (isMem rm) (aluTo .and s.osz rm (immS s.osz imm)) s

/-- XOR Eb,Ib (43_logical_shift_bit.md R333). -/
def execXorEbIb (rm : Rm) (imm : BitVec 8) (s : State) : Host.Outcome State Fault Refusal :=
  runNormal (isMem rm) (aluTo .xor .b rm imm) s

/-- XOR Ev,Iv (43_logical_shift_bit.md R333). -/
def execXorEvIv (rm : Rm) (imm : BitVec 32) (s : State) : Host.Outcome State Fault Refusal :=
  runNormal (isMem rm) (aluTo .xor s.osz rm (immV s.osz imm)) s

/-- XOR Ev,Ib (43_logical_shift_bit.md R333). -/
def execXorEvIb (rm : Rm) (imm : BitVec 8) (s : State) : Host.Outcome State Fault Refusal :=
  runNormal (isMem rm) (aluTo .xor s.osz rm (immS s.osz imm)) s

/-- TEST Eb,Gb (43_logical_shift_bit.md R335). -/
def execTestEbGb (rm : Rm) (r : Reg) (s : State) : Host.Outcome State Fault Refusal := run (testEG .b rm r) s

/-- TEST Ev,Gv (43_logical_shift_bit.md R335). -/
def execTestEvGv (rm : Rm) (r : Reg) (s : State) : Host.Outcome State Fault Refusal := run (testEG s.osz rm r) s

/-- TEST AL,Ib (43_logical_shift_bit.md R335). -/
def execTestAlIb (imm : BitVec 8) (s : State) : Host.Outcome State Fault Refusal := run (testWith .b (.reg .ax) imm) s

/-- TEST eAX,Iv (43_logical_shift_bit.md R335). -/
def execTestEaxIv (imm : BitVec 32) (s : State) : Host.Outcome State Fault Refusal :=
  run (testWith s.osz (.reg .ax) (immV s.osz imm)) s

/-- TEST Eb,Ib (43_logical_shift_bit.md R335). -/
def execTestEbIb (rm : Rm) (imm : BitVec 8) (s : State) : Host.Outcome State Fault Refusal := run (testWith .b rm imm) s

/-- TEST Ev,Iv (43_logical_shift_bit.md R335). -/
def execTestEvIv (rm : Rm) (imm : BitVec 32) (s : State) : Host.Outcome State Fault Refusal :=
  run (testWith s.osz rm (immV s.osz imm)) s

/-- NOT Eb (43_logical_shift_bit.md R334). -/
def execNotEb (rm : Rm) (s : State) : Host.Outcome State Fault Refusal := runNormal (isMem rm) (notRm .b rm) s

/-- NOT Ev (43_logical_shift_bit.md R334). -/
def execNotEv (rm : Rm) (s : State) : Host.Outcome State Fault Refusal := runNormal (isMem rm) (notRm s.osz rm) s

end Sys2Proof.Machine
end

