-- ==== Sys2Proof/Machine/Misc.lean ====
section
/-! DEFINITION. Shared operations of ENTER, LEAVE, the flag transfers, ESC, WAIT, LEA and XLAT
(46_block_flag_coproc_misc.md R420 to R447). -/
namespace Sys2Proof.Machine

/-- Copy `n` display entries from the enclosing frame (R420). -/
def copyDisplay (sz : Size) : Nat → BitVec 32 → M Unit
  | 0, _ => pure ()
  | n + 1, bp => do
    let s ← getS
    let bp := wrapOff s.ssz32 (bp - BitVec.ofNat 32 sz.bytes)
    let v ← lread .ss bp sz
    push sz v
    copyDisplay sz n bp

/-- ENTER (R420, D40). -/
def enterFrame (sz : Size) (bytes : BitVec 16) (lvl : BitVec 8) : M Unit := do
  let s ← getS
  let level := lvl.toNat % 32
  push sz (s.reg sz .bp)
  let s1 ← getS
  let frame : BitVec sz.bits := s1.stackPtr.setWidth sz.bits
  if level = 0 then pure ()
  else do
    copyDisplay sz (level - 1) s.gpr.ebp
    push sz frame
  putReg sz .bp frame
  modS fun s => s.setStackPtr (s.below bytes.toNat)
  let s2 ← getS
  require (bytes == 0#16 || s2.seg.ss.inLimit s2.stackPtr bytes.toNat) vSS (zeroCode false)

/-- LEAVE (R421). -/
def leaveFrame (sz : Size) : M Unit := do
  modS fun s => s.setStackPtr (wrapOff s.ssz32 s.gpr.ebp)
  let v ← pop sz
  putReg sz .bp v

/-- LAHF: bits 5, 3 and 1 are undefined (R430). -/
def loadAh : M Unit := do
  let s ← getS
  let f := s.flags
  let u5 ← draw 1
  let u3 ← draw 1
  let u1 ← draw 1
  putReg .b .sp (bit f.SF ++ bit f.ZF ++ u5 ++ bit f.AF ++ u3 ++ bit f.PF ++ u1 ++ bit f.CF)

/-- SAHF (R431). -/
def storeAh : M Unit := do
  let ah ← getReg .b .sp
  modFlags fun f =>
    { f with SF := ah.getLsbD 7, ZF := ah.getLsbD 6, AF := ah.getLsbD 4, PF := ah.getLsbD 2, CF := ah.getLsbD 0 }

/-- PUSHF and PUSHFD: RF and VM are stored as 0 (R432, D41). -/
def pushFlags (sz : Size) : M Unit := do
  let s ← getS
  push sz ((s.flags.toBits &&& 0x00FCFFFF#32).setWidth sz.bits)

/-- The flags POPF leaves, from a popped image, at a privilege level (R433). -/
def Eflags.popped (f : Eflags) (v : BitVec 32) (cpl : BitVec 2) : Eflags :=
  let g := Eflags.ofBits v
  { g with IF := if cpl.toNat ≤ f.IOPL.toNat then g.IF else f.IF, IOPL := if cpl = 0#2 then g.IOPL else f.IOPL,
           RF := f.RF, VM := f.VM }

/-- POPF and POPFD (R433). -/
def popFlags (sz : Size) : M Unit := do
  let v ← pop sz
  modS fun s => { s with flags := s.flags.popped (v.setWidth 32) s.cpl }

/-- A small segment, in which the offsets of a coprocessor operand wrap at 2^16 (61_debug_coproc_multiproc.md R694). Which
segments are small is the model's choice: an expand-up one whose limit is at most FFFFH, an expand-down one with B = 0 (log
entry 37, DESIGN CHOICE). -/
def SegReg.small (g : SegReg) : Bool := if g.expandDown then !g.db else decide (g.limit.toNat ≤ 0xFFFF)

/-- The offset of byte `k` of a coprocessor operand (61_debug_coproc_multiproc.md R694). -/
def SegReg.copOffset (g : SegReg) (ea : BitVec 32) (k : Nat) : BitVec 32 :=
  wrapOff (!(g.small && decide (ea.toNat ≤ 0xFFFF))) (ea + BitVec.ofNat 32 k)

/-- A coprocessor operand of `n` bytes wraps around the addressing limit (61_debug_coproc_multiproc.md R694 (1)). -/
def SegReg.copWraps (g : SegReg) (ea : BitVec 32) (n : Nat) : Bool := decide ((g.copOffset ea (n - 1)).toNat < ea.toNat)

/-- Locate one byte of a coprocessor operand, as an operand of one byte. That data breakpoints examine it so is the model's choice
(61_debug_coproc_multiproc.md R674; log entry 38, DESIGN CHOICE). -/
def copByteAt (r : SReg) (ea : BitVec 32) (write : Bool) (k : Nat) : M Loc := do
  let s ← getS
  locate r ((s.seg.get r).copOffset ea k) 1 write

/-- Locate `n` bytes from byte `k` on of a coprocessor operand, one by one. -/
def copBytesAt (r : SReg) (ea : BitVec 32) (write : Bool) : Nat → Nat → M Loc
  | _, 0 => pure []
  | k, n + 1 => do
    let l ← copByteAt r ea write k
    let rest ← copBytesAt r ea write (k + 1) n
    pure (l ++ rest)

/-- The coprocessor segment overrun, with a drawn EIP (61_debug_coproc_multiproc.md R694; I21). -/
def raiseOverrun {α : Type} : M α := do
  let ret ← draw 32
  halt (.abort ret)

/-- The middle bytes of an operand whose ends are accessible: where it wraps and one of them is not accessible, the coprocessor
segment overrun; where it wraps over accessible bytes alone, the limit exception of its segment (21_protection.md R172, D29); in
real-address mode the overrun wherever it wraps (61_debug_coproc_multiproc.md R694; 70_reset_and_hazards.md R707;
log entry 9). A middle byte in an inaccessible page leaves its linear address in CR2: the model's choice (log entry 37). -/
def orOverrun (r : SReg) (wraps : Bool) (x : M Loc) : M Loc := fun s =>
  if wraps && !s.protectedMode then raiseOverrun s
  else match x s with
  | .error (.exc e) s' => if wraps then raiseOverrun s' else .error (.exc e) s'
  | .ok l s' => if wraps then segFault r s' else .ok l s'
  | y => y

/-- Locate a coprocessor operand of `n` bytes: the first byte, the last, then those between (61_debug_coproc_multiproc.md R694). -/
def copOperand (r : SReg) (ea : BitVec 32) (n : Nat) (write : Bool) : M Loc := do
  let s ← getS
  if n = 0 then pure []
  else do
    let first ← copByteAt r ea write 0
    if n = 1 then pure first
    else do
      let last ← copByteAt r ea write (n - 1)
      let middle ← orOverrun r ((s.seg.get r).copWraps ea n) (copBytesAt r ea write 1 (n - 2))
      pure (first ++ middle ++ last)

/-- The value of the bytes a coprocessor stores, the first lowest. -/
def copValue (draws : Nat) : Nat → Nat → Nat
  | _, 0 => 0
  | k, n + 1 => (Config.copByte draws k).toNat + 256 * copValue draws (k + 1) n

/-- A location's bytes. -/
def State.bytesOf (s : State) (l : Loc) : List Byte := l.map fun a => s.load 8 [a]

/-- The largest coprocessor operand (61_debug_coproc_multiproc.md R694: "108 bytes"). -/
def copMax : Nat := 108

/-- `CoprocessorExecute`: the agent's answer, with the operand transfer it asks for and the command as it receives it
(R440, D42; 61_debug_coproc_multiproc.md R694; log entry 9). -/
def copExecute (op n : BitVec 3) (rm : Rm) : M Unit := do
  let s ← getS
  let a := Config.copAction s.plat.coprocessor s.draws op n rm
  modS fun s => { s with draws := s.draws + 1 }
  match rm with
  | .reg _ => do
    modS fun s => { s with copOut := ⟨op, n, rm, none, []⟩ :: s.copOut }
    match a.ax with
    | none => pure ()
    | some v => putReg .w .ax v
  | .mem m => do
    let len := min a.bytes copMax
    let l ← copOperand (s.memSeg m) (memEa s.gpr m) len a.stores
    if a.stores then do
      modS fun s' => s'.store l (BitVec.ofNat (8 * len) (copValue s.draws 0 len))
      modS fun s' => { s' with copOut := ⟨op, n, rm, some (s.memSeg m, memEa s.gpr m), []⟩ :: s'.copOut }
    else modS fun s' => { s' with copOut := ⟨op, n, rm, some (s.memSeg m, memEa s.gpr m), s'.bytesOf l⟩ :: s'.copOut }

/-- ESC (R440, D42). -/
def escape (op n : BitVec 3) (rm : Rm) : M Unit := do
  let s ← getS
  require (!s.cr0.EM) vNM .none
  require (!s.cr0.TS) vNM .none
  require (!(s.pins.error && Config.escChecksError op n rm)) vMF .none
  if s.plat.coprocessor = .absent then halt (.refuse .coprocessorAbsent) else copExecute op n rm

/-- WAIT (R441, D43). -/
def waitCop : M Done := do
  let s ← getS
  require (!(s.cr0.MP && s.cr0.TS)) vNM .none
  if s.pins.busy then do
    runAgain
    pure .again
  else do
    require (s.cr0.EM || !s.pins.error) vMF .none
    pure .normal

/-- LEA: no access is made (R444). -/
def loadEa (sz : Size) (r : Reg) (rm : Rm) : M Unit := do
  let m ← onlyMem rm
  let s ← getS
  putReg sz r ((memEa s.gpr m).setWidth sz.bits)

/-- XLAT (R447). -/
def translateAl : M Unit := do
  let s ← getS
  let v ← lread (s.segFor .ds) (wrapOff s.attrs.a32 (s.gpr.ebx + (s.reg .b .ax).setWidth 32)) .b
  putReg .b .ax v

/-- A prefix: it changes the prefix state and is one byte of the instruction (30_encoding.md R203; log entry 10). -/
def State.withPrefix (s : State) (f : Prefixes → Prefixes) : State :=
  { s with pfx := { f s.pfx with count := s.pfx.count + 1 } }

end Sys2Proof.Machine
end

