-- ==== Sys2Proof/Machine/MiscInstrs.lean ====
section
/-! DEFINITION. The meanings of stack frames, flags, coprocessor and the rest (46_block_flag_coproc_misc.md), and the undefined opcodes (30_encoding.md R240): one definition per constructor, over the shared operations. -/
namespace Sys2Proof.Machine

/-- LEA Gv,M (46_block_flag_coproc_misc.md R444). -/
def execLeaGvM (r : Reg) (rm : Rm) (s : State) : Host.Outcome State Fault Refusal := run (loadEa s.osz r rm) s

/-- ENTER Iw,Ib (46_block_flag_coproc_misc.md R420). -/
def execEnter (imm : BitVec 16) (lvl : BitVec 8) (s : State) : Host.Outcome State Fault Refusal :=
  run (enterFrame s.osz imm lvl) s

/-- ESC coprocessor opcode, E (46_block_flag_coproc_misc.md R440). -/
def execEsc (op : BitVec 3) (n : BitVec 3) (rm : Rm) (s : State) : Host.Outcome State Fault Refusal :=
  run (escape op n rm) s

/-- NOP  (46_block_flag_coproc_misc.md R446). -/
def execNop (s : State) : Host.Outcome State Fault Refusal := run (pure ()) s

/-- WAIT  (46_block_flag_coproc_misc.md R441). -/
def execWait (s : State) : Host.Outcome State Fault Refusal := runInstr false (waitCop) s

/-- PUSHF_PUSHFD  (46_block_flag_coproc_misc.md R432). -/
def execPushf (s : State) : Host.Outcome State Fault Refusal := run (pushFlags s.osz) s

/-- POPF_POPFD  (46_block_flag_coproc_misc.md R433). -/
def execPopf (s : State) : Host.Outcome State Fault Refusal := runInstr false (do popFlags s.osz; pure .keepRF) s

/-- SAHF  (46_block_flag_coproc_misc.md R431). -/
def execSahf (s : State) : Host.Outcome State Fault Refusal := run (storeAh) s

/-- LAHF  (46_block_flag_coproc_misc.md R430). -/
def execLahf (s : State) : Host.Outcome State Fault Refusal := run (loadAh) s

/-- LEAVE  (46_block_flag_coproc_misc.md R421). -/
def execLeave (s : State) : Host.Outcome State Fault Refusal := run (leaveFrame s.osz) s

/-- XLAT_XLATB  (46_block_flag_coproc_misc.md R447). -/
def execXlat (s : State) : Host.Outcome State Fault Refusal := run (translateAl) s

/-- CMC  (46_block_flag_coproc_misc.md R427). -/
def execCmc (s : State) : Host.Outcome State Fault Refusal := run (modFlags fun f => { f with CF := !f.CF }) s

/-- CLC  (46_block_flag_coproc_misc.md R426). -/
def execClc (s : State) : Host.Outcome State Fault Refusal := run (modFlags fun f => { f with CF := false }) s

/-- STC  (46_block_flag_coproc_misc.md R425). -/
def execStc (s : State) : Host.Outcome State Fault Refusal := run (modFlags fun f => { f with CF := true }) s

/-- CLD  (46_block_flag_coproc_misc.md R428). -/
def execCld (s : State) : Host.Outcome State Fault Refusal := run (modFlags fun f => { f with DF := false }) s

/-- STD  (46_block_flag_coproc_misc.md R429). -/
def execStd (s : State) : Host.Outcome State Fault Refusal := run (modFlags fun f => { f with DF := true }) s

/-- An undefined opcode #UD (30_encoding.md R240). -/
def execUndef82 (s : State) : Host.Outcome State Fault Refusal := run (raiseUD) s

/-- An undefined opcode #UD (30_encoding.md R240). -/
def execUndefD6 (s : State) : Host.Outcome State Fault Refusal := run (raiseUD) s

/-- An undefined opcode #UD (30_encoding.md R240). -/
def execUndefF1 (s : State) : Host.Outcome State Fault Refusal := run (raiseUD) s

end Sys2Proof.Machine
end

