-- ==== Sys2Proof/Machine/PrefixInstrs.lean ====
section
/-! DEFINITION. The meanings of prefixes (30_encoding.md R203 to R224): one definition per constructor, over the shared operations. -/
namespace Sys2Proof.Machine

/-- prefix_ES prefix (30_encoding.md R221). -/
def execPrefixEs (s : State) : Host.Outcome State Fault Refusal :=
  .next (s.withPrefix fun p => { p with segOvr := some .es })

/-- prefix_CS prefix (30_encoding.md R221). -/
def execPrefixCs (s : State) : Host.Outcome State Fault Refusal :=
  .next (s.withPrefix fun p => { p with segOvr := some .cs })

/-- prefix_SS prefix (30_encoding.md R221). -/
def execPrefixSs (s : State) : Host.Outcome State Fault Refusal :=
  .next (s.withPrefix fun p => { p with segOvr := some .ss })

/-- prefix_DS prefix (30_encoding.md R221). -/
def execPrefixDs (s : State) : Host.Outcome State Fault Refusal :=
  .next (s.withPrefix fun p => { p with segOvr := some .ds })

/-- prefix_FS prefix (30_encoding.md R221). -/
def execPrefixFs (s : State) : Host.Outcome State Fault Refusal :=
  .next (s.withPrefix fun p => { p with segOvr := some .fs })

/-- prefix_GS prefix (30_encoding.md R221). -/
def execPrefixGs (s : State) : Host.Outcome State Fault Refusal :=
  .next (s.withPrefix fun p => { p with segOvr := some .gs })

/-- prefix_OPSIZE prefix (30_encoding.md R205). -/
def execPrefixOpsize (s : State) : Host.Outcome State Fault Refusal :=
  .next (s.withPrefix fun p => { p with opsize := true })

/-- prefix_ADSIZE prefix (30_encoding.md R206). -/
def execPrefixAdsize (s : State) : Host.Outcome State Fault Refusal :=
  .next (s.withPrefix fun p => { p with adsize := true })

/-- prefix_LOCK prefix (30_encoding.md R224). -/
def execPrefixLock (s : State) : Host.Outcome State Fault Refusal :=
  .next (s.withPrefix fun p => { p with lock := true })

/-- prefix_REPNE_REPNZ prefix (30_encoding.md R222). -/
def execPrefixRepne (s : State) : Host.Outcome State Fault Refusal :=
  .next (s.withPrefix fun p => { p with rep := .repne })

/-- prefix_REP_REPE_REPZ prefix (30_encoding.md R222). -/
def execPrefixRep (s : State) : Host.Outcome State Fault Refusal := .next (s.withPrefix fun p => { p with rep := .rep })

end Sys2Proof.Machine
end

