-- ==== Sys2Proof/Machine/FarOps.lean ====
section
/-! DEFINITION. Shared operations of far JMP, CALL and RET (47_segment_far_transfer.md R460 to R468). -/
namespace Sys2Proof.Machine

/-- The two transfers that share `FarTransfer` (R460). -/
inductive FarKind where
  | jmp
  | call
deriving DecidableEq, Repr

/-- The task switch each makes (49_multitasking.md R554, R555). -/
def FarKind.cause : FarKind → SwitchCause
  | .jmp => .jmp
  | .call => .call

/-- Push the return pointer of a far CALL as items of a size: CS, then `EIP_next` (R461, R462, R467). -/
def pushReturn (sz : Size) : M Unit := do
  let s ← getS
  pushSel sz s.seg.cs.sel
  push sz (s.eipNext.setWidth sz.bits)

/-- The same after the room test, which takes the two items as one block (R461, R462, R472). -/
def pushReturnRoom (sz : Size) : M Unit := do
  let s ← getS
  require (s.room (2 * sz.bytes)) vSS (zeroCode false)
  pushReturn sz

/-- The same in real-address mode: both items are checked, each at its own place, before either is stored (R467; 10_state.md R46;
log entry 21). -/
def pushReturnReal (sz : Size) : M Unit := do
  let s ← getS
  require (s.segOk .ss (s.below sz.bytes) sz.bytes .write && s.segOk .ss (s.below (2 * sz.bytes)) sz.bytes .write) vSS (zeroCode false)
  pushReturn sz

/-- Finish a transfer that keeps the privilege level (R461, R462). -/
def farSame (kind : FarKind) (sz : Size) (d : Desc) (sel : BitVec 16) (t : BitVec 32) : M Unit := do
  let s ← getS
  require (decide (t.toNat ≤ d.limit.toNat)) vGP (zeroCode false)
  if kind = .call then pushReturnRoom sz else pure ()
  loadCode d sel s.cpl
  modS fun s => s.jump t

/-- To an executable segment (R461). -/
def farCode (kind : FarKind) (d : Desc) (sel : BitVec 16) (off : BitVec 32) : M Unit := do
  let s ← getS
  require (if d.isConforming then decide (d.dpl.toNat ≤ s.cpl.toNat) else decide ((rplOf sel).toNat ≤ s.cpl.toNat) && d.dpl == s.cpl)
    vGP (selCode sel false)
  require d.p vNP (selCode sel false)
  farSame kind s.osz d sel off

/-- Copy `n` doublewords from the caller's stack to the new one, the highest first (R463). -/
def copyParams (g : SegReg) : BitVec 32 → Nat → M (BitVec 32)
  | off, 0 => pure off
  | off, n + 1 => do
    let v ← peek (4 * n) .d
    let off ← innerPushAll true g off [v]
    copyParams g off n

/-- Interlevel CALL: the stack switch (R463). -/
def farInner (gate target : Desc) : M Unit := do
  let s ← getS
  let (nss, nd, nesp) ← innerStack target.dpl false
  let g := nd.toSeg nss
  require (g.roomBelow g.db nesp (4 * (4 + gate.gateCount))) vSS (selCode nss false)
  require (decide (gate.gateOff.toNat ≤ target.limit.toNat)) vGP (zeroCode false)
  setAccessed nd
  setAccessed target
  let ss ← padSel .d s.seg.ss.sel
  let cs ← padSel .d s.seg.cs.sel
  let o1 ← innerPushAll true g nesp [ss, s.gpr.esp]
  let o2 ← copyParams g o1 gate.gateCount
  let top ← innerPushAll true g o2 [cs, s.eipNext]
  putSeg .ss g
  modS fun s => { s with gpr := { s.gpr with esp := if g.db then top else setWordLo nesp (top.extractLsb' 0 16) } }
  putCode target gate.gateSel target.dpl
  modS fun s => s.jump gate.gateOff

/-- Through a call gate (R462). -/
def farGate (kind : FarKind) (gate : Desc) (sel : BitVec 16) : M Unit := do
  let s ← getS
  require (dataPrivOk s.cpl (rplOf sel) gate.dpl) vGP (selCode sel false)
  require gate.p vNP (selCode sel false)
  let tsel := gate.gateSel
  require (!nullSel tsel) vGP (zeroCode false)
  let d ← fetchDescOr tsel vGP (selCode tsel false)
  require d.isCode vGP (selCode tsel false)
  require (if kind = .jmp ∧ d.isConforming = false then d.dpl == s.cpl else decide (d.dpl.toNat ≤ s.cpl.toNat))
    vGP (selCode tsel false)
  require d.p vNP (selCode tsel false)
  if kind = .call ∧ d.isConforming = false ∧ d.dpl.toNat < s.cpl.toNat then farInner gate d
  else farSame kind .d d tsel gate.gateOff

/-- `FarTransfer` in protected mode: the dispatch on the descriptor's type (R460). -/
def farProtected (kind : FarKind) (sel : BitVec 16) (off : BitVec 32) : M Done := do
  require (!nullSel sel) vGP (zeroCode false)
  let d ← fetchDescOr sel vGP (selCode sel false)
  if d.isCode then do
    farCode kind d sel off
    pure .normal
  else if d.isSystem 0xC#4 then do
    farGate kind d sel
    pure .normal
  else if d.isSystem 5#4 then do
    viaTaskGate kind.cause sel d
    pure .keepRF
  else if d.isSystem 9#4 || d.isSystem 0xB#4 then do
    viaTss kind.cause sel d
    pure .keepRF
  else if d.isSystem 1#4 || d.isSystem 3#4 || d.isSystem 4#4 then halt (.refuse .format286)
  else raise vGP (selCode sel false)

/-- Real-address mode (R467). -/
def farReal (kind : FarKind) (sz : Size) (sel : BitVec 16) (off : BitVec 32) : M Unit := do
  let s ← getS
  require (decide (off.toNat ≤ s.seg.cs.limit.toNat)) vGP (zeroCode false)
  if kind = .call then pushReturnReal sz else pure ()
  loadCodeReal sel
  modS fun s => s.jump off

/-- Far JMP and CALL (R464, R465). -/
def farTransfer (kind : FarKind) (sel : BitVec 16) (off : BitVec 32) : M Done := do
  let s ← getS
  if s.protectedMode then farProtected kind sel off
  else do
    farReal kind s.osz sel off
    pure .normal

/-- Far JMP and CALL through a pointer in memory (R464, R465). -/
def farIndirect (kind : FarKind) (sz : Size) (rm : Rm) : M Done := do
  let (off, sel) ← readFarPtr sz rm
  farTransfer kind sel off

/-- Far RET in real-address mode: EIP is popped, then CS, each an item of the operand size (R467). The popped EIP is not held
against the CS limit, which the next fetch does: R467 names that check for JMP and CALL only (log entry 36, DESIGN CHOICE). -/
def retFarReal (sz : Size) (n : Nat) : M Unit := do
  let v ← peek 0 sz
  let c ← peek sz.bytes sz
  loadCodeReal (c.setWidth 16)
  modS fun s => (s.setStackPtr (s.above (2 * sz.bytes + n))).jump (v.setWidth 32)

/-- Far RET releasing `n` bytes of parameters (R466 to R468). -/
def retFar (sz : Size) (n : Nat) : M Unit := do
  let s ← getS
  if !s.protectedMode then retFarReal sz n
  else do
    require (s.stackHas (2 * sz.bytes)) vSS (zeroCode false)
    let v ← peek 0 sz
    let ncs ← peek sz.bytes .w
    let neip := v.setWidth 32
    let d ← checkReturnCs ncs
    if rplOf ncs = s.cpl then returnSame d ncs neip (2 * sz.bytes + n)
    else returnOuter sz d ncs neip (2 * sz.bytes + n) n

end Sys2Proof.Machine
end

