-- ==== Sys2Proof/Machine/SegOps.lean ====
section
/-! DEFINITION. Shared operations that load and store segment registers (47_segment_far_transfer.md R450 to R454). -/
namespace Sys2Proof.Machine

/-- Store 16 bits in an `Ew` operand: a word in memory, the low word of a 16-bit register destination, a 32-bit register
destination with an undefined upper half (R451, D45). -/
def storeWord (rm : Rm) (v : BitVec 16) : M Unit := do
  let s ← getS
  match rm with
  | .mem _ => writeRm .w rm v
  | .reg r => do
    let x ← padSel s.osz v
    putReg s.osz r x

/-- How a load of a segment register ends: one of SS opens the shadow (R451; 60_exceptions.md R625). -/
def loadEnds (r : SReg) : Done := if r = .ss then .opensSs else .normal

/-- MOV to a segment register: CS and the codes that name no register are #UD; a load of SS opens the shadow (R451). -/
def movToSeg (n : BitVec 3) (rm : Rm) : M Done :=
  match SReg.ofCode? n with
  | none => raiseUD
  | some .cs => raiseUD
  | some r => do
    let v ← readRm .w rm
    loadSeg r v
    pure (loadEnds r)

/-- MOV from a segment register (R451). -/
def movFromSeg (rm : Rm) (n : BitVec 3) : M Unit :=
  match SReg.ofCode? n with
  | none => raiseUD
  | some r => do
    let s ← getS
    storeWord rm (s.seg.get r).sel

/-- PUSH of a segment register (R452). -/
def pushSeg (r : SReg) : M Unit := do
  let s ← getS
  pushSel s.osz (s.seg.get r).sel

/-- POP to a segment register: the stack pointer moves, in the old stack's address size, after the load (R453). -/
def popSeg (sz : Size) (r : SReg) : M Done := do
  let v ← peek 0 sz
  let s ← getS
  loadSeg r (v.setWidth 16)
  modS fun s' => { s' with gpr := (s.setStackPtr (s.above sz.bytes)).gpr }
  pure (loadEnds r)

/-- LDS, LES, LFS, LGS, LSS: the selector's offset wraps in the address size (R454); where it does not wrap at 2^16 the pointer is
checked as one operand, which no segment holds beyond FFFFFFFFH (21_protection.md R172, D29; log entry 39, DEDUCED). -/
def loadFarPtr (r : SReg) (sz : Size) (g : Reg) (rm : Rm) : M Unit := do
  let m ← onlyMem rm
  let s ← getS
  if memEaPlus s.gpr m sz.bytes = memEa s.gpr m + BitVec.ofNat 32 sz.bytes then checkWhole m (sz.bytes + 2) .read else pure ()
  let off ← readPart sz m 0
  let sel ← lread (s.memSeg m) (memEaPlus s.gpr m sz.bytes) .w
  loadSeg r sel
  putReg sz g off

end Sys2Proof.Machine
end

