-- ==== Sys2Proof/Machine/SegmentInstrs.lean ====
section
/-! DEFINITION. The meanings of segment registers, far transfers and IRET (47_segment_far_transfer.md): one definition per constructor, over the shared operations. -/
namespace Sys2Proof.Machine

/-- MOV Ew,Sw (47_segment_far_transfer.md R451). -/
def execMovEwSw (rm : Rm) (n : BitVec 3) (s : State) : Host.Outcome State Fault Refusal := run (movFromSeg rm n) s

/-- MOV Sw,Ew (47_segment_far_transfer.md R451). -/
def execMovSwEw (n : BitVec 3) (rm : Rm) (s : State) : Host.Outcome State Fault Refusal := runInstr false (movToSeg n rm) s

/-- CALL Ap (far direct) (47_segment_far_transfer.md R465). -/
def execCallFarAp (off : BitVec 32) (sel : BitVec 16) (s : State) : Host.Outcome State Fault Refusal :=
  runInstr false (farTransfer .call sel off) s

/-- LES Gv,Mp (47_segment_far_transfer.md R454). -/
def execLesGvMp (r : Reg) (rm : Rm) (s : State) : Host.Outcome State Fault Refusal := run (loadFarPtr .es s.osz r rm) s

/-- LDS Gv,Mp (47_segment_far_transfer.md R454). -/
def execLdsGvMp (r : Reg) (rm : Rm) (s : State) : Host.Outcome State Fault Refusal := run (loadFarPtr .ds s.osz r rm) s

/-- RET Iw (far) (47_segment_far_transfer.md R468). -/
def execRetFarIw (imm : BitVec 16) (s : State) : Host.Outcome State Fault Refusal := run (retFar s.osz imm.toNat) s

/-- JMP Ap (far direct) (47_segment_far_transfer.md R464). -/
def execJmpFarAp (off : BitVec 32) (sel : BitVec 16) (s : State) : Host.Outcome State Fault Refusal :=
  runInstr false (farTransfer .jmp sel off) s

/-- CALL Mp (far indirect) (47_segment_far_transfer.md R465). -/
def execCallFarMp (rm : Rm) (s : State) : Host.Outcome State Fault Refusal :=
  runInstr false (farIndirect .call s.osz rm) s

/-- JMP Mp (far indirect) (47_segment_far_transfer.md R464). -/
def execJmpFarMp (rm : Rm) (s : State) : Host.Outcome State Fault Refusal :=
  runInstr false (farIndirect .jmp s.osz rm) s

/-- LSS Gv,Mp (47_segment_far_transfer.md R454). -/
def execLssGvMp (r : Reg) (rm : Rm) (s : State) : Host.Outcome State Fault Refusal := run (loadFarPtr .ss s.osz r rm) s

/-- LFS Gv,Mp (47_segment_far_transfer.md R454). -/
def execLfsGvMp (r : Reg) (rm : Rm) (s : State) : Host.Outcome State Fault Refusal := run (loadFarPtr .fs s.osz r rm) s

/-- LGS Gv,Mp (47_segment_far_transfer.md R454). -/
def execLgsGvMp (r : Reg) (rm : Rm) (s : State) : Host.Outcome State Fault Refusal := run (loadFarPtr .gs s.osz r rm) s

/-- PUSH ES (47_segment_far_transfer.md R452). -/
def execPushEs (s : State) : Host.Outcome State Fault Refusal := run (pushSeg .es) s

/-- POP ES (47_segment_far_transfer.md R453). -/
def execPopEs (s : State) : Host.Outcome State Fault Refusal := runInstr false (popSeg s.osz .es) s

/-- PUSH CS (47_segment_far_transfer.md R452). -/
def execPushCs (s : State) : Host.Outcome State Fault Refusal := run (pushSeg .cs) s

/-- PUSH SS (47_segment_far_transfer.md R452). -/
def execPushSs (s : State) : Host.Outcome State Fault Refusal := run (pushSeg .ss) s

/-- POP SS (47_segment_far_transfer.md R453). -/
def execPopSs (s : State) : Host.Outcome State Fault Refusal := runInstr false (popSeg s.osz .ss) s

/-- PUSH DS (47_segment_far_transfer.md R452). -/
def execPushDs (s : State) : Host.Outcome State Fault Refusal := run (pushSeg .ds) s

/-- POP DS (47_segment_far_transfer.md R453). -/
def execPopDs (s : State) : Host.Outcome State Fault Refusal := runInstr false (popSeg s.osz .ds) s

/-- PUSH FS (47_segment_far_transfer.md R452). -/
def execPushFs (s : State) : Host.Outcome State Fault Refusal := run (pushSeg .fs) s

/-- POP FS (47_segment_far_transfer.md R453). -/
def execPopFs (s : State) : Host.Outcome State Fault Refusal := runInstr false (popSeg s.osz .fs) s

/-- PUSH GS (47_segment_far_transfer.md R452). -/
def execPushGs (s : State) : Host.Outcome State Fault Refusal := run (pushSeg .gs) s

/-- POP GS (47_segment_far_transfer.md R453). -/
def execPopGs (s : State) : Host.Outcome State Fault Refusal := runInstr false (popSeg s.osz .gs) s

/-- RET (far) (47_segment_far_transfer.md R468). -/
def execRetFar (s : State) : Host.Outcome State Fault Refusal := run (retFar s.osz 0) s

/-- IRET_IRETD  (47_segment_far_transfer.md R470). -/
def execIret (s : State) : Host.Outcome State Fault Refusal := runInstr false (interruptReturn) s

end Sys2Proof.Machine
end

