-- ==== Sys2Proof/Machine/ShiftInstrs.lean ====
section
/-! DEFINITION. The meanings of shifts, double shifts and rotates (43_logical_shift_bit.md): one definition per constructor, over the shared operations. -/
namespace Sys2Proof.Machine

/-- ROL Eb,Ib (43_logical_shift_bit.md R350). -/
def execRolEbIb (rm : Rm) (imm : BitVec 8) (s : State) : Host.Outcome State Fault Refusal :=
  run (shiftBy .rol .b rm imm) s

/-- ROL Ev,Ib (43_logical_shift_bit.md R350). -/
def execRolEvIb (rm : Rm) (imm : BitVec 8) (s : State) : Host.Outcome State Fault Refusal :=
  run (shiftBy .rol s.osz rm imm) s

/-- ROL Eb,1 (43_logical_shift_bit.md R350). -/
def execRolEb1 (rm : Rm) (s : State) : Host.Outcome State Fault Refusal := run (shiftBy .rol .b rm 1#8) s

/-- ROL Ev,1 (43_logical_shift_bit.md R350). -/
def execRolEv1 (rm : Rm) (s : State) : Host.Outcome State Fault Refusal := run (shiftBy .rol s.osz rm 1#8) s

/-- ROL Eb,CL (43_logical_shift_bit.md R350). -/
def execRolEbCl (rm : Rm) (s : State) : Host.Outcome State Fault Refusal := run (shiftCl .rol .b rm) s

/-- ROL Ev,CL (43_logical_shift_bit.md R350). -/
def execRolEvCl (rm : Rm) (s : State) : Host.Outcome State Fault Refusal := run (shiftCl .rol s.osz rm) s

/-- ROR Eb,Ib (43_logical_shift_bit.md R351). -/
def execRorEbIb (rm : Rm) (imm : BitVec 8) (s : State) : Host.Outcome State Fault Refusal :=
  run (shiftBy .ror .b rm imm) s

/-- ROR Ev,Ib (43_logical_shift_bit.md R351). -/
def execRorEvIb (rm : Rm) (imm : BitVec 8) (s : State) : Host.Outcome State Fault Refusal :=
  run (shiftBy .ror s.osz rm imm) s

/-- ROR Eb,1 (43_logical_shift_bit.md R351). -/
def execRorEb1 (rm : Rm) (s : State) : Host.Outcome State Fault Refusal := run (shiftBy .ror .b rm 1#8) s

/-- ROR Ev,1 (43_logical_shift_bit.md R351). -/
def execRorEv1 (rm : Rm) (s : State) : Host.Outcome State Fault Refusal := run (shiftBy .ror s.osz rm 1#8) s

/-- ROR Eb,CL (43_logical_shift_bit.md R351). -/
def execRorEbCl (rm : Rm) (s : State) : Host.Outcome State Fault Refusal := run (shiftCl .ror .b rm) s

/-- ROR Ev,CL (43_logical_shift_bit.md R351). -/
def execRorEvCl (rm : Rm) (s : State) : Host.Outcome State Fault Refusal := run (shiftCl .ror s.osz rm) s

/-- RCL Eb,Ib (43_logical_shift_bit.md R352). -/
def execRclEbIb (rm : Rm) (imm : BitVec 8) (s : State) : Host.Outcome State Fault Refusal :=
  run (shiftBy .rcl .b rm imm) s

/-- RCL Ev,Ib (43_logical_shift_bit.md R352). -/
def execRclEvIb (rm : Rm) (imm : BitVec 8) (s : State) : Host.Outcome State Fault Refusal :=
  run (shiftBy .rcl s.osz rm imm) s

/-- RCL Eb,1 (43_logical_shift_bit.md R352). -/
def execRclEb1 (rm : Rm) (s : State) : Host.Outcome State Fault Refusal := run (shiftBy .rcl .b rm 1#8) s

/-- RCL Ev,1 (43_logical_shift_bit.md R352). -/
def execRclEv1 (rm : Rm) (s : State) : Host.Outcome State Fault Refusal := run (shiftBy .rcl s.osz rm 1#8) s

/-- RCL Eb,CL (43_logical_shift_bit.md R352). -/
def execRclEbCl (rm : Rm) (s : State) : Host.Outcome State Fault Refusal := run (shiftCl .rcl .b rm) s

/-- RCL Ev,CL (43_logical_shift_bit.md R352). -/
def execRclEvCl (rm : Rm) (s : State) : Host.Outcome State Fault Refusal := run (shiftCl .rcl s.osz rm) s

/-- RCR Eb,Ib (43_logical_shift_bit.md R353). -/
def execRcrEbIb (rm : Rm) (imm : BitVec 8) (s : State) : Host.Outcome State Fault Refusal :=
  run (shiftBy .rcr .b rm imm) s

/-- RCR Ev,Ib (43_logical_shift_bit.md R353). -/
def execRcrEvIb (rm : Rm) (imm : BitVec 8) (s : State) : Host.Outcome State Fault Refusal :=
  run (shiftBy .rcr s.osz rm imm) s

/-- RCR Eb,1 (43_logical_shift_bit.md R353). -/
def execRcrEb1 (rm : Rm) (s : State) : Host.Outcome State Fault Refusal := run (shiftBy .rcr .b rm 1#8) s

/-- RCR Ev,1 (43_logical_shift_bit.md R353). -/
def execRcrEv1 (rm : Rm) (s : State) : Host.Outcome State Fault Refusal := run (shiftBy .rcr s.osz rm 1#8) s

/-- RCR Eb,CL (43_logical_shift_bit.md R353). -/
def execRcrEbCl (rm : Rm) (s : State) : Host.Outcome State Fault Refusal := run (shiftCl .rcr .b rm) s

/-- RCR Ev,CL (43_logical_shift_bit.md R353). -/
def execRcrEvCl (rm : Rm) (s : State) : Host.Outcome State Fault Refusal := run (shiftCl .rcr s.osz rm) s

/-- SHL_SAL Eb,Ib (43_logical_shift_bit.md R344). -/
def execShlEbIb (rm : Rm) (imm : BitVec 8) (s : State) : Host.Outcome State Fault Refusal :=
  run (shiftBy .shl .b rm imm) s

/-- SHL_SAL Ev,Ib (43_logical_shift_bit.md R344). -/
def execShlEvIb (rm : Rm) (imm : BitVec 8) (s : State) : Host.Outcome State Fault Refusal :=
  run (shiftBy .shl s.osz rm imm) s

/-- SHL_SAL Eb,1 (43_logical_shift_bit.md R344). -/
def execShlEb1 (rm : Rm) (s : State) : Host.Outcome State Fault Refusal := run (shiftBy .shl .b rm 1#8) s

/-- SHL_SAL Ev,1 (43_logical_shift_bit.md R344). -/
def execShlEv1 (rm : Rm) (s : State) : Host.Outcome State Fault Refusal := run (shiftBy .shl s.osz rm 1#8) s

/-- SHL_SAL Eb,CL (43_logical_shift_bit.md R344). -/
def execShlEbCl (rm : Rm) (s : State) : Host.Outcome State Fault Refusal := run (shiftCl .shl .b rm) s

/-- SHL_SAL Ev,CL (43_logical_shift_bit.md R344). -/
def execShlEvCl (rm : Rm) (s : State) : Host.Outcome State Fault Refusal := run (shiftCl .shl s.osz rm) s

/-- SHR Eb,Ib (43_logical_shift_bit.md R345). -/
def execShrEbIb (rm : Rm) (imm : BitVec 8) (s : State) : Host.Outcome State Fault Refusal :=
  run (shiftBy .shr .b rm imm) s

/-- SHR Ev,Ib (43_logical_shift_bit.md R345). -/
def execShrEvIb (rm : Rm) (imm : BitVec 8) (s : State) : Host.Outcome State Fault Refusal :=
  run (shiftBy .shr s.osz rm imm) s

/-- SHR Eb,1 (43_logical_shift_bit.md R345). -/
def execShrEb1 (rm : Rm) (s : State) : Host.Outcome State Fault Refusal := run (shiftBy .shr .b rm 1#8) s

/-- SHR Ev,1 (43_logical_shift_bit.md R345). -/
def execShrEv1 (rm : Rm) (s : State) : Host.Outcome State Fault Refusal := run (shiftBy .shr s.osz rm 1#8) s

/-- SHR Eb,CL (43_logical_shift_bit.md R345). -/
def execShrEbCl (rm : Rm) (s : State) : Host.Outcome State Fault Refusal := run (shiftCl .shr .b rm) s

/-- SHR Ev,CL (43_logical_shift_bit.md R345). -/
def execShrEvCl (rm : Rm) (s : State) : Host.Outcome State Fault Refusal := run (shiftCl .shr s.osz rm) s

/-- SAR Eb,Ib (43_logical_shift_bit.md R346). -/
def execSarEbIb (rm : Rm) (imm : BitVec 8) (s : State) : Host.Outcome State Fault Refusal :=
  run (shiftBy .sar .b rm imm) s

/-- SAR Ev,Ib (43_logical_shift_bit.md R346). -/
def execSarEvIb (rm : Rm) (imm : BitVec 8) (s : State) : Host.Outcome State Fault Refusal :=
  run (shiftBy .sar s.osz rm imm) s

/-- SAR Eb,1 (43_logical_shift_bit.md R346). -/
def execSarEb1 (rm : Rm) (s : State) : Host.Outcome State Fault Refusal := run (shiftBy .sar .b rm 1#8) s

/-- SAR Ev,1 (43_logical_shift_bit.md R346). -/
def execSarEv1 (rm : Rm) (s : State) : Host.Outcome State Fault Refusal := run (shiftBy .sar s.osz rm 1#8) s

/-- SAR Eb,CL (43_logical_shift_bit.md R346). -/
def execSarEbCl (rm : Rm) (s : State) : Host.Outcome State Fault Refusal := run (shiftCl .sar .b rm) s

/-- SAR Ev,CL (43_logical_shift_bit.md R346). -/
def execSarEvCl (rm : Rm) (s : State) : Host.Outcome State Fault Refusal := run (shiftCl .sar s.osz rm) s

/-- SHLD Ev,Gv,Ib (43_logical_shift_bit.md R347). -/
def execShldEvGvIb (rm : Rm) (r : Reg) (imm : BitVec 8) (s : State) : Host.Outcome State Fault Refusal :=
  run (doubleShift shldResult s.osz rm r imm) s

/-- SHLD Ev,Gv,CL (43_logical_shift_bit.md R347). -/
def execShldEvGvCl (rm : Rm) (r : Reg) (s : State) : Host.Outcome State Fault Refusal :=
  run (doubleShiftCl shldResult s.osz rm r) s

/-- SHRD Ev,Gv,Ib (43_logical_shift_bit.md R348). -/
def execShrdEvGvIb (rm : Rm) (r : Reg) (imm : BitVec 8) (s : State) : Host.Outcome State Fault Refusal :=
  run (doubleShift shrdResult s.osz rm r imm) s

/-- SHRD Ev,Gv,CL (43_logical_shift_bit.md R348). -/
def execShrdEvGvCl (rm : Rm) (r : Reg) (s : State) : Host.Outcome State Fault Refusal :=
  run (doubleShiftCl shrdResult s.osz rm r) s

end Sys2Proof.Machine
end

