-- ==== Sys2Proof/Machine/StringOps.lean ====
section
/-! DEFINITION. Shared operations of the string instructions (45_string.md R400 to R406; 48_system_io.md R534, R535). -/
namespace Sys2Proof.Machine

/-- `SI_` or `DI_`: the offset an index register holds (R400). -/
def State.index (s : State) (r : Reg) : BitVec 32 := wrapOff s.attrs.a32 (s.gpr.get r)

/-- `delta`: what an element adds to an index (R400). -/
def State.delta (s : State) (sz : Size) : BitVec 32 :=
  if s.flags.DF then - BitVec.ofNat 32 sz.bytes else BitVec.ofNat 32 sz.bytes

/-- `advance` (R400). -/
def advance (sz : Size) (r : Reg) : M Unit := do
  let s ← getS
  putReg s.asz r ((s.index r + s.delta sz).setWidth s.asz.bits)

/-- Read the source element (R400). -/
def readSource (sz : Size) : M (BitVec sz.bits) := do
  let s ← getS
  lread (s.segFor .ds) (s.index .si) sz

/-- `StringStep` (R401): one element, and what becomes of a repeated instruction; `compares` marks CMPS and SCAS. -/
def stringStep (compares : Bool) (prim : M Unit) : M Done := do
  let s ← getS
  if s.pfx.rep = .none then do
    prim
    pure .normal
  else if s.reg s.asz .cx = 0#s.asz.bits then pure .normal
  else do
    prim
    let s ← getS
    let n := s.reg s.asz .cx - 1#s.asz.bits
    putReg s.asz .cx n
    if n = 0#s.asz.bits then pure .normal
    else if compares && s.pfx.rep == .rep && !s.flags.ZF then pure .normal
    else if compares && s.pfx.rep == .repne && s.flags.ZF then pure .normal
    else do
      runAgain
      pure .element

/-- One element of MOVS: both accesses are checked before the store (R402). -/
def movsElem (sz : Size) : M Unit := do
  let v ← readSource sz
  let s ← getS
  lwrite .es (s.index .di) sz v
  advance sz .si
  advance sz .di

/-- One element of CMPS (R403). -/
def cmpsElem (sz : Size) : M Unit := do
  let a ← readSource sz
  let s ← getS
  let b ← lread .es (s.index .di) sz
  putStatus (subFlags a b false).2
  advance sz .si
  advance sz .di

/-- One element of SCAS (R404). -/
def scasElem (sz : Size) : M Unit := do
  let s ← getS
  let b ← lread .es (s.index .di) sz
  putStatus (subFlags (s.reg sz .ax) b false).2
  advance sz .di

/-- One element of LODS (R405). -/
def lodsElem (sz : Size) : M Unit := do
  let v ← readSource sz
  putReg sz .ax v
  advance sz .si

/-- One element of STOS (R406). -/
def stosElem (sz : Size) : M Unit := do
  let s ← getS
  lwrite .es (s.index .di) sz (s.reg sz .ax)
  advance sz .di

/-- One element of INS: the destination is checked before the port is read (48_system_io.md R534, D50). -/
def insElem (sz : Size) : M Unit := do
  let s ← getS
  ioCheck (s.reg .w .dx) sz.bytes
  let l ← locate .es (s.index .di) sz.bytes true
  let v ← portRead sz (s.reg .w .dx)
  storeLoc l v
  advance sz .di

/-- One element of OUTS (48_system_io.md R535). -/
def outsElem (sz : Size) : M Unit := do
  let s ← getS
  ioCheck (s.reg .w .dx) sz.bytes
  let v ← readSource sz
  portWrite sz (s.reg .w .dx) v
  advance sz .si

end Sys2Proof.Machine
end

