-- ==== Sys2Proof/Machine/StringInstrs.lean ====
section
/-! DEFINITION. The meanings of string instructions (45_string.md; 48_system_io.md): one definition per constructor, over the shared operations. -/
namespace Sys2Proof.Machine

/-- INSB Yb,DX (48_system_io.md R534). -/
def execInsb (s : State) : Host.Outcome State Fault Refusal := runInstr false (stringStep false (insElem .b)) s

/-- INSW_INSD Yv,DX (48_system_io.md R534). -/
def execInsv (s : State) : Host.Outcome State Fault Refusal := runInstr false (stringStep false (insElem s.osz)) s

/-- OUTSB DX,Xb (48_system_io.md R535). -/
def execOutsb (s : State) : Host.Outcome State Fault Refusal := runInstr false (stringStep false (outsElem .b)) s

/-- OUTSW_OUTSD DX,Xv (48_system_io.md R535). -/
def execOutsv (s : State) : Host.Outcome State Fault Refusal := runInstr false (stringStep false (outsElem s.osz)) s

/-- MOVSB  (45_string.md R402). -/
def execMovsb (s : State) : Host.Outcome State Fault Refusal := runInstr false (stringStep false (movsElem .b)) s

/-- MOVSW_MOVSD  (45_string.md R402). -/
def execMovsv (s : State) : Host.Outcome State Fault Refusal := runInstr false (stringStep false (movsElem s.osz)) s

/-- CMPSB  (45_string.md R403). -/
def execCmpsb (s : State) : Host.Outcome State Fault Refusal := runInstr false (stringStep true (cmpsElem .b)) s

/-- CMPSW_CMPSD  (45_string.md R403). -/
def execCmpsv (s : State) : Host.Outcome State Fault Refusal := runInstr false (stringStep true (cmpsElem s.osz)) s

/-- STOSB  (45_string.md R406). -/
def execStosb (s : State) : Host.Outcome State Fault Refusal := runInstr false (stringStep false (stosElem .b)) s

/-- STOSW_STOSD  (45_string.md R406). -/
def execStosv (s : State) : Host.Outcome State Fault Refusal := runInstr false (stringStep false (stosElem s.osz)) s

/-- LODSB  (45_string.md R405). -/
def execLodsb (s : State) : Host.Outcome State Fault Refusal := runInstr false (stringStep false (lodsElem .b)) s

/-- LODSW_LODSD  (45_string.md R405). -/
def execLodsv (s : State) : Host.Outcome State Fault Refusal := runInstr false (stringStep false (lodsElem s.osz)) s

/-- SCASB  (45_string.md R404). -/
def execScasb (s : State) : Host.Outcome State Fault Refusal := runInstr false (stringStep true (scasElem .b)) s

/-- SCASW_SCASD  (45_string.md R404). -/
def execScasv (s : State) : Host.Outcome State Fault Refusal := runInstr false (stringStep true (scasElem s.osz)) s

end Sys2Proof.Machine
end

