-- ==== Sys2Proof/Machine/SystemOps.lean ====
section
/-! DEFINITION. Shared operations of the system instructions (48_system_io.md R490 to R527, R540 to R544;
20_memory.md R142). -/
namespace Sys2Proof.Machine

/-- The check of a privileged instruction (48_system_io.md introduction; 21_protection.md R184). -/
def privileged : M Unit := do
  let s ← getS
  require (s.cpl == 0#2) vGP (zeroCode false)

/-- Not recognised in real-address mode (70_reset_and_hazards.md R708). -/
def protectedOnly : M Unit := do
  let s ← getS
  if s.protectedMode then pure () else raiseUD

/-! ## Descriptor-table registers -/

/-- Read a pseudo-descriptor: limit, then base, whose top byte a 16-bit operand size drops (R490; 21_protection.md R172). -/
def readTable (rm : Rm) : M TableReg := do
  let m ← onlyMem rm
  privileged
  checkWhole m 6 .read
  let lim ← readPart .w m 0
  let base ← readPart .d m 2
  let s ← getS
  pure ⟨if s.attrs.o32 then base else base &&& 0x00FFFFFF#32, lim⟩

/-- Store a pseudo-descriptor; both writes are checked first (R491, D21; 21_protection.md R172). -/
def storeTable (rm : Rm) (t : TableReg) : M Unit := do
  let m ← onlyMem rm
  checkWhole m 6 .write
  let s ← getS
  let l0 ← locate (s.memSeg m) (memEa s.gpr m) 2 true
  let l1 ← locate (s.memSeg m) (memEa s.gpr m + 2#32) 4 true
  let u ← draw 8
  storeLoc l0 t.limit
  storeLoc l1 (if s.attrs.o32 then t.base else u ++ t.base.extractLsb' 0 24)

/-- LGDT (R490). -/
def loadGdt (rm : Rm) : M Unit := do
  let t ← readTable rm
  modS fun s => { s with gdtr := t }

/-- LIDT (R492). -/
def loadIdt (rm : Rm) : M Unit := do
  let t ← readTable rm
  modS fun s => { s with idtr := t }

/-- SGDT (R491). -/
def storeGdt (rm : Rm) : M Unit := do
  let s ← getS
  storeTable rm s.gdtr

/-- SIDT (R493). -/
def storeIdt (rm : Rm) : M Unit := do
  let s ← getS
  storeTable rm s.idtr

/-- LLDT (R494). -/
def loadLdt (rm : Rm) : M Unit := do
  protectedOnly
  privileged
  let sel ← readRm .w rm
  if nullSel sel then modS fun s => { s with ldtr := { s.ldtr with sel := sel, valid := false } }
  else do
    require (!tiOf sel) vGP (selCode sel false)
    let d ← fetchDescOr sel vGP (selCode sel false)
    require (d.isSystem 2#4) vGP (selCode sel false)
    require d.p vNP (selCode sel false)
    putLdt d sel

/-- SLDT (R495). -/
def storeLdt (rm : Rm) : M Unit := do
  protectedOnly
  let s ← getS
  storeWord rm s.ldtr.sel

/-- LTR: the busy bit is set with LOCK# asserted (R496; 20_memory.md R151). -/
def loadTr (rm : Rm) : M Unit := do
  protectedOnly
  privileged
  let sel ← readRm .w rm
  require (!nullSel sel) vGP (zeroCode false)
  require (!tiOf sel) vGP (selCode sel false)
  let d ← fetchDescOr sel vGP (selCode sel false)
  if d.isSystem 1#4 then halt (.refuse .format286)
  else do
    require (d.isSystem 9#4) vGP (selCode sel false)
    require d.p vNP (selCode sel false)
    let l ← resolve (d.at_ + 4#32) 4 true false
    modS fun s => { (s.store l (d.hi ||| 0x200#32)).asserting .busyBit l with tr := ⟨sel, d.base, d.limit, true⟩ }

/-- STR (R497). -/
def storeTask (rm : Rm) : M Unit := do
  protectedOnly
  let s ← getS
  storeWord rm s.tr.sel

/-! ## Control, debug and test registers -/

/-- The image of CR0: bits 30 to 5 are undefined (10_state.md R60). -/
def cr0Image : M (BitVec 32) := do
  let u ← draw 26
  let s ← getS
  let c := s.cr0
  pure (bit c.PG ++ u ++ bit c.ET ++ bit c.TS ++ bit c.EM ++ bit c.MP ++ bit c.PE)

/-- LMSW: PE can be set, not cleared (R498). -/
def loadMsw (rm : Rm) : M Unit := do
  privileged
  let v ← readRm .w rm
  modS fun s =>
    { s with cr0 := { s.cr0 with PE := s.cr0.PE || v.getLsbD 0, MP := v.getLsbD 1, EM := v.getLsbD 2, TS := v.getLsbD 3 } }

/-- SMSW (R499). -/
def storeMsw (rm : Rm) : M Unit := do
  let c ← cr0Image
  storeWord rm (c.extractLsb' 0 16)

/-- CLTS (R500). -/
def clearTs : M Unit := do
  privileged
  modS fun s => { s with cr0 := { s.cr0 with TS := false } }

/-- MOV CR0: PG needs PE, and a change of PG empties the TLB (R505). -/
def writeCr0 (v : BitVec 32) : M Unit := do
  require (!v.getLsbD 31 || v.getLsbD 0) vGP (zeroCode false)
  modS fun s =>
    let t := { s with cr0 := ⟨v.getLsbD 0, v.getLsbD 1, v.getLsbD 2, v.getLsbD 3, v.getLsbD 4, v.getLsbD 31⟩ }
    if s.cr0.PG == v.getLsbD 31 then t else t.flushTlb

/-- Control registers that exist: 0, 2, 3 (R505). -/
def crExists (n : BitVec 3) : Bool := n == 0#3 || n == 2#3 || n == 3#3

/-- MOV to a control register (R505). -/
def movToCr (n : BitVec 3) (r : Reg) : M Unit := do
  if crExists n then pure () else raiseUD
  privileged
  let v ← getReg .d r
  if n = 0#3 then writeCr0 v
  else if n = 2#3 then modS fun s => { s with cr2 := v }
  else modS fun s => { s with cr3 := v.extractLsb' 12 20 }.flushTlb
  undefStatus

/-- The image of a control register (10_state.md R60, R65, R66). -/
def crImage (n : BitVec 3) : M (BitVec 32) := do
  let s ← getS
  if n = 0#3 then cr0Image
  else if n = 2#3 then pure s.cr2
  else do
    let u ← draw 12
    pure (s.cr3 ++ u)

/-- MOV from a control register (R505). -/
def movFromCr (r : Reg) (n : BitVec 3) : M Unit := do
  if crExists n then pure () else raiseUD
  privileged
  let v ← crImage n
  putReg .d r v
  undefStatus

/-- General detect: the in-circuit emulator owns the debug registers (61_debug_coproc_multiproc.md R683). -/
def generalDetect : M Unit := do
  let s ← getS
  if s.plat.iceInUse then do
    modS fun s =>
      let d := s.dbg.report s.dbg.pending s.dbg.pendingBS s.dbg.pendingBT
      { s with dbg := { d with dr6 := d.dr6 ||| 0x2000#32 } }
    raise vDB .none
  else pure ()

/-- A debug register written; reserved bits of DR6 and DR7 are not kept (R506; 10_state.md R78, R79). -/
def Debug.write (d : Debug) (n : BitVec 3) (v : BitVec 32) : Debug :=
  match n.toNat with
  | 0 => { d with dr0 := v } | 1 => { d with dr1 := v } | 2 => { d with dr2 := v } | 3 => { d with dr3 := v }
  | 6 => { d with dr6 := v &&& 0xE00F#32 } | 7 => { d with dr7 := v &&& 0xFFFF03FF#32 } | _ => d

/-- A debug register read (R506). -/
def Debug.read (d : Debug) (n : BitVec 3) : BitVec 32 :=
  match n.toNat with
  | 0 => d.dr0 | 1 => d.dr1 | 2 => d.dr2 | 3 => d.dr3 | 6 => d.dr6 | _ => d.dr7

/-- The checks of MOV to and from a debug register: 4 and 5 are #UD (R506, D48). -/
def debugCheck (n : BitVec 3) : M Unit := do
  if n = 4#3 ∨ n = 5#3 then raiseUD else pure ()
  privileged
  generalDetect

/-- MOV to a debug register (R506). -/
def movToDr (n : BitVec 3) (r : Reg) : M Unit := do
  debugCheck n
  let v ← getReg .d r
  modS fun s => { s with dbg := s.dbg.write n v }
  undefStatus

/-- MOV from a debug register (R506). -/
def movFromDr (r : Reg) (n : BitVec 3) : M Unit := do
  debugCheck n
  let s ← getS
  putReg .d r (s.dbg.read n)
  undefStatus

/-- An attribute of a TLB command given as a bit and its complement; the undefined combinations are drawn
(10_state.md R82). -/
def tlbPair (x nx : Bool) : M Bool := if x != nx then pure x else drawBool

/-- Whether an attribute matches in a lookup; the undefined combinations are drawn (10_state.md R82). -/
def tlbPairMatches (x nx have_ : Bool) : M Bool := if x != nx then pure (x == have_) else drawBool

/-- A TLB entry of which nothing is stated: free values. -/
def drawEntry : M TlbEntry := do
  let x ← draw 64
  pure { v := x.getLsbD 0, page := x.extractLsb' 4 20, d := x.getLsbD 1, u := x.getLsbD 2, w := x.getLsbD 3,
         phys := x.extractLsb' 24 20, known := true }

/-- `n` TLB entries of which nothing is stated. -/
def drawTlb : Nat → M (List TlbEntry)
  | 0 => pure []
  | n + 1 => do
    let e ← drawEntry
    let rest ← drawTlb n
    pure (e :: rest)

/-- Another block than `block` holds the same tag, V being one of its address bits (20_memory.md R142). -/
def State.duplicateTag (s : State) (block : Nat) (page : BitVec 20) (v : Bool) : Bool :=
  [0, 1, 2, 3].any fun k =>
    let e := s.tlb.getD (tlbIndex k page) TlbEntry.empty
    k != block && e.known && e.page == page && e.v == v

/-- The TLB write command. A duplicate tag makes the whole TLB undefined (93_implementation_defined.md U11); with HT = 0 the
effect is not stated, and a draw decides whether it writes (20_memory.md R142; log entry 16). -/
def tlbWrite (c : BitVec 32) : M Unit := do
  let d ← tlbPair (c.getLsbD 10) (c.getLsbD 9)
  let u ← tlbPair (c.getLsbD 8) (c.getLsbD 7)
  let w ← tlbPair (c.getLsbD 6) (c.getLsbD 5)
  let other ← drawBool
  let s ← getS
  let page := c.extractLsb' 12 20
  let block := (s.tr7.extractLsb' 2 2).toNat
  if s.tr7.getLsbD 4 || other then
    if s.duplicateTag block page (c.getLsbD 11) then do
      let t ← drawTlb 32
      modS fun s => { s with tlb := t }
    else
      let e : TlbEntry :=
        { v := c.getLsbD 11, page := page, d := d, u := u, w := w, phys := s.tr7.extractLsb' 12 20, known := true }
      modS fun s => { s with tlb := s.tlb.set (tlbIndex block page) e }
  else pure ()

/-- Whether one block's entry matches a lookup request (20_memory.md R142). -/
def tlbProbe (c : BitVec 32) (block : Nat) : M (Option (Nat × TlbEntry)) := do
  let s ← getS
  let page := c.extractLsb' 12 20
  let e := s.tlb.getD (tlbIndex block page) TlbEntry.empty
  let d ← tlbPairMatches (c.getLsbD 10) (c.getLsbD 9) e.d
  let u ← tlbPairMatches (c.getLsbD 8) (c.getLsbD 7) e.u
  let w ← tlbPairMatches (c.getLsbD 6) (c.getLsbD 5) e.w
  pure (if e.v == c.getLsbD 11 && e.page == page && d && u && w then some (block, e) else none)

/-- TR6 after a lookup that hit: the entry's attributes with their complements (10_state.md R82). -/
def tlbTag (e : TlbEntry) : BitVec 32 :=
  e.page ++ bit e.v ++ bit e.d ++ bit (!e.d) ++ bit e.u ++ bit (!e.u) ++ bit e.w ++ bit (!e.w) ++ 0#4 ++ 1#1

/-- A lookup with V = 0 while some tag is uninitialized is unpredictable (20_memory.md R142; 93_implementation_defined.md U12). -/
def State.lookupOpen (s : State) (c : BitVec 32) : Bool := !c.getLsbD 11 && s.tlb.any fun e => !e.known

/-- The TLB lookup command: one match fills TR6 and TR7; a miss clears HT; the rest is indeterminate, and so is HT when
several entries match or the lookup is unpredictable (20_memory.md R142; log entry 16). -/
def tlbLookup (c : BitVec 32) : M Unit := do
  let m0 ← tlbProbe c 0
  let m1 ← tlbProbe c 1
  let m2 ← tlbProbe c 2
  let m3 ← tlbProbe c 3
  let phys ← draw 20
  let rep ← draw 2
  let ht ← drawBool
  let s ← getS
  if s.lookupOpen c then modS fun s => { s with tr7 := phys ++ 0#7 ++ bit ht ++ rep ++ 0#2 }
  else match [m0, m1, m2, m3].filterMap id with
  | [(k, e)] => modS fun s =>
    { s with tr6 := tlbTag e, tr7 := e.phys ++ 0#7 ++ 1#1 ++ BitVec.ofNat 2 k ++ 0#2 }
  | [] => modS fun s => { s with tr7 := phys ++ 0#7 ++ 0#1 ++ rep ++ 0#2 }
  | _ => modS fun s => { s with tr7 := phys ++ 0#7 ++ bit ht ++ rep ++ 0#2 }

/-- The checks of MOV to and from a test register (R507). -/
def testCheck (n : BitVec 3) : M Unit := do
  if n = 6#3 ∨ n = 7#3 then pure () else raiseUD
  privileged

/-- MOV to a test register: a write of TR6 performs its TLB command (R507; 20_memory.md R142). -/
def movToTr (n : BitVec 3) (r : Reg) : M Unit := do
  testCheck n
  let v ← getReg .d r
  if n = 6#3 then do
    modS fun s => { s with tr6 := v &&& 0xFFFFFFE1#32 }
    if v.getLsbD 0 then tlbLookup v else tlbWrite v
  else modS fun s => { s with tr7 := v &&& 0xFFFFF01C#32 }
  undefStatus

/-- MOV from a test register (R507). -/
def movFromTr (r : Reg) (n : BitVec 3) : M Unit := do
  testCheck n
  let s ← getS
  putReg .d r (if n = 6#3 then s.tr6 else s.tr7)
  undefStatus

/-! ## HLT, CLI, STI -/

/-- HLT (R510). -/
def haltCpu : M Unit := do
  privileged
  modS fun s => { s with run := .halted }

/-- The check of CLI and STI (R526). -/
def ioplCheck : M Unit := do
  let s ← getS
  require (!s.protectedMode || decide (s.cpl.toNat ≤ s.flags.IOPL.toNat)) vGP (zeroCode false)

/-- CLI (R526). -/
def clearIf : M Unit := do
  ioplCheck
  modFlags fun f => { f with IF := false }

/-- STI: the shadow opens when IF goes from 0 to 1 (R527, D49). -/
def setIf : M Done := do
  ioplCheck
  let s ← getS
  modFlags fun f => { f with IF := true }
  pure (if s.flags.IF then .normal else .opensSti)

/-! ## Selector tests -/

/-- ARPL (R540). -/
def adjustRpl (rm : Rm) (r : Reg) : M Unit := do
  protectedOnly
  let d ← readRm .w rm
  let v ← getReg .w r
  if (rplOf d).toNat < (rplOf v).toNat then do
    writeRm .w rm (withRpl d (rplOf v))
    modFlags fun f => { f with ZF := true }
  else modFlags fun f => { f with ZF := false }

/-- The privilege rule of the selector tests (R541). -/
def Desc.visible (d : Desc) (cpl rpl : BitVec 2) : Bool := d.isConforming || dataPrivOk cpl rpl d.dpl

/-- A selector's descriptor if the selector is not null, is inside its table, and the descriptor passes a test. -/
def selectorTest (rm : Rm) (ok : BitVec 2 → BitVec 2 → Desc → Bool) : M (Option Desc) := do
  protectedOnly
  let sel ← readRm .w rm
  if nullSel sel then pure none
  else do
    let d? ← fetchDesc sel
    let s ← getS
    match d? with
    | none => pure none
    | some d => pure (if ok s.cpl (rplOf sel) d then some d else none)

/-- What a selector test that found its descriptor does last: ZF, and the accessed bit by `SELTEST_SETS_ACCESSED`, written with
LOCK# asserted (R541, D28). -/
def testPassed (d : Desc) : M Unit := do
  let s ← getS
  modFlags fun f => { f with ZF := true }
  if s.plat.seltestSetsAccessed && d.s && !d.hi.getLsbD 8 then setAccessed d else pure ()

/-- What a selector test that failed does. -/
def testFailed : M Unit := modFlags fun f => { f with ZF := false }

/-- Types LAR reports: every one but the invalid 0, 8, 0AH, 0DH (R541). -/
def larOk (cpl rpl : BitVec 2) (d : Desc) : Bool :=
  (d.s || !(d.typ == 0#4 || d.typ == 8#4 || d.typ == 0xA#4 || d.typ == 0xD#4)) && d.visible cpl rpl

/-- Types LSL reports: segments, LDT, TSS (R542, Table 6-4). -/
def lslOk (cpl rpl : BitVec 2) (d : Desc) : Bool :=
  (d.s || d.typ == 1#4 || d.typ == 2#4 || d.typ == 3#4 || d.typ == 9#4 || d.typ == 0xB#4) && d.visible cpl rpl

/-- VERR's test (R543). -/
def verrOk (cpl rpl : BitVec 2) (d : Desc) : Bool := d.isReadable && d.visible cpl rpl

/-- VERW's test (R544). -/
def verwOk (cpl rpl : BitVec 2) (d : Desc) : Bool := d.isWritableData && d.visible cpl rpl

/-- LAR (R541). -/
def loadRights (sz : Size) (r : Reg) (rm : Rm) : M Unit := do
  let d? ← selectorTest rm larOk
  match d? with
  | none => testFailed
  | some d => do
    let u ← draw 4
    putReg sz r (((d.hi &&& 0x00F0FF00#32) ||| (0#12 ++ u ++ 0#16)).setWidth sz.bits)
    testPassed d

/-- LSL (R542). -/
def loadLimit (sz : Size) (r : Reg) (rm : Rm) : M Unit := do
  let d? ← selectorTest rm lslOk
  match d? with
  | none => testFailed
  | some d => do
    putReg sz r (d.limit.setWidth sz.bits)
    testPassed d

/-- VERR and VERW (R543, R544). -/
def verify (ok : BitVec 2 → BitVec 2 → Desc → Bool) (rm : Rm) : M Unit := do
  let d? ← selectorTest rm ok
  match d? with
  | none => testFailed
  | some d => testPassed d

end Sys2Proof.Machine
end

