-- ==== Sys2Proof/Machine/SystemInstrs.lean ====
section
/-! DEFINITION. The meanings of system instructions (48_system_io.md): one definition per constructor, over the shared operations. -/
namespace Sys2Proof.Machine

/-- ARPL Ew,Gw (48_system_io.md R540). -/
def execArplEwGw (rm : Rm) (r : Reg) (s : State) : Host.Outcome State Fault Refusal := run (adjustRpl rm r) s

/-- SLDT Ew (48_system_io.md R495). -/
def execSldtEw (rm : Rm) (s : State) : Host.Outcome State Fault Refusal := run (storeLdt rm) s

/-- STR Ew (48_system_io.md R497). -/
def execStrEw (rm : Rm) (s : State) : Host.Outcome State Fault Refusal := run (storeTask rm) s

/-- LLDT Ew (48_system_io.md R494). -/
def execLldtEw (rm : Rm) (s : State) : Host.Outcome State Fault Refusal := run (loadLdt rm) s

/-- LTR Ew (48_system_io.md R496). -/
def execLtrEw (rm : Rm) (s : State) : Host.Outcome State Fault Refusal := run (loadTr rm) s

/-- VERR Ew (48_system_io.md R543). -/
def execVerrEw (rm : Rm) (s : State) : Host.Outcome State Fault Refusal := run (verify verrOk rm) s

/-- VERW Ew (48_system_io.md R544). -/
def execVerwEw (rm : Rm) (s : State) : Host.Outcome State Fault Refusal := run (verify verwOk rm) s

/-- SGDT Ms (48_system_io.md R491). -/
def execSgdtMs (rm : Rm) (s : State) : Host.Outcome State Fault Refusal := run (storeGdt rm) s

/-- SIDT Ms (48_system_io.md R493). -/
def execSidtMs (rm : Rm) (s : State) : Host.Outcome State Fault Refusal := run (storeIdt rm) s

/-- LGDT Ms (48_system_io.md R490). -/
def execLgdtMs (rm : Rm) (s : State) : Host.Outcome State Fault Refusal := run (loadGdt rm) s

/-- LIDT Ms (48_system_io.md R492). -/
def execLidtMs (rm : Rm) (s : State) : Host.Outcome State Fault Refusal := run (loadIdt rm) s

/-- SMSW Ew (48_system_io.md R499). -/
def execSmswEw (rm : Rm) (s : State) : Host.Outcome State Fault Refusal := run (storeMsw rm) s

/-- LMSW Ew (48_system_io.md R498). -/
def execLmswEw (rm : Rm) (s : State) : Host.Outcome State Fault Refusal := run (loadMsw rm) s

/-- LAR Gv,Ew (48_system_io.md R541). -/
def execLarGvEw (r : Reg) (rm : Rm) (s : State) : Host.Outcome State Fault Refusal := run (loadRights s.osz r rm) s

/-- LSL Gv,Ew (48_system_io.md R542). -/
def execLslGvEw (r : Reg) (rm : Rm) (s : State) : Host.Outcome State Fault Refusal := run (loadLimit s.osz r rm) s

/-- MOV Rd,Cd (48_system_io.md R505). -/
def execMovRdCd (r : Reg) (n : BitVec 3) (s : State) : Host.Outcome State Fault Refusal := run (movFromCr r n) s

/-- MOV Rd,Dd (48_system_io.md R506). -/
def execMovRdDd (r : Reg) (n : BitVec 3) (s : State) : Host.Outcome State Fault Refusal := run (movFromDr r n) s

/-- MOV Cd,Rd (48_system_io.md R505). -/
def execMovCdRd (n : BitVec 3) (r : Reg) (s : State) : Host.Outcome State Fault Refusal := run (movToCr n r) s

/-- MOV Dd,Rd (48_system_io.md R506). -/
def execMovDdRd (n : BitVec 3) (r : Reg) (s : State) : Host.Outcome State Fault Refusal := run (movToDr n r) s

/-- MOV Rd,Td (48_system_io.md R507). -/
def execMovRdTd (r : Reg) (n : BitVec 3) (s : State) : Host.Outcome State Fault Refusal := run (movFromTr r n) s

/-- MOV Td,Rd (48_system_io.md R507). -/
def execMovTdRd (n : BitVec 3) (r : Reg) (s : State) : Host.Outcome State Fault Refusal := run (movToTr n r) s

/-- HLT  (48_system_io.md R510). -/
def execHlt (s : State) : Host.Outcome State Fault Refusal := run (haltCpu) s

/-- CLI  (48_system_io.md R526). -/
def execCli (s : State) : Host.Outcome State Fault Refusal := run (clearIf) s

/-- STI  (48_system_io.md R527). -/
def execSti (s : State) : Host.Outcome State Fault Refusal := runInstr false (setIf) s

/-- CLTS  (48_system_io.md R500). -/
def execClts (s : State) : Host.Outcome State Fault Refusal := run (clearTs) s

end Sys2Proof.Machine
end

