-- ==== Sys2Proof/Machine/Dispatch.lean ====
section
/-! DEFINITION. Dispatch: one arm per constructor of Instr, each one direct call of a meaning. -/
namespace Sys2Proof.Machine

def exec (i : Instr) (s : State) : Host.Outcome State Fault Refusal :=
  match i with
  | .addEbGb rm r => Sys2Proof.Machine.execAddEbGb rm r s
  | .addEvGv rm r => Sys2Proof.Machine.execAddEvGv rm r s
  | .addGbEb r rm => Sys2Proof.Machine.execAddGbEb r rm s
  | .addGvEv r rm => Sys2Proof.Machine.execAddGvEv r rm s
  | .addAlIb imm => Sys2Proof.Machine.execAddAlIb imm s
  | .addEaxIv imm => Sys2Proof.Machine.execAddEaxIv imm s
  | .orEbGb rm r => Sys2Proof.Machine.execOrEbGb rm r s
  | .orEvGv rm r => Sys2Proof.Machine.execOrEvGv rm r s
  | .orGbEb r rm => Sys2Proof.Machine.execOrGbEb r rm s
  | .orGvEv r rm => Sys2Proof.Machine.execOrGvEv r rm s
  | .orAlIb imm => Sys2Proof.Machine.execOrAlIb imm s
  | .orEaxIv imm => Sys2Proof.Machine.execOrEaxIv imm s
  | .adcEbGb rm r => Sys2Proof.Machine.execAdcEbGb rm r s
  | .adcEvGv rm r => Sys2Proof.Machine.execAdcEvGv rm r s
  | .adcGbEb r rm => Sys2Proof.Machine.execAdcGbEb r rm s
  | .adcGvEv r rm => Sys2Proof.Machine.execAdcGvEv r rm s
  | .adcAlIb imm => Sys2Proof.Machine.execAdcAlIb imm s
  | .adcEaxIv imm => Sys2Proof.Machine.execAdcEaxIv imm s
  | .sbbEbGb rm r => Sys2Proof.Machine.execSbbEbGb rm r s
  | .sbbEvGv rm r => Sys2Proof.Machine.execSbbEvGv rm r s
  | .sbbGbEb r rm => Sys2Proof.Machine.execSbbGbEb r rm s
  | .sbbGvEv r rm => Sys2Proof.Machine.execSbbGvEv r rm s
  | .sbbAlIb imm => Sys2Proof.Machine.execSbbAlIb imm s
  | .sbbEaxIv imm => Sys2Proof.Machine.execSbbEaxIv imm s
  | .andEbGb rm r => Sys2Proof.Machine.execAndEbGb rm r s
  | .andEvGv rm r => Sys2Proof.Machine.execAndEvGv rm r s
  | .andGbEb r rm => Sys2Proof.Machine.execAndGbEb r rm s
  | .andGvEv r rm => Sys2Proof.Machine.execAndGvEv r rm s
  | .andAlIb imm => Sys2Proof.Machine.execAndAlIb imm s
  | .andEaxIv imm => Sys2Proof.Machine.execAndEaxIv imm s
  | .subEbGb rm r => Sys2Proof.Machine.execSubEbGb rm r s
  | .subEvGv rm r => Sys2Proof.Machine.execSubEvGv rm r s
  | .subGbEb r rm => Sys2Proof.Machine.execSubGbEb r rm s
  | .subGvEv r rm => Sys2Proof.Machine.execSubGvEv r rm s
  | .subAlIb imm => Sys2Proof.Machine.execSubAlIb imm s
  | .subEaxIv imm => Sys2Proof.Machine.execSubEaxIv imm s
  | .xorEbGb rm r => Sys2Proof.Machine.execXorEbGb rm r s
  | .xorEvGv rm r => Sys2Proof.Machine.execXorEvGv rm r s
  | .xorGbEb r rm => Sys2Proof.Machine.execXorGbEb r rm s
  | .xorGvEv r rm => Sys2Proof.Machine.execXorGvEv r rm s
  | .xorAlIb imm => Sys2Proof.Machine.execXorAlIb imm s
  | .xorEaxIv imm => Sys2Proof.Machine.execXorEaxIv imm s
  | .cmpEbGb rm r => Sys2Proof.Machine.execCmpEbGb rm r s
  | .cmpEvGv rm r => Sys2Proof.Machine.execCmpEvGv rm r s
  | .cmpGbEb r rm => Sys2Proof.Machine.execCmpGbEb r rm s
  | .cmpGvEv r rm => Sys2Proof.Machine.execCmpGvEv r rm s
  | .cmpAlIb imm => Sys2Proof.Machine.execCmpAlIb imm s
  | .cmpEaxIv imm => Sys2Proof.Machine.execCmpEaxIv imm s
  | .addEbIb rm imm => Sys2Proof.Machine.execAddEbIb rm imm s
  | .addEvIv rm imm => Sys2Proof.Machine.execAddEvIv rm imm s
  | .addEvIb rm imm => Sys2Proof.Machine.execAddEvIb rm imm s
  | .orEbIb rm imm => Sys2Proof.Machine.execOrEbIb rm imm s
  | .orEvIv rm imm => Sys2Proof.Machine.execOrEvIv rm imm s
  | .orEvIb rm imm => Sys2Proof.Machine.execOrEvIb rm imm s
  | .adcEbIb rm imm => Sys2Proof.Machine.execAdcEbIb rm imm s
  | .adcEvIv rm imm => Sys2Proof.Machine.execAdcEvIv rm imm s
  | .adcEvIb rm imm => Sys2Proof.Machine.execAdcEvIb rm imm s
  | .sbbEbIb rm imm => Sys2Proof.Machine.execSbbEbIb rm imm s
  | .sbbEvIv rm imm => Sys2Proof.Machine.execSbbEvIv rm imm s
  | .sbbEvIb rm imm => Sys2Proof.Machine.execSbbEvIb rm imm s
  | .andEbIb rm imm => Sys2Proof.Machine.execAndEbIb rm imm s
  | .andEvIv rm imm => Sys2Proof.Machine.execAndEvIv rm imm s
  | .andEvIb rm imm => Sys2Proof.Machine.execAndEvIb rm imm s
  | .subEbIb rm imm => Sys2Proof.Machine.execSubEbIb rm imm s
  | .subEvIv rm imm => Sys2Proof.Machine.execSubEvIv rm imm s
  | .subEvIb rm imm => Sys2Proof.Machine.execSubEvIb rm imm s
  | .xorEbIb rm imm => Sys2Proof.Machine.execXorEbIb rm imm s
  | .xorEvIv rm imm => Sys2Proof.Machine.execXorEvIv rm imm s
  | .xorEvIb rm imm => Sys2Proof.Machine.execXorEvIb rm imm s
  | .cmpEbIb rm imm => Sys2Proof.Machine.execCmpEbIb rm imm s
  | .cmpEvIv rm imm => Sys2Proof.Machine.execCmpEvIv rm imm s
  | .cmpEvIb rm imm => Sys2Proof.Machine.execCmpEvIb rm imm s
  | .aam imm => Sys2Proof.Machine.execAam imm s
  | .aad imm => Sys2Proof.Machine.execAad imm s
  | .incReg r => Sys2Proof.Machine.execIncReg r s
  | .decReg r => Sys2Proof.Machine.execDecReg r s
  | .pushReg r => Sys2Proof.Machine.execPushReg r s
  | .popReg r => Sys2Proof.Machine.execPopReg r s
  | .boundGvMa r rm => Sys2Proof.Machine.execBoundGvMa r rm s
  | .arplEwGw rm r => Sys2Proof.Machine.execArplEwGw rm r s
  | .pushIv imm => Sys2Proof.Machine.execPushIv imm s
  | .imulGvEvIv r rm imm => Sys2Proof.Machine.execImulGvEvIv r rm imm s
  | .pushIb imm => Sys2Proof.Machine.execPushIb imm s
  | .imulGvEvIb r rm imm => Sys2Proof.Machine.execImulGvEvIb r rm imm s
  | .jccJb cc imm => Sys2Proof.Machine.execJccJb cc imm s
  | .testEbGb rm r => Sys2Proof.Machine.execTestEbGb rm r s
  | .testEvGv rm r => Sys2Proof.Machine.execTestEvGv rm r s
  | .xchgEbGb rm r => Sys2Proof.Machine.execXchgEbGb rm r s
  | .xchgEvGv rm r => Sys2Proof.Machine.execXchgEvGv rm r s
  | .movEbGb rm r => Sys2Proof.Machine.execMovEbGb rm r s
  | .movEvGv rm r => Sys2Proof.Machine.execMovEvGv rm r s
  | .movGbEb r rm => Sys2Proof.Machine.execMovGbEb r rm s
  | .movGvEv r rm => Sys2Proof.Machine.execMovGvEv r rm s
  | .movEwSw rm n => Sys2Proof.Machine.execMovEwSw rm n s
  | .leaGvM r rm => Sys2Proof.Machine.execLeaGvM r rm s
  | .movSwEw n rm => Sys2Proof.Machine.execMovSwEw n rm s
  | .popEv rm => Sys2Proof.Machine.execPopEv rm s
  | .xchgEaxReg r => Sys2Proof.Machine.execXchgEaxReg r s
  | .callFarAp off sel => Sys2Proof.Machine.execCallFarAp off sel s
  | .movAlOb off => Sys2Proof.Machine.execMovAlOb off s
  | .movEaxOv off => Sys2Proof.Machine.execMovEaxOv off s
  | .movObAl off => Sys2Proof.Machine.execMovObAl off s
  | .movOvEax off => Sys2Proof.Machine.execMovOvEax off s
  | .testAlIb imm => Sys2Proof.Machine.execTestAlIb imm s
  | .testEaxIv imm => Sys2Proof.Machine.execTestEaxIv imm s
  | .movR8Ib r imm => Sys2Proof.Machine.execMovR8Ib r imm s
  | .movRegIv r imm => Sys2Proof.Machine.execMovRegIv r imm s
  | .rolEbIb rm imm => Sys2Proof.Machine.execRolEbIb rm imm s
  | .rolEvIb rm imm => Sys2Proof.Machine.execRolEvIb rm imm s
  | .rolEb1 rm => Sys2Proof.Machine.execRolEb1 rm s
  | .rolEv1 rm => Sys2Proof.Machine.execRolEv1 rm s
  | .rolEbCl rm => Sys2Proof.Machine.execRolEbCl rm s
  | .rolEvCl rm => Sys2Proof.Machine.execRolEvCl rm s
  | .rorEbIb rm imm => Sys2Proof.Machine.execRorEbIb rm imm s
  | .rorEvIb rm imm => Sys2Proof.Machine.execRorEvIb rm imm s
  | .rorEb1 rm => Sys2Proof.Machine.execRorEb1 rm s
  | .rorEv1 rm => Sys2Proof.Machine.execRorEv1 rm s
  | .rorEbCl rm => Sys2Proof.Machine.execRorEbCl rm s
  | .rorEvCl rm => Sys2Proof.Machine.execRorEvCl rm s
  | .rclEbIb rm imm => Sys2Proof.Machine.execRclEbIb rm imm s
  | .rclEvIb rm imm => Sys2Proof.Machine.execRclEvIb rm imm s
  | .rclEb1 rm => Sys2Proof.Machine.execRclEb1 rm s
  | .rclEv1 rm => Sys2Proof.Machine.execRclEv1 rm s
  | .rclEbCl rm => Sys2Proof.Machine.execRclEbCl rm s
  | .rclEvCl rm => Sys2Proof.Machine.execRclEvCl rm s
  | .rcrEbIb rm imm => Sys2Proof.Machine.execRcrEbIb rm imm s
  | .rcrEvIb rm imm => Sys2Proof.Machine.execRcrEvIb rm imm s
  | .rcrEb1 rm => Sys2Proof.Machine.execRcrEb1 rm s
  | .rcrEv1 rm => Sys2Proof.Machine.execRcrEv1 rm s
  | .rcrEbCl rm => Sys2Proof.Machine.execRcrEbCl rm s
  | .rcrEvCl rm => Sys2Proof.Machine.execRcrEvCl rm s
  | .shlEbIb rm imm => Sys2Proof.Machine.execShlEbIb rm imm s
  | .shlEvIb rm imm => Sys2Proof.Machine.execShlEvIb rm imm s
  | .shlEb1 rm => Sys2Proof.Machine.execShlEb1 rm s
  | .shlEv1 rm => Sys2Proof.Machine.execShlEv1 rm s
  | .shlEbCl rm => Sys2Proof.Machine.execShlEbCl rm s
  | .shlEvCl rm => Sys2Proof.Machine.execShlEvCl rm s
  | .shrEbIb rm imm => Sys2Proof.Machine.execShrEbIb rm imm s
  | .shrEvIb rm imm => Sys2Proof.Machine.execShrEvIb rm imm s
  | .shrEb1 rm => Sys2Proof.Machine.execShrEb1 rm s
  | .shrEv1 rm => Sys2Proof.Machine.execShrEv1 rm s
  | .shrEbCl rm => Sys2Proof.Machine.execShrEbCl rm s
  | .shrEvCl rm => Sys2Proof.Machine.execShrEvCl rm s
  | .sarEbIb rm imm => Sys2Proof.Machine.execSarEbIb rm imm s
  | .sarEvIb rm imm => Sys2Proof.Machine.execSarEvIb rm imm s
  | .sarEb1 rm => Sys2Proof.Machine.execSarEb1 rm s
  | .sarEv1 rm => Sys2Proof.Machine.execSarEv1 rm s
  | .sarEbCl rm => Sys2Proof.Machine.execSarEbCl rm s
  | .sarEvCl rm => Sys2Proof.Machine.execSarEvCl rm s
  | .retNearIw imm => Sys2Proof.Machine.execRetNearIw imm s
  | .lesGvMp r rm => Sys2Proof.Machine.execLesGvMp r rm s
  | .ldsGvMp r rm => Sys2Proof.Machine.execLdsGvMp r rm s
  | .movEbIb rm imm => Sys2Proof.Machine.execMovEbIb rm imm s
  | .movEvIv rm imm => Sys2Proof.Machine.execMovEvIv rm imm s
  | .enter imm lvl => Sys2Proof.Machine.execEnter imm lvl s
  | .retFarIw imm => Sys2Proof.Machine.execRetFarIw imm s
  | .intIb imm => Sys2Proof.Machine.execIntIb imm s
  | .esc op n rm => Sys2Proof.Machine.execEsc op n rm s
  | .loopne imm => Sys2Proof.Machine.execLoopne imm s
  | .loope imm => Sys2Proof.Machine.execLoope imm s
  | .loop imm => Sys2Proof.Machine.execLoop imm s
  | .jcxz imm => Sys2Proof.Machine.execJcxz imm s
  | .inAlIb imm => Sys2Proof.Machine.execInAlIb imm s
  | .inEaxIb imm => Sys2Proof.Machine.execInEaxIb imm s
  | .outIbAl imm => Sys2Proof.Machine.execOutIbAl imm s
  | .outIbEax imm => Sys2Proof.Machine.execOutIbEax imm s
  | .callJv imm => Sys2Proof.Machine.execCallJv imm s
  | .jmpJv imm => Sys2Proof.Machine.execJmpJv imm s
  | .jmpFarAp off sel => Sys2Proof.Machine.execJmpFarAp off sel s
  | .jmpJb imm => Sys2Proof.Machine.execJmpJb imm s
  | .testEbIb rm imm => Sys2Proof.Machine.execTestEbIb rm imm s
  | .testEvIv rm imm => Sys2Proof.Machine.execTestEvIv rm imm s
  | .notEb rm => Sys2Proof.Machine.execNotEb rm s
  | .notEv rm => Sys2Proof.Machine.execNotEv rm s
  | .negEb rm => Sys2Proof.Machine.execNegEb rm s
  | .negEv rm => Sys2Proof.Machine.execNegEv rm s
  | .mulEb rm => Sys2Proof.Machine.execMulEb rm s
  | .mulEv rm => Sys2Proof.Machine.execMulEv rm s
  | .imulEb rm => Sys2Proof.Machine.execImulEb rm s
  | .imulEv rm => Sys2Proof.Machine.execImulEv rm s
  | .divEb rm => Sys2Proof.Machine.execDivEb rm s
  | .divEv rm => Sys2Proof.Machine.execDivEv rm s
  | .idivEb rm => Sys2Proof.Machine.execIdivEb rm s
  | .idivEv rm => Sys2Proof.Machine.execIdivEv rm s
  | .incEb rm => Sys2Proof.Machine.execIncEb rm s
  | .decEb rm => Sys2Proof.Machine.execDecEb rm s
  | .incEv rm => Sys2Proof.Machine.execIncEv rm s
  | .decEv rm => Sys2Proof.Machine.execDecEv rm s
  | .callNearEv rm => Sys2Proof.Machine.execCallNearEv rm s
  | .callFarMp rm => Sys2Proof.Machine.execCallFarMp rm s
  | .jmpNearEv rm => Sys2Proof.Machine.execJmpNearEv rm s
  | .jmpFarMp rm => Sys2Proof.Machine.execJmpFarMp rm s
  | .pushEv rm => Sys2Proof.Machine.execPushEv rm s
  | .sldtEw rm => Sys2Proof.Machine.execSldtEw rm s
  | .strEw rm => Sys2Proof.Machine.execStrEw rm s
  | .lldtEw rm => Sys2Proof.Machine.execLldtEw rm s
  | .ltrEw rm => Sys2Proof.Machine.execLtrEw rm s
  | .verrEw rm => Sys2Proof.Machine.execVerrEw rm s
  | .verwEw rm => Sys2Proof.Machine.execVerwEw rm s
  | .sgdtMs rm => Sys2Proof.Machine.execSgdtMs rm s
  | .sidtMs rm => Sys2Proof.Machine.execSidtMs rm s
  | .lgdtMs rm => Sys2Proof.Machine.execLgdtMs rm s
  | .lidtMs rm => Sys2Proof.Machine.execLidtMs rm s
  | .smswEw rm => Sys2Proof.Machine.execSmswEw rm s
  | .lmswEw rm => Sys2Proof.Machine.execLmswEw rm s
  | .larGvEw r rm => Sys2Proof.Machine.execLarGvEw r rm s
  | .lslGvEw r rm => Sys2Proof.Machine.execLslGvEw r rm s
  | .movRdCd r n => Sys2Proof.Machine.execMovRdCd r n s
  | .movRdDd r n => Sys2Proof.Machine.execMovRdDd r n s
  | .movCdRd n r => Sys2Proof.Machine.execMovCdRd n r s
  | .movDdRd n r => Sys2Proof.Machine.execMovDdRd n r s
  | .movRdTd r n => Sys2Proof.Machine.execMovRdTd r n s
  | .movTdRd n r => Sys2Proof.Machine.execMovTdRd n r s
  | .jccJv cc imm => Sys2Proof.Machine.execJccJv cc imm s
  | .setccEb cc rm => Sys2Proof.Machine.execSetccEb cc rm s
  | .btEvGv rm r => Sys2Proof.Machine.execBtEvGv rm r s
  | .shldEvGvIb rm r imm => Sys2Proof.Machine.execShldEvGvIb rm r imm s
  | .shldEvGvCl rm r => Sys2Proof.Machine.execShldEvGvCl rm r s
  | .btsEvGv rm r => Sys2Proof.Machine.execBtsEvGv rm r s
  | .shrdEvGvIb rm r imm => Sys2Proof.Machine.execShrdEvGvIb rm r imm s
  | .shrdEvGvCl rm r => Sys2Proof.Machine.execShrdEvGvCl rm r s
  | .imulGvEv r rm => Sys2Proof.Machine.execImulGvEv r rm s
  | .lssGvMp r rm => Sys2Proof.Machine.execLssGvMp r rm s
  | .btrEvGv rm r => Sys2Proof.Machine.execBtrEvGv rm r s
  | .lfsGvMp r rm => Sys2Proof.Machine.execLfsGvMp r rm s
  | .lgsGvMp r rm => Sys2Proof.Machine.execLgsGvMp r rm s
  | .movzxGvEb r rm => Sys2Proof.Machine.execMovzxGvEb r rm s
  | .movzxGdEw r rm => Sys2Proof.Machine.execMovzxGdEw r rm s
  | .btEvIb rm imm => Sys2Proof.Machine.execBtEvIb rm imm s
  | .btsEvIb rm imm => Sys2Proof.Machine.execBtsEvIb rm imm s
  | .btrEvIb rm imm => Sys2Proof.Machine.execBtrEvIb rm imm s
  | .btcEvIb rm imm => Sys2Proof.Machine.execBtcEvIb rm imm s
  | .btcEvGv rm r => Sys2Proof.Machine.execBtcEvGv rm r s
  | .bsfGvEv r rm => Sys2Proof.Machine.execBsfGvEv r rm s
  | .bsrGvEv r rm => Sys2Proof.Machine.execBsrGvEv r rm s
  | .movsxGvEb r rm => Sys2Proof.Machine.execMovsxGvEb r rm s
  | .movsxGdEw r rm => Sys2Proof.Machine.execMovsxGdEw r rm s
  | .pushEs => Sys2Proof.Machine.execPushEs s
  | .popEs => Sys2Proof.Machine.execPopEs s
  | .pushCs => Sys2Proof.Machine.execPushCs s
  | .pushSs => Sys2Proof.Machine.execPushSs s
  | .popSs => Sys2Proof.Machine.execPopSs s
  | .pushDs => Sys2Proof.Machine.execPushDs s
  | .popDs => Sys2Proof.Machine.execPopDs s
  | .pushFs => Sys2Proof.Machine.execPushFs s
  | .popFs => Sys2Proof.Machine.execPopFs s
  | .pushGs => Sys2Proof.Machine.execPushGs s
  | .popGs => Sys2Proof.Machine.execPopGs s
  | .prefixEs => Sys2Proof.Machine.execPrefixEs s
  | .prefixCs => Sys2Proof.Machine.execPrefixCs s
  | .prefixSs => Sys2Proof.Machine.execPrefixSs s
  | .prefixDs => Sys2Proof.Machine.execPrefixDs s
  | .prefixFs => Sys2Proof.Machine.execPrefixFs s
  | .prefixGs => Sys2Proof.Machine.execPrefixGs s
  | .prefixOpsize => Sys2Proof.Machine.execPrefixOpsize s
  | .prefixAdsize => Sys2Proof.Machine.execPrefixAdsize s
  | .prefixLock => Sys2Proof.Machine.execPrefixLock s
  | .prefixRepne => Sys2Proof.Machine.execPrefixRepne s
  | .prefixRep => Sys2Proof.Machine.execPrefixRep s
  | .daa => Sys2Proof.Machine.execDaa s
  | .das => Sys2Proof.Machine.execDas s
  | .aaa => Sys2Proof.Machine.execAaa s
  | .aas => Sys2Proof.Machine.execAas s
  | .pusha => Sys2Proof.Machine.execPusha s
  | .popa => Sys2Proof.Machine.execPopa s
  | .insb => Sys2Proof.Machine.execInsb s
  | .insv => Sys2Proof.Machine.execInsv s
  | .outsb => Sys2Proof.Machine.execOutsb s
  | .outsv => Sys2Proof.Machine.execOutsv s
  | .nop => Sys2Proof.Machine.execNop s
  | .cbwCwde => Sys2Proof.Machine.execCbwCwde s
  | .cwdCdq => Sys2Proof.Machine.execCwdCdq s
  | .wait => Sys2Proof.Machine.execWait s
  | .pushf => Sys2Proof.Machine.execPushf s
  | .popf => Sys2Proof.Machine.execPopf s
  | .sahf => Sys2Proof.Machine.execSahf s
  | .lahf => Sys2Proof.Machine.execLahf s
  | .movsb => Sys2Proof.Machine.execMovsb s
  | .movsv => Sys2Proof.Machine.execMovsv s
  | .cmpsb => Sys2Proof.Machine.execCmpsb s
  | .cmpsv => Sys2Proof.Machine.execCmpsv s
  | .stosb => Sys2Proof.Machine.execStosb s
  | .stosv => Sys2Proof.Machine.execStosv s
  | .lodsb => Sys2Proof.Machine.execLodsb s
  | .lodsv => Sys2Proof.Machine.execLodsv s
  | .scasb => Sys2Proof.Machine.execScasb s
  | .scasv => Sys2Proof.Machine.execScasv s
  | .retNear => Sys2Proof.Machine.execRetNear s
  | .leave => Sys2Proof.Machine.execLeave s
  | .retFar => Sys2Proof.Machine.execRetFar s
  | .int3 => Sys2Proof.Machine.execInt3 s
  | .into => Sys2Proof.Machine.execInto s
  | .iret => Sys2Proof.Machine.execIret s
  | .xlat => Sys2Proof.Machine.execXlat s
  | .inAlDx => Sys2Proof.Machine.execInAlDx s
  | .inEaxDx => Sys2Proof.Machine.execInEaxDx s
  | .outDxAl => Sys2Proof.Machine.execOutDxAl s
  | .outDxEax => Sys2Proof.Machine.execOutDxEax s
  | .hlt => Sys2Proof.Machine.execHlt s
  | .cmc => Sys2Proof.Machine.execCmc s
  | .clc => Sys2Proof.Machine.execClc s
  | .stc => Sys2Proof.Machine.execStc s
  | .cli => Sys2Proof.Machine.execCli s
  | .sti => Sys2Proof.Machine.execSti s
  | .cld => Sys2Proof.Machine.execCld s
  | .std => Sys2Proof.Machine.execStd s
  | .clts => Sys2Proof.Machine.execClts s
  | .undef82 => Sys2Proof.Machine.execUndef82 s
  | .undefD6 => Sys2Proof.Machine.execUndefD6 s
  | .undefF1 => Sys2Proof.Machine.execUndefF1 s

end Sys2Proof.Machine
end

