-- ==== Sys2Proof/Machine/Run.lean ====
section
/-! DEFINITION. One step: an event at an instruction boundary, or one instruction, prefix or string element
(30_encoding.md R225; 60_exceptions.md R601; 10_state.md R90; log entry 10). -/
namespace Sys2Proof.Machine

/-- Fetch one instruction or prefix and run it; a fault of the fetch is delivered with `EIP_start` saved
(30_encoding.md R225). -/
def fetchAndRun (s : State) : Host.Outcome State Fault Refusal :=
  match fetchInstr s with
  | .ok i s' => exec i s'
  | .error h s' => outcomeOf s (.error h s')

/-- A step at an instruction boundary: the event serviced there, or an instruction unless the processor is halted
(60_exceptions.md R601). -/
def atBoundary (s : State) : Host.Outcome State Fault Refusal :=
  match boundaryEvent s.sampleNmi with
  | .ok (some ev) s' => deliver deliverFuel ev s'
  | .ok none s' => if s'.run = .halted then .next s' else fetchAndRun s'.beginInstr
  | .error h s' => outcomeOf s (.error h s')

/-- One step: RESET, shutdown, virtual 8086 mode (refused), an exception the last task switch left, an instruction whose
prefixes were read, or an instruction boundary (10_state.md R90; 00_scope.md R6; 49_multitasking.md R556). -/
def stepOnce (s : State) : Host.Outcome State Fault Refusal :=
  if s.pins.reset then .next s.afterReset
  else if s.run = .shutdown then .next s
  else if s.flags.VM then .refused .virtual8086
  else
    match s.pendingExc with
    | some e => deliver deliverFuel (e.event s.eip) { s with pendingExc := none }
    | none => if s.pfx.count = 0 then atBoundary s else fetchAndRun s

/-- A byte held in memory at a physical address, which becomes read-only memory if no memory backs it. -/
def State.holdByte (s : State) (a : BitVec 32) (b : Byte) : State :=
  { s with mem := Memory.write s.mem a.toNat b,
           plat := if (s.kindAt a).holds then s.plat else { s.plat with memMap := ⟨a, a, .rom⟩ :: s.plat.memMap } }

/-- Store bytes where the next instruction bytes are fetched from, `k` bytes on from EIP. -/
def State.placeBytes (s : State) : Nat → List Byte → State
  | _, [] => s
  | k, b :: rest =>
    let la := s.codeAddr + BitVec.ofNat 32 k
    State.placeBytes (s.holdByte ((s.peekPhys la).getD la) b) (k + 1) rest

/-- Place an instruction, given as spec/opcode_table.json numbers its bits, where the next step fetches: fifteen bytes,
those above `nbits` zero; the prefetch queue is emptied so that memory is what is fetched. -/
def State.placeFetchWord (s : State) (nbits w : Nat) : State :=
  { s with queue := [], pastEnd := false }.placeBytes s.pfx.count (tableBytes nbits w)

end Sys2Proof.Machine
end

