-- ==== Sys2Proof/Safety.lean ====
section
/-! DEFINITION. What the statements speak of: how an instruction ends, located operands, invariants of the machine, and which
form each instruction is. The tables below name every operand form again, from the operand columns of
spec/opcode_table.json, apart from the meanings. -/
namespace Sys2Proof.Machine

/-! ## How an instruction ends -/

/-- The machine when an instruction whose own effect left `s` is complete (10_state.md R71; 61_debug_coproc_multiproc.md R672). -/
def State.finished (s : State) (d : Done) : State :=
  match complete d s with
  | .ok _ t => t
  | .error _ t => t

/-- The step that takes exception `vec` instead of the instruction that starts at `s`, when `after` is what its attempt left
(60_exceptions.md R581, R612). -/
def State.takes (s : State) (after : State) (vec : BitVec 8) (err : ErrCode) : Host.Outcome State Fault Refusal :=
  deliver deliverFuel ⟨vec, .exception, err, s.eip, vec != vDF⟩ (State.rollback s after)

/-- LOCK is absent, or may stand before this form because its destination is in memory (30_encoding.md R224). -/
def State.lockOk (s : State) (rm : Rm) : Bool := !s.pfx.lock || isMem rm

/-! ## States written by an instruction -/

/-- The six status flags written. -/
def State.withStatus (s : State) (st : Status) : State := { s with flags := s.flags.setStatus st }

/-- The draw counter moved: some free values were taken (log entry 1). -/
def State.drawn (s : State) (n : Nat) : State := { s with draws := n }

/-- The value of a located operand. -/
def State.valueAt (s : State) (sz : Size) : Place → BitVec sz.bits
  | .reg r => s.reg sz r
  | .mem l => s.load sz.bits l

/-- A located operand written. -/
def State.putAt (s : State) (sz : Size) (p : Place) (v : BitVec sz.bits) : State :=
  match p with
  | .reg r => s.setReg sz r v
  | .mem l => s.store l v

/-- The bytes of memory a located operand occupies. -/
def Place.bytes : Place → Loc
  | .reg _ => []
  | .mem l => l

/-- Every byte of memory outside `l` reads in `t` as it does in `s`. -/
def State.sameBytes (s t : State) (l : Loc) : Prop := ∀ a, a ∉ l → t.byteAt a = s.byteAt a

/-- Paging is off and no breakpoint condition watches data: a located operand is then the segment's base plus the offset. -/
def State.direct (s : State) : Bool := !s.cr0.PG && !s.dbg.anyWatch

/-- A direct state whose addresses are all RAM, with no LOCK prefix: locating an operand changes nothing at all. -/
def State.plain (s : State) : Bool := s.direct && s.plat.memMap.isEmpty && !s.pfx.lock

/-- The physical bytes of an operand in a plain state. -/
def State.bytesAt (s : State) (r : SReg) (off : BitVec 32) (n : Nat) : Loc := Loc.from ((s.seg.get r).base + off) n

/-- The segment checks of the far pointer LDS, LES, LFS, LGS or LSS reads, as one operand (21_protection.md R172); where its selector
wraps at 2^16 there is none for the whole (47_segment_far_transfer.md R454; log entry 39). -/
def State.farPtrOk (s : State) (m : Mem) : Bool :=
  (match m with | .a32 .. => false | .a16 .. => decide (2 ^ 16 ≤ (memEa s.gpr m).toNat + s.osz.bytes)) ||
    s.segOk (s.memSeg m) (memEa s.gpr m) (s.osz.bytes + 2) .read

/-- A descriptor read in a plain state. -/
def State.descAt (s : State) (la : BitVec 32) : Desc := ⟨s.phys32 la, s.phys32 (la + 4#32), la⟩

/-- The bytes of the `k`-th item of `n` bytes below the stack pointer, in a plain state (10_state.md R46). -/
def State.slot (s : State) (n k : Nat) : Loc := s.bytesAt .ss (s.below (k * n)) n

/-- A descriptor being loaded, in a plain state: LOCK# is asserted, and the accessed bit set in memory if it was clear
(21_protection.md R168; 20_memory.md R151). -/
def State.loadedDesc (s : State) (d : Desc) : State :=
  { (if d.hi.getLsbD 8 then s else s.store (Loc.from (d.at_ + 4#32) 4) (d.hi ||| 0x100#32)) with
    lockOut := ⟨.descriptor, [d.at_]⟩ :: s.lockOut }

/-- A doubleword pushed as an error code carries its defined bits (60_exceptions.md R595, R606). -/
def ErrCode.agrees (err : ErrCode) (e : BitVec 32) : Prop :=
  match err with
  | .none => True
  | .sel c => e.extractLsb' 0 16 = c
  | .page p w u => e.getLsbD 0 = p ∧ e.getLsbD 1 = w ∧ e.getLsbD 2 = u

/-- What a debug exception adds to DR6: B0 to B3 in bits 0 to 3, BS in bit 14, BT in bit 15 (10_state.md R79). -/
def dr6Image (h : Hits) (bs bt : Bool) : BitVec 32 :=
  (if h.b0 then 1#32 else 0#32) ||| (if h.b1 then 2#32 else 0#32) ||| (if h.b2 then 4#32 else 0#32) ||| (if h.b3 then 8#32 else 0#32) |||
    (if bs then 0x4000#32 else 0#32) ||| (if bt then 0x8000#32 else 0#32)

/-! ## Invariants -/

/-- Memory is in canonical form and the TLB has its 32 entries (20_memory.md R100; 10_state.md R85). -/
def State.storageOk (s : State) : Prop := Memory.wf s.mem = true ∧ s.tlb.length = 32

/-- Bits of the debug and test registers that are not implemented read as 0 (10_state.md R78, R79, R82, R83). -/
def State.reservedOk (s : State) : Prop :=
  s.dbg.dr6 &&& 0xFFFF1FF0#32 = 0#32 ∧ s.dbg.dr7 &&& 0x0000FC00#32 = 0#32 ∧ s.tr6 &&& 0x1E#32 = 0#32 ∧ s.tr7 &&& 0xFE3#32 = 0#32

/-- Paging needs protection, and outside protected mode the privilege level is 0 (10_state.md R60, R84). -/
def State.modeOk (s : State) : Prop := (s.cr0.PG = true → s.cr0.PE = true) ∧ (s.cr0.PE = false → s.cpl = 0#2)

/-- Between instructions no prefix is remembered, and at most 15 prefix bytes are (30_encoding.md R201, R203). -/
def State.prefixesOk (s : State) : Prop := s.pfx.count ≤ 15 ∧ (s.pfx.count = 0 → s.pfx = Prefixes.empty)

/-- The invariant of every step. -/
def State.invariant (s : State) : Prop := s.storageOk ∧ s.reservedOk ∧ s.modeOk ∧ s.prefixesOk

/-- Nothing intervenes at this boundary: no RESET, shutdown, virtual-8086 mode, owed exception, debug trap, NMI or
acceptable INTR, and the machine is running at an instruction boundary (60_exceptions.md R601). -/
def State.quiet (s : State) : Bool :=
  !s.pins.reset && s.run == .running && !s.flags.VM && s.pendingExc.isNone && s.pfx.count == 0 && !s.ssShadow &&
  !s.dbg.anyEnabled && !s.dbg.trapPending && !s.pins.nmi && !s.nmiPending && (!s.flags.IF || s.stiShadow || s.pins.intr.isNone)

/-! ## Arithmetic and logic -/

/-- The value ADD, ADC, SUB, SBB, AND, OR, XOR computes; CMP computes none (41_binary_arithmetic.md R291 to R297;
43_logical_shift_bit.md R331 to R333). -/
def AluOp.result (op : AluOp) {w : Nat} (a b : BitVec w) (cf : Bool) : BitVec w :=
  match op with
  | .add => a + b
  | .adc => a + b + BitVec.ofNat w cf.toNat
  | .sub => a - b
  | .sbb => a - b - BitVec.ofNat w cf.toNat
  | .and => a &&& b
  | .or => a ||| b
  | .xor => a ^^^ b
  | .cmp => a

/-- The status flags they leave, with the logical operations' undefined AF supplied. -/
def AluOp.status (op : AluOp) {w : Nat} (a b : BitVec w) (cf af : Bool) : Status :=
  match op with
  | .add => (addFlags a b false).2
  | .adc => (addFlags a b cf).2
  | .sub => (subFlags a b false).2
  | .sbb => (subFlags a b cf).2
  | .cmp => (subFlags a b false).2
  | .and => logicFlags (a &&& b) af
  | .or => logicFlags (a ||| b) af
  | .xor => logicFlags (a ^^^ b) af

/-- An operation with an `E` destination and a source value. -/
structure AluTo where
  op : AluOp
  sz : Size
  rm : Rm
  src : BitVec sz.bits

/-- The forms whose destination is an `E` operand or the accumulator. -/
def aluToForm (s : State) : Instr → Option AluTo
  | .addEbGb rm r => some ⟨.add, .b, rm, s.reg .b r⟩
  | .addEvGv rm r => some ⟨.add, s.osz, rm, s.reg s.osz r⟩
  | .addAlIb imm => some ⟨.add, .b, .reg .ax, imm⟩
  | .addEaxIv imm => some ⟨.add, s.osz, .reg .ax, immV s.osz imm⟩
  | .addEbIb rm imm => some ⟨.add, .b, rm, imm⟩
  | .addEvIv rm imm => some ⟨.add, s.osz, rm, immV s.osz imm⟩
  | .addEvIb rm imm => some ⟨.add, s.osz, rm, immS s.osz imm⟩
  | .orEbGb rm r => some ⟨.or, .b, rm, s.reg .b r⟩
  | .orEvGv rm r => some ⟨.or, s.osz, rm, s.reg s.osz r⟩
  | .orAlIb imm => some ⟨.or, .b, .reg .ax, imm⟩
  | .orEaxIv imm => some ⟨.or, s.osz, .reg .ax, immV s.osz imm⟩
  | .orEbIb rm imm => some ⟨.or, .b, rm, imm⟩
  | .orEvIv rm imm => some ⟨.or, s.osz, rm, immV s.osz imm⟩
  | .orEvIb rm imm => some ⟨.or, s.osz, rm, immS s.osz imm⟩
  | .adcEbGb rm r => some ⟨.adc, .b, rm, s.reg .b r⟩
  | .adcEvGv rm r => some ⟨.adc, s.osz, rm, s.reg s.osz r⟩
  | .adcAlIb imm => some ⟨.adc, .b, .reg .ax, imm⟩
  | .adcEaxIv imm => some ⟨.adc, s.osz, .reg .ax, immV s.osz imm⟩
  | .adcEbIb rm imm => some ⟨.adc, .b, rm, imm⟩
  | .adcEvIv rm imm => some ⟨.adc, s.osz, rm, immV s.osz imm⟩
  | .adcEvIb rm imm => some ⟨.adc, s.osz, rm, immS s.osz imm⟩
  | .sbbEbGb rm r => some ⟨.sbb, .b, rm, s.reg .b r⟩
  | .sbbEvGv rm r => some ⟨.sbb, s.osz, rm, s.reg s.osz r⟩
  | .sbbAlIb imm => some ⟨.sbb, .b, .reg .ax, imm⟩
  | .sbbEaxIv imm => some ⟨.sbb, s.osz, .reg .ax, immV s.osz imm⟩
  | .sbbEbIb rm imm => some ⟨.sbb, .b, rm, imm⟩
  | .sbbEvIv rm imm => some ⟨.sbb, s.osz, rm, immV s.osz imm⟩
  | .sbbEvIb rm imm => some ⟨.sbb, s.osz, rm, immS s.osz imm⟩
  | .andEbGb rm r => some ⟨.and, .b, rm, s.reg .b r⟩
  | .andEvGv rm r => some ⟨.and, s.osz, rm, s.reg s.osz r⟩
  | .andAlIb imm => some ⟨.and, .b, .reg .ax, imm⟩
  | .andEaxIv imm => some ⟨.and, s.osz, .reg .ax, immV s.osz imm⟩
  | .andEbIb rm imm => some ⟨.and, .b, rm, imm⟩
  | .andEvIv rm imm => some ⟨.and, s.osz, rm, immV s.osz imm⟩
  | .andEvIb rm imm => some ⟨.and, s.osz, rm, immS s.osz imm⟩
  | .subEbGb rm r => some ⟨.sub, .b, rm, s.reg .b r⟩
  | .subEvGv rm r => some ⟨.sub, s.osz, rm, s.reg s.osz r⟩
  | .subAlIb imm => some ⟨.sub, .b, .reg .ax, imm⟩
  | .subEaxIv imm => some ⟨.sub, s.osz, .reg .ax, immV s.osz imm⟩
  | .subEbIb rm imm => some ⟨.sub, .b, rm, imm⟩
  | .subEvIv rm imm => some ⟨.sub, s.osz, rm, immV s.osz imm⟩
  | .subEvIb rm imm => some ⟨.sub, s.osz, rm, immS s.osz imm⟩
  | .xorEbGb rm r => some ⟨.xor, .b, rm, s.reg .b r⟩
  | .xorEvGv rm r => some ⟨.xor, s.osz, rm, s.reg s.osz r⟩
  | .xorAlIb imm => some ⟨.xor, .b, .reg .ax, imm⟩
  | .xorEaxIv imm => some ⟨.xor, s.osz, .reg .ax, immV s.osz imm⟩
  | .xorEbIb rm imm => some ⟨.xor, .b, rm, imm⟩
  | .xorEvIv rm imm => some ⟨.xor, s.osz, rm, immV s.osz imm⟩
  | .xorEvIb rm imm => some ⟨.xor, s.osz, rm, immS s.osz imm⟩
  | _ => none

/-- An operation with a register destination and an `E` source. -/
structure AluFrom where
  op : AluOp
  sz : Size
  r : Reg
  rm : Rm

/-- The forms `G,E`. -/
def aluFromForm (s : State) : Instr → Option AluFrom
  | .addGbEb r rm => some ⟨.add, .b, r, rm⟩
  | .addGvEv r rm => some ⟨.add, s.osz, r, rm⟩
  | .orGbEb r rm => some ⟨.or, .b, r, rm⟩
  | .orGvEv r rm => some ⟨.or, s.osz, r, rm⟩
  | .adcGbEb r rm => some ⟨.adc, .b, r, rm⟩
  | .adcGvEv r rm => some ⟨.adc, s.osz, r, rm⟩
  | .sbbGbEb r rm => some ⟨.sbb, .b, r, rm⟩
  | .sbbGvEv r rm => some ⟨.sbb, s.osz, r, rm⟩
  | .andGbEb r rm => some ⟨.and, .b, r, rm⟩
  | .andGvEv r rm => some ⟨.and, s.osz, r, rm⟩
  | .subGbEb r rm => some ⟨.sub, .b, r, rm⟩
  | .subGvEv r rm => some ⟨.sub, s.osz, r, rm⟩
  | .xorGbEb r rm => some ⟨.xor, .b, r, rm⟩
  | .xorGvEv r rm => some ⟨.xor, s.osz, r, rm⟩
  | _ => none

/-- A comparison: an `E` operand, the other operand, and whether the `E` operand is the first. -/
structure Comparison where
  sz : Size
  rm : Rm
  other : BitVec sz.bits
  rmFirst : Bool

/-- The forms of CMP. -/
def cmpForm (s : State) : Instr → Option Comparison
  | .cmpEbGb rm r => some ⟨.b, rm, s.reg .b r, true⟩
  | .cmpEvGv rm r => some ⟨s.osz, rm, s.reg s.osz r, true⟩
  | .cmpGbEb r rm => some ⟨.b, rm, s.reg .b r, false⟩
  | .cmpGvEv r rm => some ⟨s.osz, rm, s.reg s.osz r, false⟩
  | .cmpAlIb imm => some ⟨.b, .reg .ax, imm, true⟩
  | .cmpEaxIv imm => some ⟨s.osz, .reg .ax, immV s.osz imm, true⟩
  | .cmpEbIb rm imm => some ⟨.b, rm, imm, true⟩
  | .cmpEvIv rm imm => some ⟨s.osz, rm, immV s.osz imm, true⟩
  | .cmpEvIb rm imm => some ⟨s.osz, rm, immS s.osz imm, true⟩
  | _ => none

/-- The forms of TEST. -/
def testForm (s : State) : Instr → Option Comparison
  | .testEbGb rm r => some ⟨.b, rm, s.reg .b r, true⟩
  | .testEvGv rm r => some ⟨s.osz, rm, s.reg s.osz r, true⟩
  | .testAlIb imm => some ⟨.b, .reg .ax, imm, true⟩
  | .testEaxIv imm => some ⟨s.osz, .reg .ax, immV s.osz imm, true⟩
  | .testEbIb rm imm => some ⟨.b, rm, imm, true⟩
  | .testEvIv rm imm => some ⟨s.osz, rm, immV s.osz imm, true⟩
  | _ => none

/-- The one-operand operations that write their operand back. -/
inductive UnaryOp where
  | inc | dec | neg | not
deriving DecidableEq, Repr

/-- What they compute (41_binary_arithmetic.md R293, R296, R298; 43_logical_shift_bit.md R334). -/
def UnaryOp.result (op : UnaryOp) {w : Nat} (a : BitVec w) : BitVec w :=
  match op with
  | .inc => a + 1#w
  | .dec => a - 1#w
  | .neg => - a
  | .not => ~~~ a

/-- The flags they leave: INC and DEC keep CF, NOT keeps all. -/
def UnaryOp.flags (op : UnaryOp) {w : Nat} (a : BitVec w) (f : Eflags) : Eflags :=
  match op with
  | .inc => f.setStatus { (addFlags a 1#w false).2 with CF := f.CF }
  | .dec => f.setStatus { (subFlags a 1#w false).2 with CF := f.CF }
  | .neg => f.setStatus (subFlags 0#w a false).2
  | .not => f

/-- A one-operand form. -/
structure Unary where
  op : UnaryOp
  sz : Size
  rm : Rm

/-- The forms of INC, DEC, NEG, NOT. -/
def unaryForm (s : State) : Instr → Option Unary
  | .incReg r => some ⟨.inc, s.osz, .reg r⟩
  | .decReg r => some ⟨.dec, s.osz, .reg r⟩
  | .incEb rm => some ⟨.inc, .b, rm⟩
  | .incEv rm => some ⟨.inc, s.osz, rm⟩
  | .decEb rm => some ⟨.dec, .b, rm⟩
  | .decEv rm => some ⟨.dec, s.osz, rm⟩
  | .negEb rm => some ⟨.neg, .b, rm⟩
  | .negEv rm => some ⟨.neg, s.osz, rm⟩
  | .notEb rm => some ⟨.not, .b, rm⟩
  | .notEv rm => some ⟨.not, s.osz, rm⟩
  | _ => none

/-- A one-operand multiplication or division: signed or not, width, operand. -/
structure Wide where
  signed : Bool
  sz : Size
  rm : Rm

/-- The one-operand forms of MUL and IMUL. -/
def mulForm (s : State) : Instr → Option Wide
  | .mulEb rm => some ⟨false, .b, rm⟩
  | .mulEv rm => some ⟨false, s.osz, rm⟩
  | .imulEb rm => some ⟨true, .b, rm⟩
  | .imulEv rm => some ⟨true, s.osz, rm⟩
  | _ => none

/-- The forms of DIV and IDIV. -/
def divForm (s : State) : Instr → Option Wide
  | .divEb rm => some ⟨false, .b, rm⟩
  | .divEv rm => some ⟨false, s.osz, rm⟩
  | .idivEb rm => some ⟨true, .b, rm⟩
  | .idivEv rm => some ⟨true, s.osz, rm⟩
  | _ => none

/-- A value of a width as an integer. -/
def Wide.int (f : Wide) (v : BitVec f.sz.bits) : Int := if f.signed then v.toInt else (v.toNat : Int)

/-- The double-length dividend: upper accumulator (AH, DX, EDX), then AL, AX or EAX (41_binary_arithmetic.md R304, R305). -/
def Wide.dividend (f : Wide) (s : State) : Int :=
  f.int (s.reg f.sz (highAcc f.sz)) * 2 ^ f.sz.bits + ((s.reg f.sz .ax).toNat : Int)

/-- The quotient, truncated toward zero. -/
def Wide.quotient (f : Wide) (s : State) (d : BitVec f.sz.bits) : Int := (f.dividend s).tdiv (f.int d)

/-- The quotient is in the range of the result. -/
def Wide.fits (f : Wide) (q : Int) : Bool :=
  if f.signed then decide (-(2 ^ (f.sz.bits - 1)) ≤ q) && decide (q < 2 ^ (f.sz.bits - 1))
  else decide (q < 2 ^ f.sz.bits)

/-- A multiplication into a register: destination, `E` operand, other factor (41_binary_arithmetic.md R302, R303). -/
structure ImulTo where
  sz : Size
  r : Reg
  rm : Rm
  other : BitVec sz.bits

/-- The two- and three-operand forms of IMUL. -/
def imulToForm (s : State) : Instr → Option ImulTo
  | .imulGvEv r rm => some ⟨s.osz, r, rm, s.reg s.osz r⟩
  | .imulGvEvIv r rm imm => some ⟨s.osz, r, rm, immV s.osz imm⟩
  | .imulGvEvIb r rm imm => some ⟨s.osz, r, rm, immS s.osz imm⟩
  | _ => none

/-! ## Data movement -/

/-- A store: width, destination, value. -/
structure StoreForm where
  sz : Size
  rm : Rm
  v : BitVec sz.bits

/-- The forms of MOV that write an `E` operand, a direct offset, or a register from an immediate. -/
def storeForm (s : State) : Instr → Option StoreForm
  | .movEbGb rm r => some ⟨.b, rm, s.reg .b r⟩
  | .movEvGv rm r => some ⟨s.osz, rm, s.reg s.osz r⟩
  | .movEbIb rm imm => some ⟨.b, rm, imm⟩
  | .movEvIv rm imm => some ⟨s.osz, rm, immV s.osz imm⟩
  | .movObAl off => some ⟨.b, .mem (.a32 none none off), s.reg .b .ax⟩
  | .movOvEax off => some ⟨s.osz, .mem (.a32 none none off), s.reg s.osz .ax⟩
  | .movR8Ib r imm => some ⟨.b, .reg r, imm⟩
  | .movRegIv r imm => some ⟨s.osz, .reg r, immV s.osz imm⟩
  | .setccEb cc rm => some ⟨.b, rm, if condHolds cc s.flags then 1#8 else 0#8⟩
  | _ => none

/-- A load: width read, width written, destination, source, and whether the extension is signed. -/
structure LoadForm where
  src : Size
  dst : Size
  r : Reg
  rm : Rm
  signed : Bool

/-- The forms of MOV, MOVZX and MOVSX that load a register. -/
def loadForm (s : State) : Instr → Option LoadForm
  | .movGbEb r rm => some ⟨.b, .b, r, rm, false⟩
  | .movGvEv r rm => some ⟨s.osz, s.osz, r, rm, false⟩
  | .movAlOb off => some ⟨.b, .b, .ax, .mem (.a32 none none off), false⟩
  | .movEaxOv off => some ⟨s.osz, s.osz, .ax, .mem (.a32 none none off), false⟩
  | .movzxGvEb r rm => some ⟨.b, s.osz, r, rm, false⟩
  | .movzxGdEw r rm => some ⟨.w, s.osz, r, rm, false⟩
  | .movsxGvEb r rm => some ⟨.b, s.osz, r, rm, true⟩
  | .movsxGdEw r rm => some ⟨.w, s.osz, r, rm, true⟩
  | _ => none

/-- The value loaded (40_data_movement.md R261, R274, R275). -/
def LoadForm.value (f : LoadForm) (v : BitVec f.src.bits) : BitVec f.dst.bits :=
  if f.signed then v.signExtend f.dst.bits else v.setWidth f.dst.bits

/-- An exchange. -/
structure Exchange where
  sz : Size
  rm : Rm
  r : Reg

/-- The forms of XCHG. -/
def xchgForm (s : State) : Instr → Option Exchange
  | .xchgEbGb rm r => some ⟨.b, rm, r⟩
  | .xchgEvGv rm r => some ⟨s.osz, rm, r⟩
  | .xchgEaxReg r => some ⟨s.osz, .reg .ax, r⟩
  | _ => none

/-- The forms of PUSH whose value is in the state or the instruction, with that value (40_data_movement.md R263;
46_block_flag_coproc_misc.md R432). -/
def pushForm (s : State) : Instr → Option (BitVec s.osz.bits)
  | .pushReg r => some (s.reg s.osz r)
  | .pushIv imm => some (immV s.osz imm)
  | .pushIb imm => some (immS s.osz imm)
  | .pushf => some ((s.flags.toBits &&& 0x00FCFFFF#32).setWidth s.osz.bits)
  | _ => none

/-! ## Shifts and bits -/

/-- A shift or rotate: operation, width, operand, count before masking. -/
structure ShiftForm where
  op : ShiftOp
  sz : Size
  rm : Rm
  count : BitVec 8

/-- The forms of the seven shifts and rotates (43_logical_shift_bit.md R343). -/
def shiftForm (s : State) : Instr → Option ShiftForm
  | .rolEbIb rm imm => some ⟨.rol, .b, rm, imm⟩
  | .rolEvIb rm imm => some ⟨.rol, s.osz, rm, imm⟩
  | .rolEb1 rm => some ⟨.rol, .b, rm, 1#8⟩
  | .rolEv1 rm => some ⟨.rol, s.osz, rm, 1#8⟩
  | .rolEbCl rm => some ⟨.rol, .b, rm, s.reg .b .cx⟩
  | .rolEvCl rm => some ⟨.rol, s.osz, rm, s.reg .b .cx⟩
  | .rorEbIb rm imm => some ⟨.ror, .b, rm, imm⟩
  | .rorEvIb rm imm => some ⟨.ror, s.osz, rm, imm⟩
  | .rorEb1 rm => some ⟨.ror, .b, rm, 1#8⟩
  | .rorEv1 rm => some ⟨.ror, s.osz, rm, 1#8⟩
  | .rorEbCl rm => some ⟨.ror, .b, rm, s.reg .b .cx⟩
  | .rorEvCl rm => some ⟨.ror, s.osz, rm, s.reg .b .cx⟩
  | .rclEbIb rm imm => some ⟨.rcl, .b, rm, imm⟩
  | .rclEvIb rm imm => some ⟨.rcl, s.osz, rm, imm⟩
  | .rclEb1 rm => some ⟨.rcl, .b, rm, 1#8⟩
  | .rclEv1 rm => some ⟨.rcl, s.osz, rm, 1#8⟩
  | .rclEbCl rm => some ⟨.rcl, .b, rm, s.reg .b .cx⟩
  | .rclEvCl rm => some ⟨.rcl, s.osz, rm, s.reg .b .cx⟩
  | .rcrEbIb rm imm => some ⟨.rcr, .b, rm, imm⟩
  | .rcrEvIb rm imm => some ⟨.rcr, s.osz, rm, imm⟩
  | .rcrEb1 rm => some ⟨.rcr, .b, rm, 1#8⟩
  | .rcrEv1 rm => some ⟨.rcr, s.osz, rm, 1#8⟩
  | .rcrEbCl rm => some ⟨.rcr, .b, rm, s.reg .b .cx⟩
  | .rcrEvCl rm => some ⟨.rcr, s.osz, rm, s.reg .b .cx⟩
  | .shlEbIb rm imm => some ⟨.shl, .b, rm, imm⟩
  | .shlEvIb rm imm => some ⟨.shl, s.osz, rm, imm⟩
  | .shlEb1 rm => some ⟨.shl, .b, rm, 1#8⟩
  | .shlEv1 rm => some ⟨.shl, s.osz, rm, 1#8⟩
  | .shlEbCl rm => some ⟨.shl, .b, rm, s.reg .b .cx⟩
  | .shlEvCl rm => some ⟨.shl, s.osz, rm, s.reg .b .cx⟩
  | .shrEbIb rm imm => some ⟨.shr, .b, rm, imm⟩
  | .shrEvIb rm imm => some ⟨.shr, s.osz, rm, imm⟩
  | .shrEb1 rm => some ⟨.shr, .b, rm, 1#8⟩
  | .shrEv1 rm => some ⟨.shr, s.osz, rm, 1#8⟩
  | .shrEbCl rm => some ⟨.shr, .b, rm, s.reg .b .cx⟩
  | .shrEvCl rm => some ⟨.shr, s.osz, rm, s.reg .b .cx⟩
  | .sarEbIb rm imm => some ⟨.sar, .b, rm, imm⟩
  | .sarEvIb rm imm => some ⟨.sar, s.osz, rm, imm⟩
  | .sarEb1 rm => some ⟨.sar, .b, rm, 1#8⟩
  | .sarEv1 rm => some ⟨.sar, s.osz, rm, 1#8⟩
  | .sarEbCl rm => some ⟨.sar, .b, rm, s.reg .b .cx⟩
  | .sarEvCl rm => some ⟨.sar, s.osz, rm, s.reg .b .cx⟩
  | _ => none

/-- The flags after a shift or rotate by `c` from 1 on: CF always, OF for a count of one and free otherwise, and for the
shifts SF, ZF and PF of the result with AF free (43_logical_shift_bit.md R343 to R349). -/
def ShiftOp.flags (op : ShiftOp) {w : Nat} (c : Nat) (v : BitVec w) (r : BitVec w × Bool) (af of : Bool) (f : Eflags) : Eflags :=
  let ovf := if c = 1 then v.msb != r.1.msb else of
  if op.isShift then f.setStatus { CF := r.2, PF := parityOf r.1, AF := af, ZF := zeroOf r.1, SF := signOf r.1, OF := ovf }
  else { f with CF := r.2, OF := ovf }

/-- A double shift: to the right or not, operand, source, count before masking. -/
structure DoubleForm where
  right : Bool
  rm : Rm
  r : Reg
  count : BitVec 8

/-- The forms of SHLD and SHRD (43_logical_shift_bit.md R347, R348). -/
def doubleForm (s : State) : Instr → Option DoubleForm
  | .shldEvGvIb rm r imm => some ⟨false, rm, r, imm⟩
  | .shldEvGvCl rm r => some ⟨false, rm, r, s.reg .b .cx⟩
  | .shrdEvGvIb rm r imm => some ⟨true, rm, r, imm⟩
  | .shrdEvGvCl rm r => some ⟨true, rm, r, s.reg .b .cx⟩
  | _ => none

/-- The 2w-bit value a double shift moves: SHLD shifts destination over source, SHRD source over destination; the
destination's new value is the upper half of the one, the lower half of the other (43_logical_shift_bit.md R347, R348). -/
def doubleValue (right : Bool) {w : Nat} (d x : BitVec w) (c : Nat) : BitVec w :=
  if right then ((x ++ d) >>> c).setWidth w else ((d ++ x) <<< c).extractLsb' w w

/-- A bit instruction with an immediate bit offset, or a register bit offset into a register. -/
structure BitForm where
  op : BitOp
  rm : Rm
  bitNo : Nat

/-- The forms of BT, BTS, BTR, BTC whose bit lies in the operand itself (43_logical_shift_bit.md R336). -/
def bitForm (s : State) : Instr → Option BitForm
  | .btEvIb rm imm => some ⟨.test, rm, imm.toNat % s.osz.bits⟩
  | .btsEvIb rm imm => some ⟨.set, rm, imm.toNat % s.osz.bits⟩
  | .btrEvIb rm imm => some ⟨.reset, rm, imm.toNat % s.osz.bits⟩
  | .btcEvIb rm imm => some ⟨.complement, rm, imm.toNat % s.osz.bits⟩
  | .btEvGv (.reg e) r => some ⟨.test, .reg e, (s.reg s.osz r).toNat % s.osz.bits⟩
  | .btsEvGv (.reg e) r => some ⟨.set, .reg e, (s.reg s.osz r).toNat % s.osz.bits⟩
  | .btrEvGv (.reg e) r => some ⟨.reset, .reg e, (s.reg s.osz r).toNat % s.osz.bits⟩
  | .btcEvGv (.reg e) r => some ⟨.complement, .reg e, (s.reg s.osz r).toNat % s.osz.bits⟩
  | _ => none

/-- The forms with a register bit offset into memory: operation, operand, offset register (43_logical_shift_bit.md R336). -/
def bitStringForm : Instr → Option (BitOp × Mem × Reg)
  | .btEvGv (.mem m) r => some (.test, m, r)
  | .btsEvGv (.mem m) r => some (.set, m, r)
  | .btrEvGv (.mem m) r => some (.reset, m, r)
  | .btcEvGv (.mem m) r => some (.complement, m, r)
  | _ => none

/-- The bit a bit instruction leaves. -/
def BitOp.bit (op : BitOp) (old : Bool) : Bool :=
  match op with
  | .test => old
  | .set => true
  | .reset => false
  | .complement => !old

/-! ## Control transfer -/

/-- A near jump: whether it is taken, and its target before the operand size masks it (44_control_transfer.md R371, R374,
R384). -/
structure JumpForm where
  taken : Bool
  target : BitVec 32

/-- The forms of JMP and Jcc with a displacement, and JCXZ. -/
def jumpForm (s : State) : Instr → Option JumpForm
  | .jmpJb d => some ⟨true, s.eipNext + d.signExtend 32⟩
  | .jmpJv d => some ⟨true, s.eipNext + (if s.attrs.o32 then d else (d.setWidth 16).signExtend 32)⟩
  | .jccJb cc d => some ⟨condHolds cc s.flags, s.eipNext + d.signExtend 32⟩
  | .jccJv cc d => some ⟨condHolds cc s.flags, s.eipNext + (if s.attrs.o32 then d else (d.setWidth 16).signExtend 32)⟩
  | .jcxz d => some ⟨s.reg s.asz .cx == 0#s.asz.bits, s.eipNext + d.signExtend 32⟩
  | _ => none

/-- The forms of LOOP: displacement, and the condition on ZF besides the count (44_control_transfer.md R381 to R383). -/
def loopForm (s : State) : Instr → Option (BitVec 8 × Bool)
  | .loop d => some (d, true)
  | .loope d => some (d, s.flags.ZF)
  | .loopne d => some (d, !s.flags.ZF)
  | _ => none

/-- The offset a near transfer goes to: masked to 16 bits by a 16-bit operand size (44_control_transfer.md R370). -/
def State.nearOffset (s : State) (t : BitVec 32) : BitVec 32 := if s.attrs.o32 then t else (t.setWidth 16).setWidth 32

/-- The offset lies inside the code segment. -/
def State.inCode (s : State) (t : BitVec 32) : Bool := decide (t.toNat ≤ s.seg.cs.limit.toNat)

/-- The software interrupts and their vectors; INTO only when OF is 1 (44_control_transfer.md R385 to R387). -/
def interruptForm (s : State) : Instr → Option (BitVec 8)
  | .intIb v => some v
  | .int3 => some 3#8
  | .into => if s.flags.OF then some 4#8 else none
  | _ => none

/-! ## String instructions -/

/-- A string instruction: one element, and whether it compares (45_string.md R400 to R406; 48_system_io.md R534, R535). -/
structure StringForm where
  element : M Unit
  compares : Bool

/-- The string instructions. -/
def stringForm (s : State) : Instr → Option StringForm
  | .movsb => some ⟨movsElem .b, false⟩
  | .movsv => some ⟨movsElem s.osz, false⟩
  | .cmpsb => some ⟨cmpsElem .b, true⟩
  | .cmpsv => some ⟨cmpsElem s.osz, true⟩
  | .stosb => some ⟨stosElem .b, false⟩
  | .stosv => some ⟨stosElem s.osz, false⟩
  | .lodsb => some ⟨lodsElem .b, false⟩
  | .lodsv => some ⟨lodsElem s.osz, false⟩
  | .scasb => some ⟨scasElem .b, true⟩
  | .scasv => some ⟨scasElem s.osz, true⟩
  | .insb => some ⟨insElem .b, false⟩
  | .insv => some ⟨insElem s.osz, false⟩
  | .outsb => some ⟨outsElem .b, false⟩
  | .outsv => some ⟨outsElem s.osz, false⟩
  | _ => none

/-- An index register moved by one element, up or down by DF, in the address size (45_string.md R400). -/
def State.stepIndex (s : State) (sz : Size) (r : Reg) : State :=
  s.setReg s.asz r (if s.flags.DF then s.reg s.asz r - BitVec.ofNat s.asz.bits sz.bytes
    else s.reg s.asz r + BitVec.ofNat s.asz.bits sz.bytes)

/-- What one element does in a plain state, when its accesses pass (45_string.md R402 to R406). -/
def stringResult (s : State) : Instr → Option State
  | .movsb => some (((s.store (s.bytesAt .es (s.index .di) 1) (s.load 8 (s.bytesAt (s.segFor .ds) (s.index .si) 1))).stepIndex .b .si).stepIndex .b .di)
  | .movsv => some (((s.store (s.bytesAt .es (s.index .di) s.osz.bytes)
      (s.load s.osz.bits (s.bytesAt (s.segFor .ds) (s.index .si) s.osz.bytes))).stepIndex s.osz .si).stepIndex s.osz .di)
  | .cmpsb => some (((s.withStatus (subFlags (s.load 8 (s.bytesAt (s.segFor .ds) (s.index .si) 1))
      (s.load 8 (s.bytesAt .es (s.index .di) 1)) false).2).stepIndex .b .si).stepIndex .b .di)
  | .cmpsv => some (((s.withStatus (subFlags (s.load s.osz.bits (s.bytesAt (s.segFor .ds) (s.index .si) s.osz.bytes))
      (s.load s.osz.bits (s.bytesAt .es (s.index .di) s.osz.bytes)) false).2).stepIndex s.osz .si).stepIndex s.osz .di)
  | .stosb => some ((s.store (s.bytesAt .es (s.index .di) 1) (s.reg .b .ax)).stepIndex .b .di)
  | .stosv => some ((s.store (s.bytesAt .es (s.index .di) s.osz.bytes) (s.reg s.osz .ax)).stepIndex s.osz .di)
  | .lodsb => some ((s.setReg .b .ax (s.load 8 (s.bytesAt (s.segFor .ds) (s.index .si) 1))).stepIndex .b .si)
  | .lodsv => some ((s.setReg s.osz .ax (s.load s.osz.bits (s.bytesAt (s.segFor .ds) (s.index .si) s.osz.bytes))).stepIndex s.osz .si)
  | .scasb => some ((s.withStatus (subFlags (s.reg .b .ax) (s.load 8 (s.bytesAt .es (s.index .di) 1)) false).2).stepIndex .b .di)
  | .scasv => some ((s.withStatus (subFlags (s.reg s.osz .ax)
      (s.load s.osz.bits (s.bytesAt .es (s.index .di) s.osz.bytes)) false).2).stepIndex s.osz .di)
  | _ => none

/-- The width of a string instruction's elements. -/
def stringSize (s : State) : Instr → Size
  | .movsb => .b | .cmpsb => .b | .stosb => .b | .lodsb => .b | .scasb => .b | .insb => .b | .outsb => .b
  | _ => s.osz

/-- The accesses of one element pass their segment checks. -/
def stringAccess (s : State) (i : Instr) : Bool :=
  let n := (stringSize s i).bytes
  let source := s.segOk (s.segFor .ds) (s.index .si) n .read
  let destRead := s.segOk .es (s.index .di) n .read
  let destWrite := s.segOk .es (s.index .di) n .write
  match i with
  | .movsb => source && destWrite | .movsv => source && destWrite
  | .cmpsb => source && destRead | .cmpsv => source && destRead
  | .stosb => destWrite | .stosv => destWrite
  | .lodsb => source | .lodsv => source
  | .scasb => destRead | .scasv => destRead
  | _ => false

/-! ## Segment and system forms -/

/-- PUSH of a segment register. -/
def pushSegForm : Instr → Option SReg
  | .pushEs => some .es | .pushCs => some .cs | .pushSs => some .ss
  | .pushDs => some .ds | .pushFs => some .fs | .pushGs => some .gs
  | _ => none

/-- POP to a segment register. -/
def popSegForm : Instr → Option SReg
  | .popEs => some .es | .popSs => some .ss | .popDs => some .ds | .popFs => some .fs | .popGs => some .gs
  | _ => none

/-- LDS, LES, LFS, LGS, LSS: segment register, destination, operand (47_segment_far_transfer.md R454). -/
def farPtrForm : Instr → Option (SReg × Reg × Rm)
  | .ldsGvMp r rm => some (.ds, r, rm)
  | .lesGvMp r rm => some (.es, r, rm)
  | .lfsGvMp r rm => some (.fs, r, rm)
  | .lgsGvMp r rm => some (.gs, r, rm)
  | .lssGvMp r rm => some (.ss, r, rm)
  | _ => none

/-- The four selector tests. -/
inductive SelectorTest where
  | verr | verw | lar | lsl
deriving DecidableEq, Repr

/-- Whether a test passes, from CPL, the selector's RPL and the descriptor's second doubleword: S is bit 12, TYPE bits 11 to 8,
DPL bits 14 and 13 (48_system_io.md R541 to R544). -/
def SelectorTest.passes (t : SelectorTest) (cpl rpl : BitVec 2) (hi : BitVec 32) : Bool :=
  let code := hi.getLsbD 12 && hi.getLsbD 11
  let data := hi.getLsbD 12 && !hi.getLsbD 11
  let typ := (hi.extractLsb' 8 4).toNat
  let dpl := (hi.extractLsb' 13 2).toNat
  (match t with
    | .verr => data || code && hi.getLsbD 9
    | .verw => data && hi.getLsbD 9
    | .lar => hi.getLsbD 12 || !([0, 8, 10, 13].contains typ)
    | .lsl => hi.getLsbD 12 || [1, 2, 3, 9, 11].contains typ) &&
  (code && hi.getLsbD 10 || decide (cpl.toNat ≤ dpl) && decide (rpl.toNat ≤ dpl))

/-- VERR, VERW, LAR, LSL: operand, the test, and the register LAR and LSL write. -/
def selectorForm : Instr → Option (Rm × SelectorTest × Option Reg)
  | .verrEw rm => some (rm, .verr, none)
  | .verwEw rm => some (rm, .verw, none)
  | .larGvEw r rm => some (rm, .lar, some r)
  | .lslGvEw r rm => some (rm, .lsl, some r)
  | _ => none

/-- The instructions that need privilege level 0, where no earlier check stops them (21_protection.md R184;
48_system_io.md R490 to R510). -/
def privilegedForm (s : State) : Instr → Bool
  | .lgdtMs rm => isMem rm
  | .lidtMs rm => isMem rm
  | .lldtEw _ => s.protectedMode
  | .ltrEw _ => s.protectedMode
  | .lmswEw _ => true
  | .clts => true
  | .hlt => true
  | .movCdRd n _ => crExists n
  | .movRdCd _ n => crExists n
  | .movDdRd n _ => n != 4#3 && n != 5#3
  | .movRdDd _ n => n != 4#3 && n != 5#3
  | .movTdRd n _ => n == 6#3 || n == 7#3
  | .movRdTd _ n => n == 6#3 || n == 7#3
  | _ => false

/-- The port instructions: input or not, width, port (48_system_io.md R530, R531). -/
structure PortForm where
  input : Bool
  sz : Size
  port : BitVec 16

/-- The forms of IN and OUT. -/
def portForm (s : State) : Instr → Option PortForm
  | .inAlIb p => some ⟨true, .b, p.setWidth 16⟩
  | .inEaxIb p => some ⟨true, s.osz, p.setWidth 16⟩
  | .inAlDx => some ⟨true, .b, s.reg .w .dx⟩
  | .inEaxDx => some ⟨true, s.osz, s.reg .w .dx⟩
  | .outIbAl p => some ⟨false, .b, p.setWidth 16⟩
  | .outIbEax p => some ⟨false, s.osz, p.setWidth 16⟩
  | .outDxAl => some ⟨false, .b, s.reg .w .dx⟩
  | .outDxEax => some ⟨false, s.osz, s.reg .w .dx⟩
  | _ => none

/-- The destination of the fifteen mnemonics LOCK may precede, in the forms whose destination is an `E` operand
(30_encoding.md R224). -/
def lockDest : Instr → Option Rm
  | .addEbGb rm _ => some rm
  | .addEvGv rm _ => some rm
  | .addEbIb rm _ => some rm
  | .addEvIv rm _ => some rm
  | .addEvIb rm _ => some rm
  | .orEbGb rm _ => some rm
  | .orEvGv rm _ => some rm
  | .orEbIb rm _ => some rm
  | .orEvIv rm _ => some rm
  | .orEvIb rm _ => some rm
  | .adcEbGb rm _ => some rm
  | .adcEvGv rm _ => some rm
  | .adcEbIb rm _ => some rm
  | .adcEvIv rm _ => some rm
  | .adcEvIb rm _ => some rm
  | .sbbEbGb rm _ => some rm
  | .sbbEvGv rm _ => some rm
  | .sbbEbIb rm _ => some rm
  | .sbbEvIv rm _ => some rm
  | .sbbEvIb rm _ => some rm
  | .andEbGb rm _ => some rm
  | .andEvGv rm _ => some rm
  | .andEbIb rm _ => some rm
  | .andEvIv rm _ => some rm
  | .andEvIb rm _ => some rm
  | .subEbGb rm _ => some rm
  | .subEvGv rm _ => some rm
  | .subEbIb rm _ => some rm
  | .subEvIv rm _ => some rm
  | .subEvIb rm _ => some rm
  | .xorEbGb rm _ => some rm
  | .xorEvGv rm _ => some rm
  | .xorEbIb rm _ => some rm
  | .xorEvIv rm _ => some rm
  | .xorEvIb rm _ => some rm
  | .incEb rm => some rm
  | .incEv rm => some rm
  | .decEb rm => some rm
  | .decEv rm => some rm
  | .notEb rm => some rm
  | .notEv rm => some rm
  | .negEb rm => some rm
  | .negEv rm => some rm
  | .btsEvGv rm _ => some rm
  | .btsEvIb rm _ => some rm
  | .btrEvGv rm _ => some rm
  | .btrEvIb rm _ => some rm
  | .btcEvGv rm _ => some rm
  | .btcEvIb rm _ => some rm
  | .xchgEbGb rm _ => some rm
  | .xchgEvGv rm _ => some rm
  | _ => none

/-- The forms LOCK may precede: those with a destination in memory (30_encoding.md R224). -/
def lockableForm (i : Instr) : Bool :=
  match lockDest i with
  | some (.mem _) => true
  | _ => false

/-- The prefix bytes and what each does to the prefix state (30_encoding.md R203). -/
def prefixForm : Instr → Option (Prefixes → Prefixes)
  | .prefixEs => some fun p => { p with segOvr := some .es }
  | .prefixCs => some fun p => { p with segOvr := some .cs }
  | .prefixSs => some fun p => { p with segOvr := some .ss }
  | .prefixDs => some fun p => { p with segOvr := some .ds }
  | .prefixFs => some fun p => { p with segOvr := some .fs }
  | .prefixGs => some fun p => { p with segOvr := some .gs }
  | .prefixOpsize => some fun p => { p with opsize := true }
  | .prefixAdsize => some fun p => { p with adsize := true }
  | .prefixLock => some fun p => { p with lock := true }
  | .prefixRepne => some fun p => { p with rep := .repne }
  | .prefixRep => some fun p => { p with rep := .rep }
  | _ => none

end Sys2Proof.Machine
end

