-- ==== Sys2Proof/Certificates/Slice0/Obligations.lean ====
section
/-! DEFINITION. The statements put to the provers. `s1`, `s2` are states between the parts of an instruction: locating an
operand may touch the TLB, the accessed and dirty bits of paging entries and the debug state, so results are said from the
state that locating left. Free values appear under an existential quantifier (log entry 1). A statement of the form
`exec i s = .next (t.finished .normal)` says where the instruction completes and, `t` being written out, its frame. -/
open Sys2Proof Sys2Proof.Machine

/-! ## What the shared parts leave alone -/

/-- Completing an instruction moves EIP to `EIP_next`, forgets the prefixes, clears RF unless it is kept, ends the shadows but for
one the instruction opens, and leaves every other register and every byte of memory as they are (R71, R88, R681). A step that leaves
its instruction unfinished, an element of a repetition or a poll of WAIT, leaves both shadows as they are: that is log entry 32
(DEDUCED) and, for the poll, which keeps RF as well, log entry 19 (DESIGN CHOICE). What completing does to the pending debug traps,
the statement on debug exceptions says. -/
def Obligations.CompletionLeavesTheRestAlone : Prop :=
  ∀ (s : State) (d : Done),
    let t := s.finished d
    t.eip = s.eipNext ∧ t.pfx = Prefixes.empty ∧
    t.flags = { s.flags with RF := s.flags.RF && !(d == .normal || d == .opensSs || d == .opensSti) } ∧
    (if d = .element ∨ d = .again then t.ssShadow = s.ssShadow ∧ t.stiShadow = s.stiShadow
      else t.ssShadow = (d == .opensSs) ∧ t.stiShadow = (d == .opensSti)) ∧
    t.gpr = s.gpr ∧ t.seg = s.seg ∧ t.cpl = s.cpl ∧ t.gdtr = s.gdtr ∧ t.idtr = s.idtr ∧ t.ldtr = s.ldtr ∧ t.tr = s.tr ∧
    t.cr0 = s.cr0 ∧ t.cr2 = s.cr2 ∧ t.cr3 = s.cr3 ∧ t.tr6 = s.tr6 ∧ t.tr7 = s.tr7 ∧ t.tlb = s.tlb ∧
    t.dbg.dr0 = s.dbg.dr0 ∧ t.dbg.dr1 = s.dbg.dr1 ∧ t.dbg.dr2 = s.dbg.dr2 ∧ t.dbg.dr3 = s.dbg.dr3 ∧
    t.dbg.dr6 = s.dbg.dr6 ∧ t.dbg.dr7 = s.dbg.dr7 ∧ t.run = s.run ∧ t.queue = s.queue ∧ t.pastEnd = s.pastEnd ∧
    t.nmiInService = s.nmiInService ∧ t.nmiPending = s.nmiPending ∧ t.pins = s.pins ∧ t.plat = s.plat ∧
    t.ioOut = s.ioOut ∧ t.copOut = s.copOut ∧ t.busOut = s.busOut ∧ t.lockOut = s.lockOut ∧ ∀ a, t.byteAt a = s.byteAt a

/-- Locating an operand with paging off and no breakpoint watching data: if the segment checks pass, the bytes are those from the
segment's base plus the offset; if they fail, #SS(0) for SS and #GP(0) for any other segment, and nothing changes. In a plain
state (all addresses RAM, no LOCK prefix) nothing changes when they pass either; otherwise the draw counter may move for bytes no
memory holds (log entry 5), and a LOCK prefix asserts LOCK# for a destination (R120, R131, R150, R170). In real-address mode the
segment checks are the limit's alone (R187, R709), but that attributes left by protected mode which do not permit writing keep
refusing writes (R713), through any register but CS; that the rules go together so is log entry 33 (DEDUCED). -/
def Obligations.LocatingAnOperandInAPlainState : Prop :=
  (∀ (s : State) (r : SReg) (off : BitVec 32) (n : Nat) (w : Bool), s.plain = true →
    locate r off n w s =
      if s.segOk r off n (if w then .write else .read) then .ok (Loc.from ((s.seg.get r).base + off) n) s
      else .error (.exc ⟨if r = .ss then 12#8 else 13#8, .sel 0#16⟩) s) ∧
  (∀ (s : State) (r : SReg) (off : BitVec 32) (n : Nat) (w : Bool), s.direct = true →
    let l := Loc.from ((s.seg.get r).base + off) n
    let u := if l.all fun a => (s.kindAt a).holds then s else s.drawn (s.draws + 1)
    locate r off n w s =
      if s.segOk r off n (if w then .write else .read)
      then .ok l (if w && s.pfx.lock then { u with lockOut := ⟨.prefixed, l⟩ :: u.lockOut } else u)
      else .error (.exc ⟨if r = .ss then 12#8 else 13#8, .sel 0#16⟩) s) ∧
  (∀ (s : State) (r : SReg) (off : BitVec 32) (n : Nat) (k : AccessKind), s.protectedMode = false →
    let g := s.seg.get r
    (s.segOk r off n k = true ↔ g.inLimit off n = true ∧ (k = .write → r = .cs ∨ g.executable = false ∧ g.bit1 = true)))

/-- Page translation. With paging off the physical address is the linear one. A successful translation writes none of the registers
named and, where memory holds the directory entry (in a device or in nothing it reads as free values, log entry 5), no byte of memory
but those of that entry and of the table entry it leads to. With no translation cached and both
entries in RAM: an entry with P = 0 is #PF "not present", an access the entries do not permit at user level is #PF "protection",
CR2 receiving the address and the error code the access, and nothing else changing but draws; otherwise the frame is the table
entry's, both accessed bits are set, a write sets the dirty bit, and every other bit of the entries stays. A cached translation
may be used if it permits the access (and is dirty, for a write), else refused, or the tables are walked, by a free value
(R130 to R137, R141, R595). -/
def Obligations.PageTranslation : Prop :=
  (∀ (s : State) (la : BitVec 32) (w u : Bool), s.cr0.PG = false → translate la w u s = .ok la s) ∧
  (∀ (s t : State) (la pa : BitVec 32) (w u : Bool), translate la w u s = .ok pa t →
    t.gpr = s.gpr ∧ t.seg = s.seg ∧ t.flags = s.flags ∧ t.cr0 = s.cr0 ∧ t.cr2 = s.cr2 ∧ t.cr3 = s.cr3 ∧
    ((∀ a, a ∈ Loc.from (s.pdeAddr la) 4 → s.kindAt a = .ram ∨ s.kindAt a = .rom) →
      s.sameBytes t (Loc.from (s.pdeAddr la) 4 ++ Loc.from (pteAddr (s.phys32 (s.pdeAddr la)) la) 4))) ∧
  (∀ (s : State) (la : BitVec 32) (w u : Bool), s.cr0.PG = true → Memory.wf s.mem = true →
    s.tlbMatches (la.extractLsb' 12 20) = [] →
    let da := s.cr3 ++ la.extractLsb' 22 10 ++ 0#2
    let pde := s.phys32 da
    let ta := pde.extractLsb' 12 20 ++ la.extractLsb' 12 10 ++ 0#2
    let pte := s.phys32 ta
    (∀ a, a ∈ Loc.from da 4 ++ Loc.from ta 4 → s.kindAt a = .ram) →
    if pde.getLsbD 0 = false ∨ pte.getLsbD 0 = false then
      translate la w u s = .error (.exc ⟨14#8, .page false w u⟩) { s with cr2 := la }
    else if u = true ∧ ((pde.getLsbD 2 && pte.getLsbD 2) = false ∨ w = true ∧ (pde.getLsbD 1 && pte.getLsbD 1) = false) then
      translate la w u s = .error (.exc ⟨14#8, .page true w u⟩) { s with cr2 := la }
    else ∃ t, translate la w u s = .ok (pte.extractLsb' 12 20 ++ la.extractLsb' 0 12) t ∧
      (t.phys32 da).getLsbD 5 = true ∧ (t.phys32 ta).getLsbD 5 = true ∧ (w = true → (t.phys32 ta).getLsbD 6 = true) ∧
      (∀ k, k ≠ 5 → k ≠ 6 → (t.phys32 da).getLsbD k = pde.getLsbD k ∧ (t.phys32 ta).getLsbD k = pte.getLsbD k)) ∧
  (∀ (s : State) (la : BitVec 32) (w u : Bool) (b : Nat) (e : TlbEntry), s.cr0.PG = true →
    s.tlbMatches (la.extractLsb' 12 20) = [(b, e)] →
    let permits := u = false ∨ e.u = true ∧ (w = true → e.w = true)
    let s1 := s.drawn (s.draws + 1)
    (w = true → e.d = true) ∧ permits ∧ translate la w u s = .ok (e.phys ++ la.extractLsb' 0 12) s1 ∨
    (w = true → e.d = true) ∧ ¬ permits ∧ translate la w u s = .error (.exc ⟨14#8, .page true w u⟩) { s1 with cr2 := la } ∨
    translate la w u s = (do let f ← walk la w u; pure (f ++ la.extractLsb' 0 12) : M (BitVec 32)) s1)

/-- In a memory in canonical form (an invariant of every step), a value stored at distinct addresses of RAM is read back there,
and every other byte of memory reads as before. What is not RAM keeps no byte stored to it; a device receives the byte. Which
addresses are RAM is the platform's (log entry 5: `PHYS_MEM_MAP` as data; with no region declared, all) (R100 to R102, R107). -/
def Obligations.StoreThenLoad : Prop :=
  (∀ (s : State) (sz : Size) (l : Loc) (v : BitVec sz.bits), Memory.wf s.mem = true → l.Nodup → l.length = sz.bytes →
    (∀ a, a ∈ l → s.kindAt a = .ram) →
    (s.store l v).load sz.bits l = v ∧ s.sameBytes (s.store l v) l ∧ (s.store l v).busOut = s.busOut) ∧
  (∀ (s : State) (w : Nat) (l : Loc) (v : BitVec w) (a : BitVec 32), s.kindAt a ≠ .ram → (s.store l v).byteAt a = s.byteAt a) ∧
  (∀ (s : State) (a : BitVec 32) (v : BitVec 8),
    (s.kindAt a = .device → (s.store [a] v).busOut = ⟨a, v⟩ :: s.busOut) ∧
    (s.kindAt a ≠ .device → (s.store [a] v).busOut = s.busOut) ∧
    (s.kindAt a = .ram ∨ s.kindAt a = .rom → s.load 8 [a] = s.byteAt a)) ∧
  (∀ (s : State) (a : BitVec 32), s.plat.memMap = [] → s.kindAt a = .ram)

/-- The names of the general registers: AX to DI are bits 15 to 0 of EAX to EDI, AL to BL bits 7 to 0 and AH to BH bits 15 to 8 of
EAX to EBX. A register written at a width reads back what was written; the other bits of its doubleword (the spec's own inference,
R31 "derived") and the other seven doublewords keep their value (R31, R261). -/
def Obligations.RegisterAliases : Prop :=
  ∀ (g : Gpr) (sz : Size) (r : Reg) (v : BitVec sz.bits),
    g.read .d r = g.get r ∧ g.read .w r = (g.get r).extractLsb' 0 16 ∧
    g.read .b .ax = g.eax.extractLsb' 0 8 ∧ g.read .b .cx = g.ecx.extractLsb' 0 8 ∧
    g.read .b .dx = g.edx.extractLsb' 0 8 ∧ g.read .b .bx = g.ebx.extractLsb' 0 8 ∧
    g.read .b .sp = g.eax.extractLsb' 8 8 ∧ g.read .b .bp = g.ecx.extractLsb' 8 8 ∧
    g.read .b .si = g.edx.extractLsb' 8 8 ∧ g.read .b .di = g.ebx.extractLsb' 8 8 ∧
    (g.write sz r v).read sz r = v ∧
    (∀ x, x ≠ (if sz = .b then (byteHome r).1 else r) → (g.write sz r v).get x = g.get x) ∧
    (sz = .w → ((g.write sz r v).get r).extractLsb' 16 16 = (g.get r).extractLsb' 16 16) ∧
    (sz = .b → ∀ k, k < 32 → k / 8 ≠ (if (byteHome r).2 then 1 else 0) →
      ((g.write sz r v).get (byteHome r).1).getLsbD k = (g.get (byteHome r).1).getLsbD k)

/-! ## Arithmetic -/

/-- ADD, ADC, SUB, SBB, AND, OR, XOR with an `E` or accumulator destination: the result is written where the destination
was located, the flags are those of the operation, and no other byte of memory changes. The same operations with a
register destination and an `E` source: memory is only read. -/
def Obligations.AluOperations : Prop :=
  (∀ (i : Instr) (s s1 : State) (f : AluTo) (p : Place),
    aluToForm s i = some f → s.lockOk f.rm = true → place f.sz f.rm true s = .ok p s1 →
    let a := s1.valueAt f.sz p
    ∃ af n, exec i s = .next ((((s1.drawn n).withStatus (f.op.status a f.src s1.flags.CF af)).putAt f.sz p
        (f.op.result a f.src s1.flags.CF)).finished .normal) ∧
      s1.sameBytes ((((s1.drawn n).withStatus (f.op.status a f.src s1.flags.CF af)).putAt f.sz p
        (f.op.result a f.src s1.flags.CF)).finished .normal) p.bytes) ∧
  (∀ (i : Instr) (s s1 : State) (f : AluFrom) (p : Place),
    aluFromForm s i = some f → s.pfx.lock = false → place f.sz f.rm false s = .ok p s1 →
    let a := s.reg f.sz f.r
    let b := s1.valueAt f.sz p
    ∃ af n, exec i s = .next ((((s1.drawn n).withStatus (f.op.status a b s.flags.CF af)).setReg f.sz f.r
        (f.op.result a b s.flags.CF)).finished .normal))

/-- CMP and TEST write the flags only: those of the difference, or of the AND with AF free. INC, DEC, NEG, NOT: result and flags,
and no other byte of memory. -/
def Obligations.ComparisonsAndUnaryOperations : Prop :=
  (∀ (i : Instr) (s s1 : State) (f : Comparison) (p : Place),
    cmpForm s i = some f → s.pfx.lock = false → place f.sz f.rm false s = .ok p s1 →
    let v := s1.valueAt f.sz p
    exec i s = .next ((s1.withStatus (if f.rmFirst then subFlags v f.other false else subFlags f.other v false).2).finished .normal)) ∧
  (∀ (i : Instr) (s s1 : State) (f : Comparison) (p : Place),
    testForm s i = some f → s.pfx.lock = false → place f.sz f.rm false s = .ok p s1 →
    ∃ af n, exec i s = .next (((s1.drawn n).withStatus (logicFlags (s1.valueAt f.sz p &&& f.other) af)).finished .normal)) ∧
  (∀ (i : Instr) (s s1 : State) (f : Unary) (p : Place),
    unaryForm s i = some f → s.lockOk f.rm = true → place f.sz f.rm true s = .ok p s1 →
    let a := s1.valueAt f.sz p
    exec i s = .next (({ s1 with flags := f.op.flags a s1.flags }.putAt f.sz p (f.op.result a)).finished .normal) ∧
    s1.sameBytes (({ s1 with flags := f.op.flags a s1.flags }.putAt f.sz p (f.op.result a)).finished .normal) p.bytes)

/-- The flag functions are exact, at every width: results wrap; CF tells an unsigned sum or difference out of range, OF a
signed one, as the sign bits show; AF a carry or borrow at bit 4; ZF a zero result, SF its sign bit, PF an even number of ones in
its low byte; the logical functions clear CF and OF, AF being free (R290). -/
def Obligations.FlagFunctionsAreExact : Prop :=
  ∀ (sz : Size) (a b : BitVec sz.bits) (c af : Bool),
    let w := sz.bits
    let r := (addFlags a b c).1
    let f := (addFlags a b c).2
    let q := (subFlags a b c).1
    let g := (subFlags a b c).2
    let h := logicFlags a af
    let ones (v : BitVec w) : Nat := (List.range 8).countP fun k => v.getLsbD k
    r = a + b + BitVec.ofNat w c.toNat ∧ q = a - b - BitVec.ofNat w c.toNat ∧
    (f.CF = true ↔ 2 ^ w ≤ a.toNat + b.toNat + c.toNat) ∧ (g.CF = true ↔ (a.toNat : Int) - b.toNat - c.toNat < 0) ∧
    (f.OF = true ↔ a.msb = b.msb ∧ r.msb ≠ a.msb) ∧ (g.OF = true ↔ a.msb ≠ b.msb ∧ q.msb ≠ a.msb) ∧
    (f.OF = true ↔ a.toInt + b.toInt + c.toNat ≠ r.toInt) ∧ (g.OF = true ↔ a.toInt - b.toInt - c.toNat ≠ q.toInt) ∧
    (f.AF = true ↔ 16 ≤ a.toNat % 16 + b.toNat % 16 + c.toNat) ∧
    (g.AF = true ↔ (a.toNat % 16 : Int) - (b.toNat % 16 : Nat) - c.toNat < 0) ∧
    (f.ZF = true ↔ r = 0#w) ∧ (g.ZF = true ↔ q = 0#w) ∧ (h.ZF = true ↔ a = 0#w) ∧
    f.SF = r.msb ∧ g.SF = q.msb ∧ h.SF = a.msb ∧
    (f.PF = true ↔ ones r % 2 = 0) ∧ (g.PF = true ↔ ones q % 2 = 0) ∧ (h.PF = true ↔ ones a % 2 = 0) ∧
    h.CF = false ∧ h.OF = false ∧ h.AF = af

/-- MUL and IMUL of one operand: the double-length product in AX, DX:AX or EDX:EAX, CF = OF = the upper half matters, the
other four flags free. IMUL into a register: the truncated product, CF = OF = it does not fit, the other four flags free. -/
def Obligations.Multiplications : Prop :=
  (∀ (i : Instr) (s s1 : State) (f : Wide) (p : Place),
    mulForm s i = some f → s.pfx.lock = false → place f.sz f.rm false s = .ok p s1 →
    let x := f.int (s.reg f.sz .ax) * f.int (s1.valueAt f.sz p)
    let lo := BitVec.ofInt f.sz.bits x
    ∃ st n, st.CF = decide (f.int lo ≠ x) ∧ st.OF = st.CF ∧
      exec i s = .next (((((s1.drawn n).setReg f.sz .ax lo).setReg f.sz (highAcc f.sz)
        (BitVec.ofInt f.sz.bits (x / 2 ^ f.sz.bits))).withStatus st).finished .normal)) ∧
  (∀ (i : Instr) (s s1 : State) (f : ImulTo) (p : Place),
    imulToForm s i = some f → s.pfx.lock = false → place f.sz f.rm false s = .ok p s1 →
    let v := s1.valueAt f.sz p
    ∃ st n, st.CF = decide ((v * f.other).toInt ≠ v.toInt * f.other.toInt) ∧ st.OF = st.CF ∧
      exec i s = .next ((((s1.drawn n).setReg f.sz f.r (v * f.other)).withStatus st).finished .normal))

/-- DIV and IDIV: with a divisor that is not zero and a quotient in range, quotient and remainder replace the dividend, the
remainder taking the dividend's sign, and the six flags are free; otherwise #DE is taken with nothing written. -/
def Obligations.DivisionAndItsError : Prop :=
  ∀ (i : Instr) (s s1 : State) (f : Wide) (p : Place),
    divForm s i = some f → s.pfx.lock = false → place f.sz f.rm false s = .ok p s1 →
    let d := s1.valueAt f.sz p
    let q := f.quotient s d
    if d ≠ 0#f.sz.bits ∧ f.fits q = true then
      ∃ st n, exec i s = .next (((((s1.drawn n).setReg f.sz .ax (BitVec.ofInt f.sz.bits q)).setReg f.sz (highAcc f.sz)
        (BitVec.ofInt f.sz.bits ((f.dividend s).tmod (f.int d)))).withStatus st).finished .normal)
    else exec i s = s.takes s1 0#8 .none

/-! ## Decimal arithmetic -/

/-- DAA, DAS, AAA and AAS write AL (AAA and AAS also AH) and the flags their rules define. AAM divides AL by its byte, #DE
when that is 0; AAD adds AH times its byte to AL and clears AH; SF, ZF, PF from AL. The other flags are free. -/
def Obligations.DecimalInstructions : Prop :=
  (∀ (s : State), s.pfx.lock = false →
    let al := s.reg .b .ax
    let ah := s.reg .b .sp
    let lo := decide (9 < al.toNat % 16) || s.flags.AF
    let hi := decide (0x99 < al.toNat) || s.flags.CF
    (∃ of n, let v := al + (if lo then 6#8 else 0#8) + (if hi then 0x60#8 else 0#8)
      exec .daa s = .next ((((s.drawn n).setReg .b .ax v).withStatus ⟨hi, parityOf v, lo, zeroOf v, signOf v, of⟩).finished .normal)) ∧
    (∃ of n, let v := al - (if lo then 6#8 else 0#8) - (if hi then 0x60#8 else 0#8)
      let cf := hi || (lo && decide (al.toNat < 6))
      exec .das s = .next ((((s.drawn n).setReg .b .ax v).withStatus ⟨cf, parityOf v, lo, zeroOf v, signOf v, of⟩).finished .normal)) ∧
    (∃ st n, st.CF = lo ∧ st.AF = lo ∧
      exec .aaa s = .next (((((s.drawn n).setReg .b .ax ((al + if lo then 6#8 else 0#8) &&& 15#8)).setReg .b .sp
        (ah + if lo then 1#8 else 0#8)).withStatus st).finished .normal)) ∧
    (∃ st n, st.CF = lo ∧ st.AF = lo ∧
      exec .aas s = .next (((((s.drawn n).setReg .b .ax ((al - if lo then 6#8 else 0#8) &&& 15#8)).setReg .b .sp
        (ah - if lo then 1#8 else 0#8)).withStatus st).finished .normal))) ∧
  (∀ (s : State) (k : BitVec 8), s.pfx.lock = false →
    let al := s.reg .b .ax
    let ah := s.reg .b .sp
    (k = 0#8 → exec (.aam k) s = s.takes s 0#8 .none) ∧
    (k ≠ 0#8 → ∃ st n, st.SF = (al % k).msb ∧ st.ZF = decide (al % k = 0#8) ∧ st.PF = parityOf (al % k) ∧
      exec (.aam k) s = .next (((((s.drawn n).setReg .b .sp (al / k)).setReg .b .ax (al % k)).withStatus st).finished .normal)) ∧
    (∃ st n, st.SF = (ah * k + al).msb ∧ st.ZF = decide (ah * k + al = 0#8) ∧ st.PF = parityOf (ah * k + al) ∧
      exec (.aad k) s = .next (((((s.drawn n).setReg .b .ax (ah * k + al)).setReg .b .sp 0#8).withStatus st).finished .normal)))

/-- DAA makes a correct packed sum of the binary sum of two packed numbers, and DAS a correct packed difference: for two
numbers below 100 the digits come out modulo 100, and CF is the decimal carry or borrow (R320, R322, R323). -/
def Obligations.PackedDecimalIsCorrect : Prop :=
  ∀ x y : Fin 100,
    let bcd (n : Nat) : BitVec 8 := BitVec.ofNat 8 (16 * (n / 10) + n % 10)
    let add := addFlags (bcd x) (bcd y) false
    let sub := subFlags (bcd x) (bcd y) false
    (daaResult add.1 add.2.AF add.2.CF).1 = bcd ((x.val + y.val) % 100) ∧
    (daaResult add.1 add.2.AF add.2.CF).2.2 = decide (100 ≤ x.val + y.val) ∧
    (dasResult sub.1 sub.2.AF sub.2.CF).1 = bcd ((100 + x.val - y.val) % 100) ∧
    (dasResult sub.1 sub.2.AF sub.2.CF).2.2 = decide (x.val < y.val)

/-! ## Data movement -/

/-- MOV to an `E` operand, a direct offset or a register, and SETcc: the value is written there, no flag and no other byte
of memory changes. MOV, MOVZX and MOVSX to a register. XCHG: the two operands change places; LOCK may stand before a memory form,
and LOCK# is asserted for one without it too. -/
def Obligations.MovesExchangesAndSetcc : Prop :=
  (∀ (i : Instr) (s s1 : State) (f : StoreForm) (p : Place),
    storeForm s i = some f → s.pfx.lock = false → place f.sz f.rm true s = .ok p s1 →
    exec i s = .next ((s1.putAt f.sz p f.v).finished .normal) ∧
    s1.sameBytes ((s1.putAt f.sz p f.v).finished .normal) p.bytes) ∧
  (∀ (i : Instr) (s s1 : State) (f : LoadForm) (p : Place),
    loadForm s i = some f → s.pfx.lock = false → place f.src f.rm false s = .ok p s1 →
    exec i s = .next ((s1.setReg f.dst f.r (f.value (s1.valueAt f.src p))).finished .normal)) ∧
  (∀ (i : Instr) (s s1 : State) (f : Exchange) (p : Place),
    xchgForm s i = some f → s.lockOk f.rm = true → place f.sz f.rm true s = .ok p s1 →
    let s2 := match p with
      | .reg _ => s1
      | .mem l => if s.pfx.lock then s1 else { s1 with lockOut := ⟨.exchange, l⟩ :: s1.lockOut }
    exec i s = .next (((s2.putAt f.sz p (s.reg f.sz f.r)).setReg f.sz f.r (s1.valueAt f.sz p)).finished .normal) ∧
    s1.sameBytes (((s2.putAt f.sz p (s.reg f.sz f.r)).setReg f.sz f.r (s1.valueAt f.sz p)).finished .normal) p.bytes)

/-- PUSH of a register, an immediate, the flags, and of an `E` operand: the value goes just below the stack pointer, which
moves down by its width. -/
def Obligations.PushesStoreBelowTheStackPointer : Prop :=
  (∀ (i : Instr) (s s1 : State) (v : BitVec s.osz.bits) (l : Loc),
    pushForm s i = some v → s.pfx.lock = false → locate .ss (s.below s.osz.bytes) s.osz.bytes true s = .ok l s1 →
    exec i s = .next (((s1.store l v).setStackPtr (s.below s.osz.bytes)).finished .normal) ∧
    s1.sameBytes (((s1.store l v).setStackPtr (s.below s.osz.bytes)).finished .normal) l) ∧
  (∀ (rm : Rm) (s s1 s2 : State) (p : Place) (l : Loc),
    s.pfx.lock = false → place s.osz rm false s = .ok p s1 → locate .ss (s.below s.osz.bytes) s.osz.bytes true s1 = .ok l s2 →
    exec (.pushEv rm) s = .next (((s2.store l (s1.valueAt s.osz p)).setStackPtr (s.below s.osz.bytes)).finished .normal) ∧
    s2.sameBytes (((s2.store l (s1.valueAt s.osz p)).setStackPtr (s.below s.osz.bytes)).finished .normal) l)

/-- POP into a register, into an `E` operand (its address computed after the stack pointer moved), and into the flags:
POPF changes IF only at a sufficient privilege level, IOPL only at level 0, RF and VM never. -/
def Obligations.PopsReadAtTheStackPointer : Prop :=
  ∀ (s s1 : State) (l : Loc), s.pfx.lock = false → locate .ss s.stackPtr s.osz.bytes false s = .ok l s1 →
    let v := s1.load s.osz.bits l
    let s2 := s1.setStackPtr (s.above s.osz.bytes)
    (∀ r, exec (.popReg r) s = .next ((s2.setReg s.osz r v).finished .normal)) ∧
    (∀ rm p s3, place s.osz rm true s2 = .ok p s3 → exec (.popEv rm) s = .next ((s3.putAt s.osz p v).finished .normal)) ∧
    (let g := Eflags.ofBits (v.setWidth 32)
     exec .popf s = .next ({ s2 with flags := { g with IF := if s.cpl.toNat ≤ s.flags.IOPL.toNat then g.IF else s.flags.IF,
                                                       IOPL := if s.cpl = 0#2 then g.IOPL else s.flags.IOPL,
                                                       RF := s.flags.RF, VM := s.flags.VM } }.finished .keepRF))

/-- PUSHA stores the eight registers in order below the stack pointer, SP as it was before; POPA loads them back but for SP.
Said for a plain state. The frame, below the stack pointer for PUSHA and from it up for POPA, passes the segment checks as one
block, else #SS(0) (R172 says so of PUSHA; of POPA it is log entry 18, DEDUCED); but PUSHA in real-address mode with SP = 1, 3 or 5
shuts the processor down, and with 16-bit items and SP = 7, 9, 11, 13 or 15 is interrupt 13 (R265, R266, R707; log entry 20:
DEDUCED). -/
def Obligations.PushAllAndPopAll : Prop :=
  ∀ (s : State), s.plain = true →
    let n := s.osz.bytes
    let put (t : State) (k : Nat) (v : BitVec s.osz.bits) : State :=
      t.store (s.bytesAt .ss (wrapOff s.ssz32 (s.stackPtr - BitVec.ofNat 32 (k * n))) n) v
    let item (k : Nat) : BitVec s.osz.bits := s.load s.osz.bits (s.bytesAt .ss (s.above (k * n)) n)
    let passes : Prop := s.segOk .ss (s.below (8 * n)) (8 * n) .write = true
    let down : Prop := s.protectedMode = false ∧ s.stackPtr.toNat ∈ [1, 3, 5]
    let thirteen : Prop := s.protectedMode = false ∧ s.osz = .w ∧ s.stackPtr.toNat ∈ [7, 9, 11, 13, 15]
    (¬ down → ¬ thirteen → passes →
      exec .pusha s = .next (((put (put (put (put (put (put (put (put s 1 (s.reg s.osz .ax)) 2 (s.reg s.osz .cx))
        3 (s.reg s.osz .dx)) 4 (s.reg s.osz .bx)) 5 (s.reg s.osz .sp)) 6 (s.reg s.osz .bp)) 7 (s.reg s.osz .si))
        8 (s.reg s.osz .di)).setStackPtr (s.below (8 * n))).finished .normal)) ∧
    (¬ down → ¬ thirteen → ¬ passes → exec .pusha s = s.takes s 12#8 (.sel 0#16)) ∧
    (down → exec .pusha s = .next (State.rollback s s).shutDown) ∧
    (thirteen → exec .pusha s = s.takes s 13#8 (.sel 0#16)) ∧
    (s.segOk .ss s.stackPtr (8 * n) .read = false → exec .popa s = s.takes s 12#8 (.sel 0#16)) ∧
    (s.segOk .ss s.stackPtr (8 * n) .read = true →
      exec .popa s = .next (((((((((s.setReg s.osz .di (item 0)).setReg s.osz .si (item 1)).setReg s.osz .bp (item 2)).setReg
        s.osz .bx (item 4)).setReg s.osz .dx (item 5)).setReg s.osz .cx (item 6)).setReg s.osz .ax (item 7)).setStackPtr
        (s.above (8 * n))).finished .normal))

/-- CBW, CWDE, CWD, CDQ, LEA (#UD with a register operand), LAHF (bits 5, 3, 1 free), SAHF. XLAT loads AL from the table
at EBX (or BX) indexed by AL. -/
def Obligations.AccumulatorAndTableForms : Prop :=
  (∀ (s : State), s.pfx.lock = false →
    (s.attrs.o32 = true → exec .cbwCwde s = .next ((s.setReg .d .ax ((s.reg .w .ax).signExtend 32)).finished .normal)) ∧
    (s.attrs.o32 = false → exec .cbwCwde s = .next ((s.setReg .w .ax ((s.reg .b .ax).signExtend 16)).finished .normal)) ∧
    exec .cwdCdq s = .next ((s.setReg s.osz .dx (if (s.reg s.osz .ax).msb then BitVec.allOnes s.osz.bits else 0#s.osz.bits)).finished .normal) ∧
    (∀ r m, exec (.leaGvM r (.mem m)) s = .next ((s.setReg s.osz r ((memEa s.gpr m).setWidth s.osz.bits)).finished .normal)) ∧
    (∀ r e, exec (.leaGvM r (.reg e)) s = s.takes s 6#8 .none) ∧
    (∃ (v : BitVec 8) (n : Nat), v.getLsbD 7 = s.flags.SF ∧ v.getLsbD 6 = s.flags.ZF ∧ v.getLsbD 4 = s.flags.AF ∧
      v.getLsbD 2 = s.flags.PF ∧ v.getLsbD 0 = s.flags.CF ∧
      exec .lahf s = .next (((s.drawn n).setReg .b .sp v).finished .normal)) ∧
    (let ah := s.reg .b .sp
     exec .sahf s = .next ({ s with flags := { s.flags with SF := ah.getLsbD 7, ZF := ah.getLsbD 6, AF := ah.getLsbD 4,
                                                            PF := ah.getLsbD 2, CF := ah.getLsbD 0 } }.finished .normal))) ∧
  (∀ (s s1 : State) (l : Loc), s.pfx.lock = false →
    locate (s.segFor .ds) (if s.attrs.a32 then s.gpr.ebx + (s.reg .b .ax).setWidth 32
      else ((s.reg .w .bx) + (s.reg .b .ax).setWidth 16).setWidth 32) 1 false s = .ok l s1 →
    exec .xlat s = .next ((s1.setReg .b .ax (s1.load 8 l)).finished .normal))

/-- STC, CLC, CMC, CLD, STD: encoding and effect; each changes its flag alone, whatever the mode and level, and only a LOCK prefix
matters to it, which is #UD (R424 to R429). -/
def Obligations.FlagControlInstructions : Prop :=
  (∀ (a : Attrs) (s : State), s.pfx.lock = false →
    (decode a [0xF9#8] = .ok .stc [] ∧ exec .stc s = .next ({ s with flags := { s.flags with CF := true } }.finished .normal)) ∧
    (decode a [0xF8#8] = .ok .clc [] ∧ exec .clc s = .next ({ s with flags := { s.flags with CF := false } }.finished .normal)) ∧
    (decode a [0xF5#8] = .ok .cmc [] ∧ exec .cmc s = .next ({ s with flags := { s.flags with CF := !s.flags.CF } }.finished .normal)) ∧
    (decode a [0xFC#8] = .ok .cld [] ∧ exec .cld s = .next ({ s with flags := { s.flags with DF := false } }.finished .normal)) ∧
    (decode a [0xFD#8] = .ok .std [] ∧ exec .std s = .next ({ s with flags := { s.flags with DF := true } }.finished .normal))) ∧
  (∀ (i : Instr) (s : State), i ∈ [Instr.stc, .clc, .cmc, .cld, .std] → s.pfx.lock = true → exec i s = s.takes s 6#8 .none)

/-! ## Shifts, rotates, bits -/

/-- The seven shifts and rotates: a masked count of 0 changes nothing; otherwise the operand takes `count mod 32` single-bit
steps, CF is the last bit moved out, and the flags follow. -/
def Obligations.ShiftsAndRotates : Prop :=
  ∀ (i : Instr) (s : State) (f : ShiftForm), shiftForm s i = some f → s.pfx.lock = false →
    let c := f.count.toNat % 32
    (c = 0 → exec i s = .next (s.finished .normal)) ∧
    (∀ p s1, c ≠ 0 → place f.sz f.rm true s = .ok p s1 →
      let v := s1.valueAt f.sz p
      let r := f.op.steps c v s1.flags.CF
      ∃ af of n, exec i s =
          .next (({ s1.drawn n with flags := f.op.flags c v r af of s1.flags }.putAt f.sz p r.1).finished .normal) ∧
        s1.sameBytes (({ s1.drawn n with flags := f.op.flags c v r af of s1.flags }.putAt f.sz p r.1).finished .normal) p.bytes)

/-- The single-bit steps of SHL, SHR and SAR in closed form: value, and the last bit moved out (R344 to R346). The
single-bit steps of the rotates in closed form; RCL and RCR rotate the operand and CF together, one bit wider (R350 to
R353). -/
def Obligations.ShiftsInClosedForm : Prop :=
  (∀ (sz : Size) (v : BitVec sz.bits) (cf : Bool) (c : Nat), 0 < c →
    ShiftOp.shl.steps c v cf = (v <<< c, decide (c ≤ sz.bits) && v.getLsbD (sz.bits - c)) ∧
    ShiftOp.shr.steps c v cf = (v >>> c, v.getLsbD (c - 1)) ∧
    ShiftOp.sar.steps c v cf = (v.sshiftRight c, if c ≤ sz.bits then v.getLsbD (c - 1) else v.msb)) ∧
  (∀ (sz : Size) (v : BitVec sz.bits) (cf : Bool) (c : Nat),
    (ShiftOp.rol.steps c v cf).1 = v.rotateLeft c ∧ (ShiftOp.ror.steps c v cf).1 = v.rotateRight c ∧
    (let r := ShiftOp.rcl.steps c v cf
     (BitVec.ofBool r.2 ++ r.1) = (BitVec.ofBool cf ++ v).rotateLeft c) ∧
    (let r := ShiftOp.rcr.steps c v cf
     (BitVec.ofBool r.2 ++ r.1) = (BitVec.ofBool cf ++ v).rotateRight c) ∧
    (0 < c → (ShiftOp.rol.steps c v cf).2 = (v.rotateLeft c).getLsbD 0 ∧ (ShiftOp.ror.steps c v cf).2 = (v.rotateRight c).msb))

/-- SHLD and SHRD: a masked count of 0 changes nothing; up to the width, bits come in from the source, CF is the last bit
moved out, SF, ZF, PF are of the result, AF and OF free; above the width, result and flags are free. -/
def Obligations.DoubleShifts : Prop :=
  ∀ (i : Instr) (s : State) (f : DoubleForm), doubleForm s i = some f → s.pfx.lock = false →
    let c := f.count.toNat % 32
    (c = 0 → exec i s = .next (s.finished .normal)) ∧
    (∀ p s1, c ≠ 0 → place s.osz f.rm true s = .ok p s1 →
      let d := s1.valueAt s.osz p
      ∃ (v : BitVec s.osz.bits) (st : Status) (n : Nat),
        (c ≤ s.osz.bits → v = doubleValue f.right d (s.reg s.osz f.r) c ∧
          st.CF = d.getLsbD (if f.right then c - 1 else s.osz.bits - c) ∧
          st.SF = v.msb ∧ st.ZF = decide (v = 0#s.osz.bits) ∧ st.PF = parityOf v) ∧
        exec i s = .next ((((s1.drawn n).withStatus st).putAt s.osz p v).finished .normal) ∧
        s1.sameBytes ((((s1.drawn n).withStatus st).putAt s.osz p v).finished .normal) p.bytes)

/-- BT, BTS, BTR, BTC on a bit of their operand: CF is the selected bit, the bit is kept, set, reset or complemented,
every other bit of the operand is kept, the other status flags are free; BT writes nothing else. The same with a bit
string in memory: bit `o` of the string, `o` signed, is bit `o mod width` of the unit `o / width` units from the operand's
address. BSF and BSR: the index of the lowest or highest set bit, ZF = 0; a zero source gives ZF = 1 and a free destination; the
other status flags are free. -/
def Obligations.BitTestsAndScans : Prop :=
  (∀ (i : Instr) (s s1 : State) (f : BitForm) (p : Place), bitForm s i = some f →
    (if f.op = .test then s.pfx.lock = false else s.lockOk f.rm = true) →
    place s.osz f.rm (f.op != .test) s = .ok p s1 →
    let v := s1.valueAt s.osz p
    ∃ (x : BitVec s.osz.bits) (st : Status) (n : Nat), st.CF = v.getLsbD f.bitNo ∧
      (∀ k, k < s.osz.bits → x.getLsbD k = if k = f.bitNo then f.op.bit (v.getLsbD k) else v.getLsbD k) ∧
      exec i s = .next ((if f.op = .test then (s1.drawn n).withStatus st
        else ((s1.drawn n).withStatus st).putAt s.osz p x).finished .normal)) ∧
  (∀ (i : Instr) (s s1 : State) (op : BitOp) (m : Mem) (r : Reg) (l : Loc), bitStringForm i = some (op, m, r) →
    (op = .test → s.pfx.lock = false) →
    let o := (s.reg s.osz r).toInt
    let k := (o % s.osz.bits).toNat
    let off := memEa s.gpr m + BitVec.ofInt 32 (s.osz.bytes * (o / s.osz.bits))
    locate (s.memSeg m) (match m with | .a32 .. => off | .a16 .. => (off.setWidth 16).setWidth 32) s.osz.bytes (op != .test) s = .ok l s1 →
    let v := s1.load s.osz.bits l
    ∃ (x : BitVec s.osz.bits) (st : Status) (n : Nat), st.CF = v.getLsbD k ∧
      (∀ j, j < s.osz.bits → x.getLsbD j = if j = k then op.bit (v.getLsbD j) else v.getLsbD j) ∧
      exec i s = .next ((if op = .test then (s1.drawn n).withStatus st else ((s1.drawn n).withStatus st).store l x).finished .normal)) ∧
  (∀ (s s1 : State) (r : Reg) (rm : Rm) (p : Place), s.pfx.lock = false → place s.osz rm false s = .ok p s1 →
    let v := s1.valueAt s.osz p
    (∃ (x : BitVec s.osz.bits) (st : Status) (n : Nat), st.ZF = decide (v = 0#s.osz.bits) ∧
      (v ≠ 0#s.osz.bits → v.getLsbD x.toNat = true ∧ ∀ k, k < x.toNat → v.getLsbD k = false) ∧
      exec (.bsfGvEv r rm) s = .next ((((s1.drawn n).setReg s.osz r x).withStatus st).finished .normal)) ∧
    (∃ (x : BitVec s.osz.bits) (st : Status) (n : Nat), st.ZF = decide (v = 0#s.osz.bits) ∧
      (v ≠ 0#s.osz.bits → v.getLsbD x.toNat = true ∧ ∀ k, x.toNat < k → v.getLsbD k = false) ∧
      exec (.bsrGvEv r rm) s = .next ((((s1.drawn n).setReg s.osz r x).withStatus st).finished .normal)))

/-! ## Control transfer -/

/-- JMP, Jcc and JCXZ with a displacement, and JMP through an operand: EIP becomes the target masked by the operand size, if
the jump is taken and the target lies in the code segment; #GP(0) if it lies outside; the next instruction if not taken.
LOOP, LOOPE, LOOPNE: the count goes down by one; the jump is taken while it is not 0 and ZF agrees; a target outside the
code segment is #GP(0) with the count as it was. -/
def Obligations.NearJumpsAndLoops : Prop :=
  (∀ (i : Instr) (s : State) (f : JumpForm), jumpForm s i = some f → s.pfx.lock = false →
    exec i s =
      if f.taken = false then .next (s.finished .normal)
      else if s.inCode (s.nearOffset f.target) then .next ((s.jump (s.nearOffset f.target)).finished .normal)
      else s.takes s 13#8 (.sel 0#16)) ∧
  (∀ (rm : Rm) (s s1 : State) (p : Place), s.pfx.lock = false → place s.osz rm false s = .ok p s1 →
    let t := s.nearOffset ((s1.valueAt s.osz p).setWidth 32)
    exec (.jmpNearEv rm) s =
      if s.inCode t then .next ((s1.jump t).finished .normal) else s.takes s1 13#8 (.sel 0#16)) ∧
  (∀ (i : Instr) (s : State) (d : BitVec 8) (go : Bool), loopForm s i = some (d, go) → s.pfx.lock = false →
    let n := s.reg s.asz .cx - 1#s.asz.bits
    let t := s.nearOffset (s.eipNext + d.signExtend 32)
    exec i s =
      if n = 0#s.asz.bits ∨ go = false then .next ((s.setReg s.asz .cx n).finished .normal)
      else if s.inCode t then .next (((s.setReg s.asz .cx n).jump t).finished .normal)
      else s.takes s 13#8 (.sel 0#16))

/-- CALL pushes `EIP_next` and goes to its target; RET pops its target and releases its operand's bytes. -/
def Obligations.NearCallsAndReturns : Prop :=
  (∀ (d : BitVec 32) (s s1 : State) (l : Loc), s.pfx.lock = false →
    let t := s.nearOffset (s.eipNext + (if s.attrs.o32 then d else (d.setWidth 16).signExtend 32))
    s.inCode t = true → locate .ss (s.below s.osz.bytes) s.osz.bytes true s = .ok l s1 →
    exec (.callJv d) s =
      .next ((((s1.store l (s.eipNext.setWidth s.osz.bits)).setStackPtr (s.below s.osz.bytes)).jump t).finished .normal)) ∧
  (∀ (rm : Rm) (s s1 s2 : State) (p : Place) (l : Loc), s.pfx.lock = false → place s.osz rm false s = .ok p s1 →
    let t := s.nearOffset ((s1.valueAt s.osz p).setWidth 32)
    s.inCode t = true → locate .ss (s.below s.osz.bytes) s.osz.bytes true s1 = .ok l s2 →
    exec (.callNearEv rm) s =
      .next ((((s2.store l (s.eipNext.setWidth s.osz.bits)).setStackPtr (s.below s.osz.bytes)).jump t).finished .normal)) ∧
  (∀ (n : BitVec 16) (s s1 : State) (l : Loc), s.pfx.lock = false →
    locate .ss (s.above 0) s.osz.bytes false s = .ok l s1 →
    let t := s.nearOffset ((s1.load s.osz.bits l).setWidth 32)
    s.inCode t = true →
    exec .retNear s = .next (((s1.setStackPtr (s.above s.osz.bytes)).jump t).finished .normal) ∧
    exec (.retNearIw n) s = .next (((s1.setStackPtr (s.above (s.osz.bytes + n.toNat))).jump t).finished .normal))

/-- INT n, INT 3, and INTO with OF = 1 deliver their vector as a software interrupt that saves `EIP_next`; INTO with OF = 0
does nothing. BOUND reads the two bounds, adjacent in memory, as one operand: nothing changes when the register lies between them,
#BR otherwise, #UD with a register operand. -/
def Obligations.SoftwareInterruptsAndBound : Prop :=
  (∀ (i : Instr) (s s1 : State) (v : BitVec 8), interruptForm s i = some v → s.pfx.lock = false →
    deliverOnce ⟨v, .software, .none, s.eipNext, false⟩ s = .ok () s1 → exec i s = .next (s1.finished .keepRF)) ∧
  (∀ (s : State), s.flags.OF = false → s.pfx.lock = false → exec .into s = .next (s.finished .normal)) ∧
  (∀ (r : Reg) (m : Mem) (s s1 : State) (l : Loc), s.pfx.lock = false →
    locate (s.memSeg m) (memEa s.gpr m) (2 * s.osz.bytes) false s = .ok l s1 →
    exec (.boundGvMa r (.mem m)) s =
      if (s1.load s.osz.bits (l.take s.osz.bytes)).toInt ≤ (s.reg s.osz r).toInt ∧
         (s.reg s.osz r).toInt ≤ (s1.load s.osz.bits (l.drop s.osz.bytes)).toInt
      then .next (s1.finished .normal) else s.takes s1 5#8 .none) ∧
  (∀ (r e : Reg) (s : State), s.pfx.lock = false → exec (.boundGvMa r (.reg e)) s = s.takes s 6#8 .none)

/-! ## String instructions -/

/-- Repetition: without a prefix one element; with one, a count of 0 does nothing, and otherwise one element is done, the count goes
down, and the instruction runs again from its own address unless the count reached 0 or a comparison ended it. Running again is no
transfer: what the prefetch queue then holds is the model's choice (log entry 15), with a prefetch depth of 0 nothing. -/
def Obligations.StringRepetition : Prop :=
  ∀ (i : Instr) (s : State) (f : StringForm), stringForm s i = some f → s.pfx.lock = false →
    (s.pfx.rep ≠ .none → s.reg s.asz .cx = 0#s.asz.bits → exec i s = .next (s.finished .normal)) ∧
    (∀ s1, f.element s = .ok () s1 →
      (s.pfx.rep = .none → exec i s = .next (s1.finished .normal)) ∧
      (s.pfx.rep ≠ .none → s.reg s.asz .cx ≠ 0#s.asz.bits →
        let n := s.reg s.asz .cx - 1#s.asz.bits
        let t := s1.setReg s.asz .cx n
        if n = 0#s.asz.bits ∨ (f.compares = true ∧ (s.pfx.rep = .rep ∧ s1.flags.ZF = false ∨ s.pfx.rep = .repne ∧ s1.flags.ZF = true))
        then exec i s = .next (t.finished .normal)
        else ∃ q k, (s.plat.prefetchDepth = 0 → q = [] ∧ k = s1.draws) ∧
          exec i s = .next (({ t with eipNext := s.eip, pastEnd := false, queue := q, draws := k }).finished .element)))

/-- One element of MOVS, CMPS, STOS, LODS, SCAS in a plain state: what it stores, loads or compares, and the index registers
it moves. One element of INS and OUTS in a plain state that may use the port: DI or SI moves, INS stores what the port gave (a free
value), OUTS sends its source. -/
def Obligations.StringElementEffects : Prop :=
  (∀ (i : Instr) (s t : State) (f : StringForm), stringForm s i = some f → stringResult s i = some t → s.plain = true →
    stringAccess s i = true → f.element s = .ok () t) ∧
  (∀ (s : State) (sz : Size), s.plain = true → (s.protectedMode = false ∨ s.cpl.toNat ≤ s.flags.IOPL.toNat) →
    (s.segOk .es (s.index .di) sz.bytes .write = true →
      ∃ v, insElem sz s = .ok () (((s.drawn (s.draws + 1)).store (s.bytesAt .es (s.index .di) sz.bytes) (v : BitVec sz.bits)).stepIndex sz .di)) ∧
    (s.segOk (s.segFor .ds) (s.index .si) sz.bytes .read = true →
      outsElem sz s = .ok () ({ s with ioOut := ⟨s.reg .w .dx, sz.bytes,
        (s.load sz.bits (s.bytesAt (s.segFor .ds) (s.index .si) sz.bytes)).setWidth 32⟩ :: s.ioOut }.stepIndex sz .si)))

/-! ## Frames, coprocessor, and instructions without operands -/

/-- ENTER at level 0 pushes BP, makes it the frame pointer and lowers the stack pointer. At level 1 to 31, in a plain state whose
accesses pass: BP, then copies of the entries of the enclosing display, then the frame pointer are pushed; locals that do not lie in
the SS limit are #SS(0). LEAVE takes the stack pointer from BP and pops BP. -/
def Obligations.StackFrames : Prop :=
  (∀ (n : BitVec 16) (k : BitVec 8) (s s1 : State) (l : Loc), s.pfx.lock = false → k.toNat % 32 = 0 →
    locate .ss (s.below s.osz.bytes) s.osz.bytes true s = .ok l s1 →
    let t := (s1.store l (s.reg s.osz .bp)).setStackPtr (s.below s.osz.bytes)
    let u := (t.setReg s.osz .bp (t.stackPtr.setWidth s.osz.bits)).setStackPtr (t.below n.toNat)
    (n = 0#16 ∨ u.seg.ss.inLimit u.stackPtr n.toNat = true) → exec (.enter n k) s = .next (u.finished .normal)) ∧
  (∀ (n : BitVec 16) (k : BitVec 8) (s : State), s.plain = true → 1 ≤ k.toNat % 32 →
    let level := k.toNat % 32
    let w := s.osz.bytes
    let source (j : Nat) : BitVec 32 := wrapOff s.ssz32 (s.gpr.ebp - BitVec.ofNat 32 (j * w))
    (∀ j, 1 ≤ j → j ≤ level + 1 → s.segOk .ss (s.below (j * w)) w .write = true) →
    (∀ j, 1 ≤ j → j < level → s.segOk .ss (source j) w .read = true) →
    let frame : BitVec s.osz.bits := (s.below w).setWidth s.osz.bits
    let display := (List.range (level - 1)).foldl
      (fun t j => t.store (s.slot w (j + 2)) (t.load s.osz.bits (s.bytesAt .ss (source (j + 1)) w))) (s.store (s.slot w 1) (s.reg s.osz .bp))
    let u := ((display.store (s.slot w (level + 1)) frame).setReg s.osz .bp frame).setStackPtr (s.below ((level + 1) * w + n.toNat))
    exec (.enter n k) s = if n = 0#16 ∨ u.seg.ss.inLimit u.stackPtr n.toNat = true then .next (u.finished .normal)
      else s.takes u 12#8 (.sel 0#16)) ∧
  (∀ (s s1 : State) (l : Loc), s.pfx.lock = false →
    let t := s.setStackPtr (wrapOff s.ssz32 s.gpr.ebp)
    locate .ss t.stackPtr s.osz.bytes false t = .ok l s1 →
    exec .leave s = .next (((s1.setStackPtr (t.above s.osz.bytes)).setReg s.osz .bp (s1.load s.osz.bits l)).finished .normal))

/-- ESC is #NM while EM or TS is set; #MF on ERROR# for the opcodes that test it (which, the spec leaves open: log entry 3);
otherwise the model refuses with no coprocessor (D42), and with one the command goes to it: a register form may write AX; a memory
form loads or stores up to 108 bytes, said for a plain state where that many pass (log entry 9). An operand's ends that are not
accessible are an ordinary fault; one that wraps round the addressing limit over accessible bytes alone is the limit exception of
its segment (R172, D29); one that wraps over inaccessible bytes, or at all in real-address mode, is exception 9 with a free return
address; which segments are small, and so wrap at FFFFH, is log entry 37 (DESIGN CHOICE). WAIT is #NM when MP and TS are set; it
runs again while BUSY# is active (that RF is kept and no trap is earned is log entry 19, what the prefetch queue then holds log
entry 15: DESIGN CHOICE); it is #MF on ERROR# with EM clear; else it completes. That data breakpoints examine the operand byte by
byte is log entry 38 (DESIGN CHOICE). -/
def Obligations.CoprocessorInstructions : Prop :=
  (∀ (s : State), s.pfx.lock = false →
    (∀ op n rm,
      (s.cr0.EM = true ∨ s.cr0.TS = true → exec (.esc op n rm) s = s.takes s 7#8 .none) ∧
      (s.cr0.EM = false → s.cr0.TS = false →
        if (s.pins.error && Config.escChecksError op n rm) = true then exec (.esc op n rm) s = s.takes s 16#8 .none
        else if s.plat.coprocessor = .absent then exec (.esc op n rm) s = .refused .coprocessorAbsent
        else
          (∀ e, rm = .reg e → ∃ (ax : Option (BitVec 16)) (k : Nat),
            let t := { s.drawn k with copOut := ⟨op, n, rm, none, []⟩ :: s.copOut }
            exec (.esc op n rm) s = .next ((match ax with | none => t | some v => t.setReg .w .ax v).finished .normal)) ∧
          (∀ m, rm = .mem m → s.plain = true →
            let r := s.memSeg m
            let ea := memEa s.gpr m
            s.segOk r ea 108 .read = true → s.segOk r ea 108 .write = true → ∃ (len k : Nat), len ≤ 108 ∧
              (exec (.esc op n rm) s = .next ({ s.drawn k with
                  copOut := ⟨op, n, rm, some (r, ea), (s.bytesAt r ea len).map s.byteAt⟩ :: s.copOut }.finished .normal) ∨
               ∃ v : BitVec (8 * len), exec (.esc op n rm) s = .next ({ (s.drawn k).store (s.bytesAt r ea len) v with
                  copOut := ⟨op, n, rm, some (r, ea), []⟩ :: s.copOut }.finished .normal))))) ∧
    (s.cr0.MP = true → s.cr0.TS = true → exec .wait s = s.takes s 7#8 .none) ∧
    (s.cr0.MP = false ∨ s.cr0.TS = false →
      (s.pins.busy = true → ∃ q k, (s.plat.prefetchDepth = 0 → q = [] ∧ k = s.draws) ∧
        exec .wait s = .next ({ s with eipNext := s.eip, pastEnd := false, queue := q, draws := k }.finished .again)) ∧
      (s.pins.busy = false → s.pins.error = true → s.cr0.EM = false → exec .wait s = s.takes s 16#8 .none) ∧
      (s.pins.busy = false → (s.pins.error = false ∨ s.cr0.EM = true) → exec .wait s = .next (s.finished .normal)))) ∧
  (∀ (s : State) (r : SReg) (ea : BitVec 32) (n : Nat) (w : Bool), s.plain = true → 2 ≤ n → n ≤ 108 →
    let g := s.seg.get r
    let small : Bool := (if g.expandDown then !g.db else decide (g.limit.toNat ≤ 0xFFFF)) && decide (ea.toNat ≤ 0xFFFF)
    let off (k : Nat) : BitVec 32 := if small then ((ea + BitVec.ofNat 32 k).setWidth 16).setWidth 32 else ea + BitVec.ofNat 32 k
    let passes (k : Nat) : Prop := s.segOk r (off k) 1 (if w then .write else .read) = true
    let wraps : Prop := (off (n - 1)).toNat < ea.toNat
    (¬ passes 0 ∨ ¬ passes (n - 1) → copOperand r ea n w s = .error (.exc ⟨if r = .ss then 12#8 else 13#8, .sel 0#16⟩) s) ∧
    ((∀ k, k < n → passes k) → ¬ wraps →
      copOperand r ea n w s = .ok ((List.range n).map fun k => g.base + off k) s) ∧
    ((∀ k, k < n → passes k) → wraps → s.protectedMode = true →
      copOperand r ea n w s = .error (.exc ⟨if r = .ss then 12#8 else 13#8, .sel 0#16⟩) s) ∧
    (passes 0 → passes (n - 1) → wraps → (s.protectedMode = false ∨ ∃ k, k < n ∧ ¬ passes k) →
      ∃ ret, copOperand r ea n w s = .error (.abort ret) (s.drawn (s.draws + 1)))) ∧
  (∀ (s s1 : State) (ret : BitVec 32), outcomeOf s (.error (.abort ret) s1) =
    deliver deliverFuel ⟨9#8, .exception, .none, ret, false⟩ (State.rollback s s1))

/-- NOP affects nothing but EIP (beyond what completing any instruction does); a prefix byte changes the prefix state alone;
the undefined opcodes are #UD; LOCK is #UD before every instruction but BTS, BTR, BTC, XCHG, ADD, ADC, SUB, SBB, AND, OR, XOR, INC,
DEC, NOT, NEG with a destination in memory. -/
def Obligations.NopPrefixesAndUndefinedOpcodes : Prop :=
  ∀ (s : State),
    (s.pfx.lock = false → exec .nop s = .next (s.finished .normal)) ∧
    (∀ i f, prefixForm i = some f → exec i s = .next { s with pfx := { f s.pfx with count := s.pfx.count + 1 } }) ∧
    (∀ i, s.pfx.lock = true → prefixForm i = none → lockableForm i = false → exec i s = s.takes s 6#8 .none) ∧
    exec .undef82 s = s.takes s 6#8 .none ∧ exec .undefD6 s = s.takes s 6#8 .none ∧ exec .undefF1 s = s.takes s 6#8 .none

/-! ## Segment registers and far transfers -/

/-- MOV from a segment register, and PUSH of one: the selector, with a free upper half when the destination is 32 bits wide; MOV to
a segment register and POP to one load it by `LoadSeg`, open the shadow after SS, and POP moves the stack pointer. LDS, LES, LFS,
LGS, LSS: the segment register takes the selector, the general register the offset; #UD with a register operand. The pointer passes
the segment checks as one operand (R172, D29), but where its selector wraps at 2^16 in a 16-bit address size (R454), each part by
itself (log entry 39: DEDUCED); else #SS(0) or #GP(0). -/
def Obligations.SegmentRegisterMovesAndFarPointers : Prop :=
  (∀ (s : State), s.pfx.lock = false →
    (∀ n r m p s1, SReg.ofCode? n = some r → place .w (.mem m) true s = .ok p s1 →
      exec (.movEwSw (.mem m) n) s = .next ((s1.putAt .w p (s.seg.get r).sel).finished .normal)) ∧
    (∀ n r e, SReg.ofCode? n = some r → ∃ (v : BitVec s.osz.bits) (k : Nat), v.setWidth 16 = (s.seg.get r).sel ∧
      exec (.movEwSw (.reg e) n) s = .next (((s.drawn k).setReg s.osz e v).finished .normal)) ∧
    (∀ n rm, SReg.ofCode? n = none → exec (.movEwSw rm n) s = s.takes s 6#8 .none ∧ exec (.movSwEw n rm) s = s.takes s 6#8 .none) ∧
    (∀ rm, exec (.movSwEw 1#3 rm) s = s.takes s 6#8 .none) ∧
    (∀ n r rm p s1 s2, SReg.ofCode? n = some r → r ≠ .cs → place .w rm false s = .ok p s1 →
      loadSeg r (s1.valueAt .w p) s1 = .ok () s2 →
      exec (.movSwEw n rm) s = .next (s2.finished (if r = .ss then .opensSs else .normal))) ∧
    (∀ i r, pushSegForm i = some r → ∃ (v : BitVec s.osz.bits) (k : Nat), v.setWidth 16 = (s.seg.get r).sel ∧
      ∀ l s1, locate .ss (s.below s.osz.bytes) s.osz.bytes true (s.drawn k) = .ok l s1 →
        exec i s = .next (((s1.store l v).setStackPtr (s.below s.osz.bytes)).finished .normal)) ∧
    (∀ (i : Instr) (r : SReg) l s1 s2, popSegForm i = some r → locate .ss (s.above 0) s.osz.bytes false s = .ok l s1 →
      loadSeg r ((s1.load s.osz.bits l).setWidth 16) s1 = .ok () s2 →
      exec i s = .next ({ s2 with gpr := (s.setStackPtr (s.above s.osz.bytes)).gpr }.finished (if r = SReg.ss then Done.opensSs else Done.normal)))) ∧
  (∀ (i : Instr) (x : SReg) (r : Reg) (rm : Rm) (s : State), farPtrForm i = some (x, r, rm) → s.pfx.lock = false →
    (∀ e, rm = .reg e → exec i s = s.takes s 6#8 .none) ∧
    (∀ m, rm = .mem m → s.farPtrOk m = false → exec i s = s.takes s (if s.memSeg m = .ss then 12#8 else 13#8) (.sel 0#16)) ∧
    (∀ m l0 l1 s1 s2 s3, rm = .mem m → s.farPtrOk m = true →
      locate (s.memSeg m) (memEa s.gpr m) s.osz.bytes false s = .ok l0 s1 →
      locate (s.memSeg m) (memEaPlus s.gpr m s.osz.bytes) 2 false s1 = .ok l1 s2 →
      loadSeg x (s2.load 16 l1) s2 = .ok () s3 →
      exec i s = .next ((s3.setReg s.osz r (s1.load s.osz.bits l0)).finished .normal)))

/-- `LoadSeg` in a plain state. Outside protected mode: selector and base, no check. In protected mode, for DS, ES, FS, GS: a
null selector marks the register invalid, the rest of it staying as it was (log entry 34: DESIGN CHOICE); a descriptor that is not
readable, or not privileged enough, is #GP(selector), an absent one #NP(selector). For SS: a null selector is #GP(0), a descriptor that
is not writable data of the current level, with an RPL of that level, #GP(selector), an absent one #SS(selector). A selector outside
its table is #GP(selector). Otherwise the descriptor fills the hidden part and its accessed bit is set in memory with LOCK# asserted
(R171, R174, R175). A MOV, a POP or a far pointer load whose `LoadSeg` fails takes its exception. -/
def Obligations.SegmentLoads : Prop :=
  (∀ (s : State) (r : SReg) (sel : BitVec 16), s.plain = true →
    (s.protectedMode = false → loadSeg r sel s = .ok ()
      { s with seg := s.seg.set r ({ s.seg.get r with sel := sel, base := sel.setWidth 32 <<< 4, valid := true }) }) ∧
    (s.protectedMode = true → r ≠ .ss → nullSel sel = true →
      loadSeg r sel s = .ok () { s with seg := s.seg.set r ({ s.seg.get r with sel := sel, valid := false }) }) ∧
    (s.protectedMode = true → nullSel sel = true → loadSeg .ss sel s = .error (.exc ⟨13#8, .sel 0#16⟩) s) ∧
    (s.protectedMode = true → nullSel sel = false → s.entryAddr sel = none →
      loadSeg r sel s = .error (.exc ⟨13#8, selCode sel false⟩) s) ∧
    (∀ la, s.protectedMode = true → r ≠ .ss → nullSel sel = false → s.entryAddr sel = some la →
      let d := s.descAt la
      let allowed : Prop :=
        d.isReadable = true ∧ (d.isConforming = true ∨ s.cpl.toNat ≤ d.dpl.toNat ∧ (rplOf sel).toNat ≤ d.dpl.toNat)
      (¬ allowed → loadSeg r sel s = .error (.exc ⟨13#8, selCode sel false⟩) s) ∧
      (allowed → d.p = false → loadSeg r sel s = .error (.exc ⟨11#8, selCode sel false⟩) s) ∧
      (allowed → d.p = true → loadSeg r sel s = .ok () { s.loadedDesc d with seg := s.seg.set r (d.toSeg sel) })) ∧
    (∀ la, s.protectedMode = true → nullSel sel = false → s.entryAddr sel = some la →
      let d := s.descAt la
      let allowed : Prop := d.isWritableData = true ∧ d.dpl = s.cpl ∧ rplOf sel = s.cpl
      (¬ allowed → loadSeg .ss sel s = .error (.exc ⟨13#8, selCode sel false⟩) s) ∧
      (allowed → d.p = false → loadSeg .ss sel s = .error (.exc ⟨12#8, selCode sel false⟩) s) ∧
      (allowed → d.p = true → loadSeg .ss sel s = .ok () { s.loadedDesc d with seg := s.seg.set .ss (d.toSeg sel) }))) ∧
  (∀ (s : State), s.pfx.lock = false →
    (∀ n r rm p s1 y s2, SReg.ofCode? n = some r → r ≠ .cs → place .w rm false s = .ok p s1 →
      loadSeg r (s1.valueAt .w p) s1 = .error (.exc y) s2 → exec (.movSwEw n rm) s = s.takes s2 y.vec y.err) ∧
    (∀ (i : Instr) (r : SReg) l s1 y s2, popSegForm i = some r → locate .ss (s.above 0) s.osz.bytes false s = .ok l s1 →
      loadSeg r ((s1.load s.osz.bits l).setWidth 16) s1 = .error (.exc y) s2 → exec i s = s.takes s2 y.vec y.err) ∧
    (∀ (i : Instr) (x : SReg) (r : Reg) (m : Mem) l0 l1 s1 s2 y s3, farPtrForm i = some (x, r, .mem m) → s.farPtrOk m = true →
      locate (s.memSeg m) (memEa s.gpr m) s.osz.bytes false s = .ok l0 s1 →
      locate (s.memSeg m) (memEaPlus s.gpr m s.osz.bytes) 2 false s1 = .ok l1 s2 →
      loadSeg x (s2.load 16 l1) s2 = .error (.exc y) s3 → exec i s = s.takes s3 y.vec y.err))

/-- Far JMP, CALL and RET in real-address mode, direct and through memory: CS takes the selector and sixteen times it as base, EIP
the offset. The pointer in memory is the offset, then the selector; it passes the segment checks as one operand (R172), else
interrupt 12 or 13. CALL first pushes CS, then `EIP_next` below it; RET takes EIP at the stack pointer and CS above it, and releases
its operand's bytes; that the EIP it takes is not held against the CS limit is log entry 36 (DESIGN CHOICE). A register operand is
#UD, in either mode. -/
def Obligations.FarTransfersInRealMode : Prop :=
  (∀ (s : State), s.pfx.lock = false → s.protectedMode = false →
    let n := s.osz.bytes
    let land (t : State) (sel : BitVec 16) (off : BitVec 32) : State :=
      { t with seg := { t.seg with cs := { t.seg.cs with sel := sel, base := sel.setWidth 32 <<< 4, valid := true } }, a31High := false,
               eipNext := off, pastEnd := false, queue := [] }
    (∀ off sel, s.inCode off = true → exec (.jmpFarAp off sel) s = .next ((land s sel off).finished .normal)) ∧
    (∀ off sel, s.inCode off = true → ∃ (c : BitVec s.osz.bits) (k : Nat), c.setWidth 16 = s.seg.cs.sel ∧
      ∀ l1 t1 l2 t2, locate .ss (s.below n) n true (s.drawn k) = .ok l1 t1 →
        locate .ss (s.below (2 * n)) n true ((t1.store l1 c).setStackPtr (s.below n)) = .ok l2 t2 →
        exec (.callFarAp off sel) s =
          .next ((land ((t2.store l2 (s.eipNext.setWidth s.osz.bits)).setStackPtr (s.below (2 * n))) sel off).finished .normal)) ∧
    (∀ m, s.segOk (s.memSeg m) (memEa s.gpr m) (n + 2) .read = false →
      exec (.jmpFarMp (.mem m)) s = s.takes s (if s.memSeg m = .ss then 12#8 else 13#8) (.sel 0#16) ∧
      exec (.callFarMp (.mem m)) s = s.takes s (if s.memSeg m = .ss then 12#8 else 13#8) (.sel 0#16)) ∧
    (∀ m l0 u0 l1 u, s.segOk (s.memSeg m) (memEa s.gpr m) (n + 2) .read = true →
      locate (s.memSeg m) (memEa s.gpr m) n false s = .ok l0 u0 →
      locate (s.memSeg m) (memEa s.gpr m + BitVec.ofNat 32 n) 2 false u0 = .ok l1 u →
      let off := (u0.load s.osz.bits l0).setWidth 32
      let sel := u.load 16 l1
      s.inCode off = true →
      exec (.jmpFarMp (.mem m)) s = .next ((land u sel off).finished .normal) ∧
      ∃ (c : BitVec s.osz.bits) (k : Nat), c.setWidth 16 = s.seg.cs.sel ∧
        ∀ l1 t1 l2 t2, locate .ss (s.below n) n true (u.drawn k) = .ok l1 t1 →
          locate .ss (s.below (2 * n)) n true ((t1.store l1 c).setStackPtr (s.below n)) = .ok l2 t2 →
          exec (.callFarMp (.mem m)) s =
            .next ((land ((t2.store l2 (s.eipNext.setWidth s.osz.bits)).setStackPtr (s.below (2 * n))) sel off).finished .normal)) ∧
    (∀ (b : BitVec 16) l0 t0 l1 t1, locate .ss (s.above 0) n false s = .ok l0 t0 → locate .ss (s.above n) n false t0 = .ok l1 t1 →
      let off := (t0.load s.osz.bits l0).setWidth 32
      let sel := (t1.load s.osz.bits l1).setWidth 16
      exec .retFar s = .next (((land t1 sel off).setStackPtr (s.above (2 * n))).finished .normal) ∧
      exec (.retFarIw b) s = .next (((land t1 sel off).setStackPtr (s.above (2 * n + b.toNat))).finished .normal))) ∧
  (∀ (s : State) (e : Reg), s.pfx.lock = false →
    exec (.jmpFarMp (.reg e)) s = s.takes s 6#8 .none ∧ exec (.callFarMp (.reg e)) s = s.takes s 6#8 .none)

/-- Far JMP, CALL and RET in protected mode, in a plain state. JMP and CALL to a code segment of the same level, or a conforming one
of a more privileged level: CS from the descriptor with its RPL the current level, EIP the offset, CALL pushing CS and `EIP_next`
first; #NP for an absent segment, #GP(0) outside its limit, then #SS(0) without room; #GP(0) for a null selector; #GP(selector) for
a selector outside its table, a code segment of another privilege, a data segment, and a system descriptor that no transfer may
name. Through memory they do what the direct forms do with the pointer read, which passes the segment checks as one operand (R172),
else #SS(0) or #GP(0). RET to the same level; to an outer level it also takes SS and ESP, releases its operand's bytes on both
stacks, and nulls the data-segment registers of more privileged segments; #SS(0) where the stack does not hold its frame;
#GP(selector) for a CS of an inner level, null, outside its table, of the wrong type or privilege, and the same for the outer SS;
#NP(selector) for an absent CS, #SS(selector) for an absent outer SS, #GP(0) outside the new limit. What rests on the log: that the
room before the pushes of CALL, and the frame of RET, are each checked as one block that does not wrap is log entry 18 (DEDUCED);
that a register nulled by a return keeps its hidden base, limit and attributes is log entry 34 (DESIGN CHOICE). -/
def Obligations.FarTransfersInProtectedMode : Prop :=
  ∀ (s : State), s.protectedMode = true → s.plain = true →
    let n := s.osz.bytes
    let land (t : State) (d : Desc) (sel : BitVec 16) (off : BitVec 32) : State :=
      { t.loadedDesc d with seg := t.seg.set .cs (d.toSeg (withRpl sel s.cpl)), a31High := false }.jump off
    (∀ off sel, nullSel sel = true →
      exec (.jmpFarAp off sel) s = s.takes s 13#8 (.sel 0#16) ∧ exec (.callFarAp off sel) s = s.takes s 13#8 (.sel 0#16)) ∧
    (∀ off sel, nullSel sel = false →
      let refused : Prop := exec (.jmpFarAp off sel) s = s.takes s 13#8 (selCode sel false) ∧
        exec (.callFarAp off sel) s = s.takes s 13#8 (selCode sel false)
      (s.entryAddr sel = none → refused) ∧
      (∀ la, s.entryAddr sel = some la →
        let d := s.descAt la
        (d.isCode = true →
          ¬ (if d.isConforming then d.dpl.toNat ≤ s.cpl.toNat else d.dpl = s.cpl ∧ (rplOf sel).toNat ≤ s.cpl.toNat) → refused) ∧
        (d.s = true → d.isCode = false → refused) ∧
        (d.s = false → d.typ ∈ [0x0#4, 0x2#4, 0x6#4, 0x7#4, 0x8#4, 0xA#4, 0xD#4, 0xE#4, 0xF#4] → refused))) ∧
    (∀ off sel la, nullSel sel = false → s.entryAddr sel = some la →
      let d := s.descAt la
      d.isCode = true → (if d.isConforming then d.dpl.toNat ≤ s.cpl.toNat else d.dpl = s.cpl ∧ (rplOf sel).toNat ≤ s.cpl.toNat) →
      exec (.jmpFarAp off sel) s =
        (if d.p = false then s.takes s 11#8 (selCode sel false)
        else if d.limit.toNat < off.toNat then s.takes s 13#8 (.sel 0#16)
        else .next ((land s d sel off).finished .normal)) ∧
      (d.p = false → exec (.callFarAp off sel) s = s.takes s 11#8 (selCode sel false)) ∧
      (d.p = true → d.limit.toNat < off.toNat → exec (.callFarAp off sel) s = s.takes s 13#8 (.sel 0#16)) ∧
      (d.p = true → off.toNat ≤ d.limit.toNat → s.room (2 * n) = false → exec (.callFarAp off sel) s = s.takes s 12#8 (.sel 0#16)) ∧
      (d.p = true → off.toNat ≤ d.limit.toNat → s.segOk .ss (s.below (2 * n)) (2 * n) .write = true →
        ∃ (c : BitVec s.osz.bits) (k : Nat), c.setWidth 16 = s.seg.cs.sel ∧
          exec (.callFarAp off sel) s =
            .next ((land ((((s.drawn k).store (s.slot n 1) c).store (s.slot n 2) (s.eipNext.setWidth s.osz.bits)).setStackPtr
              (s.below (2 * n))) d sel off).finished .normal))) ∧
    (∀ m, let r := s.memSeg m
      let ea := memEa s.gpr m
      let off := (s.load s.osz.bits (s.bytesAt r ea n)).setWidth 32
      let sel := s.load 16 (s.bytesAt r (ea + BitVec.ofNat 32 n) 2)
      (s.segOk r ea (n + 2) .read = true →
        exec (.jmpFarMp (.mem m)) s = exec (.jmpFarAp off sel) s ∧ exec (.callFarMp (.mem m)) s = exec (.callFarAp off sel) s) ∧
      (s.segOk r ea (n + 2) .read = false →
        exec (.jmpFarMp (.mem m)) s = s.takes s (if r = .ss then 12#8 else 13#8) (.sel 0#16) ∧
        exec (.callFarMp (.mem m)) s = s.takes s (if r = .ss then 12#8 else 13#8) (.sel 0#16))) ∧
    (∀ (b : BitVec 16) la,
      let off := (s.load s.osz.bits (s.bytesAt .ss (s.above 0) n)).setWidth 32
      let sel := s.load 16 (s.bytesAt .ss (s.above n) 2)
      nullSel sel = false → s.entryAddr sel = some la →
      let d := s.descAt la
      d.isCode = true → (if d.isConforming then d.dpl.toNat ≤ (rplOf sel).toNat else d.dpl = rplOf sel) →
      (rplOf sel = s.cpl → s.segOk .ss s.stackPtr (2 * n) .read = true →
        let back (b : Nat) : Host.Outcome State Fault Refusal :=
          if d.p = false then s.takes s 11#8 (selCode sel false)
          else if d.limit.toNat < off.toNat then s.takes s 13#8 (.sel 0#16)
          else .next (((land s d sel off).setStackPtr (s.above (2 * n + b))).finished .normal)
        exec .retFar s = back 0 ∧ exec (.retFarIw b) s = back b.toNat) ∧
      (s.cpl.toNat < (rplOf sel).toNat → d.p = true → off.toNat ≤ d.limit.toNat →
        s.segOk SReg.ss s.stackPtr (4 * n + b.toNat) .read = true → ∀ sla,
        let esp : BitVec s.osz.bits := s.load s.osz.bits (s.bytesAt SReg.ss (s.above (2 * n + b.toNat)) n)
        let ss : BitVec 16 := s.load 16 (s.bytesAt SReg.ss (s.above (3 * n + b.toNat)) 2)
        nullSel ss = false → s.entryAddr ss = some sla →
        let sd := s.descAt sla
        sd.isWritableData = true → rplOf ss = rplOf sel → sd.dpl = rplOf sel → sd.p = true →
        let scrub (g : SegReg) : SegReg :=
          if g.valid = true ∧ g.s = true ∧ (g.typ.getLsbD 3 && g.typ.getLsbD 2) = false ∧ g.dpl.toNat < (rplOf sel).toNat
          then { g with sel := 0#16, valid := false } else g
        let t := ({ (s.loadedDesc d).loadedDesc sd with
          cpl := rplOf sel, a31High := false,
          seg := ⟨scrub s.seg.es, d.toSeg sel, sd.toSeg ss, scrub s.seg.ds, scrub s.seg.fs, scrub s.seg.gs⟩ }.setReg s.osz .sp
            (esp + b.setWidth s.osz.bits)).jump off
        exec (.retFarIw b) s = .next (t.finished .normal) ∧ (b = 0#16 → exec .retFar s = .next (t.finished .normal)))) ∧
    (∀ (i : Instr) (b : Nat), (i = .retFar ∧ b = 0 ∨ ∃ c : BitVec 16, i = .retFarIw c ∧ b = c.toNat) →
      let off := (s.load s.osz.bits (s.bytesAt .ss (s.above 0) n)).setWidth 32
      let sel := s.load 16 (s.bytesAt .ss (s.above n) 2)
      (s.segOk .ss s.stackPtr (2 * n) .read = false → exec i s = s.takes s 12#8 (.sel 0#16)) ∧
      (s.segOk .ss s.stackPtr (2 * n) .read = true →
        ((rplOf sel).toNat < s.cpl.toNat ∨ nullSel sel = true ∨ s.entryAddr sel = none → exec i s = s.takes s 13#8 (selCode sel false)) ∧
        (∀ la, nullSel sel = false → s.entryAddr sel = some la →
          let d := s.descAt la
          let suits : Prop := d.isCode = true ∧ if d.isConforming then d.dpl.toNat ≤ (rplOf sel).toNat else d.dpl = rplOf sel
          (¬ suits → exec i s = s.takes s 13#8 (selCode sel false)) ∧
          (suits → s.cpl.toNat < (rplOf sel).toNat →
            let ss : BitVec 16 := s.load 16 (s.bytesAt SReg.ss (s.above (3 * n + b)) 2)
            (d.p = false → exec i s = s.takes s 11#8 (selCode sel false)) ∧
            (d.p = true → s.segOk SReg.ss s.stackPtr (4 * n + b) .read = false → exec i s = s.takes s 12#8 (.sel 0#16)) ∧
            (d.p = true → s.segOk SReg.ss s.stackPtr (4 * n + b) .read = true →
              (nullSel ss = true ∨ s.entryAddr ss = none → exec i s = s.takes s 13#8 (selCode ss false)) ∧
              (∀ sla, nullSel ss = false → s.entryAddr ss = some sla →
                let sd := s.descAt sla
                let fits : Prop := sd.isWritableData = true ∧ rplOf ss = rplOf sel ∧ sd.dpl = rplOf sel
                (¬ fits → exec i s = s.takes s 13#8 (selCode ss false)) ∧
                (fits → sd.p = false → exec i s = s.takes s 12#8 (selCode ss false)) ∧
                (fits → sd.p = true → d.limit.toNat < off.toNat → exec i s = s.takes s 13#8 (.sel 0#16))))))))

/-- Far JMP and CALL through a present 386 call gate of sufficient DPL, to a present code segment, in a plain state: CS from the
gate's segment, EIP the gate's offset, the instruction's offset not used. JMP, and CALL to the same level or to a conforming
segment, keep the level, CALL pushing CS and `EIP_next` as doublewords. CALL to an inner level takes SS and ESP for that level from
the TSS and writes on the new stack the old SS and ESP, the gate's count of parameters from the old stack, highest first, CS and
`EIP_next`. What rests on the log: the room test as one block is log entry 18, the order of the copied parameters log entry 22, the
upper half of ESP on a 16-bit stack log entry 30 (all DEDUCED). -/
def Obligations.CallGates : Prop :=
  ∀ (s : State) (off : BitVec 32) (sel : BitVec 16) (la ta : BitVec 32), s.protectedMode = true → s.plain = true →
    nullSel sel = false → s.entryAddr sel = some la →
    let gate := s.descAt la
    gate.isSystem 0xC#4 = true → s.cpl.toNat ≤ gate.dpl.toNat → (rplOf sel).toNat ≤ gate.dpl.toNat → gate.p = true →
    nullSel gate.gateSel = false → s.entryAddr gate.gateSel = some ta →
    let d := s.descAt ta
    d.isCode = true → d.p = true →
    let land (t : State) : State :=
      { t.loadedDesc d with seg := t.seg.set .cs (d.toSeg (withRpl gate.gateSel s.cpl)), a31High := false }.jump gate.gateOff
    (((if d.isConforming then d.dpl.toNat ≤ s.cpl.toNat else d.dpl = s.cpl) →
      exec (.jmpFarAp off sel) s =
        (if d.limit.toNat < gate.gateOff.toNat then s.takes s 13#8 (.sel 0#16) else .next ((land s).finished .normal)) ∧
      (gate.gateOff.toNat ≤ d.limit.toNat → s.segOk .ss (s.below 8) 8 .write = true → ∃ (u : BitVec 16) (k : Nat),
        exec (.callFarAp off sel) s =
          .next ((land ((((s.drawn k).store (s.slot 4 1) (u ++ s.seg.cs.sel)).store (s.slot 4 2) s.eipNext).setStackPtr
            (s.below 8))).finished .normal))) ∧
    (d.isConforming = false → d.dpl.toNat < s.cpl.toNat →
      exec (.jmpFarAp off sel) s = s.takes s 13#8 (selCode gate.gateSel false) ∧
      (∀ sa, 8 * d.dpl.toNat + 11 ≤ s.tr.limit.toNat →
        let esp := s.phys32 (s.tr.base + BitVec.ofNat 32 (4 + 8 * d.dpl.toNat))
        let ss := s.load 16 (Loc.from (s.tr.base + BitVec.ofNat 32 (8 + 8 * d.dpl.toNat)) 2)
        nullSel ss = false → s.entryAddr ss = some sa →
        let sd := s.descAt sa
        rplOf ss = d.dpl → sd.isWritableData = true → sd.dpl = d.dpl → sd.p = true → gate.gateOff.toNat ≤ d.limit.toNat →
        let count := (gate.hi.extractLsb' 0 5).toNat
        let need := 16 + 4 * count
        let g := sd.toSeg ss
        g.inLimit (wrapOff g.db (esp - BitVec.ofNat 32 need)) need = true → (∀ i, i < count → s.segOk .ss (s.above (4 * i)) 4 .read = true) →
        ∃ (u1 u2 : BitVec 16) (k : Nat),
          let at_ (j : Nat) : Loc := Loc.from (g.base + wrapOff g.db (esp - BitVec.ofNat 32 (4 * j))) 4
          let t1 := ((((s.loadedDesc sd).loadedDesc d).drawn k).store (at_ 1) (u1 ++ s.seg.ss.sel)).store (at_ 2) s.gpr.esp
          let t2 := (List.range count).foldl
            (fun t j => t.store (at_ (3 + j)) (t.phys32 (s.seg.ss.base + s.above (4 * (count - 1 - j))))) t1
          let t3 := (t2.store (at_ (count + 3)) (u2 ++ s.seg.cs.sel)).store (at_ (count + 4)) s.eipNext
          let top := esp - BitVec.ofNat 32 need
          exec (.callFarAp off sel) s = .next (({ t3 with
            seg := (s.seg.set .ss g).set .cs (d.toSeg (withRpl gate.gateSel d.dpl)), cpl := d.dpl, a31High := false,
            gpr := { s.gpr with esp := if g.db then top else esp.extractLsb' 16 16 ++ top.extractLsb' 0 16 } }.jump
              gate.gateOff).finished .normal))))

/-! ## System instructions -/

/-- LGDT, LIDT, SGDT, SIDT: six bytes, limit first; a 16-bit operand size keeps 24 bits of base; #SS(0) or #GP(0) where the six
bytes do not pass the segment checks as one operand (R172); #UD with a register operand. -/
def Obligations.TableRegisterInstructions : Prop :=
  ∀ (s : State), s.pfx.lock = false →
    (∀ m l0 l1 s1 s2, s.cpl = 0#2 → s.segOk (s.memSeg m) (memEa s.gpr m) 6 .read = true →
      locate (s.memSeg m) (memEa s.gpr m) 2 false s = .ok l0 s1 → locate (s.memSeg m) (memEa s.gpr m + 2#32) 4 false s1 = .ok l1 s2 →
      let t : TableReg := ⟨if s.attrs.o32 then s2.load 32 l1 else (s2.load 32 l1) &&& 0x00FFFFFF#32, s1.load 16 l0⟩
      exec (.lgdtMs (.mem m)) s = .next ({ s2 with gdtr := t }.finished .normal) ∧
      exec (.lidtMs (.mem m)) s = .next ({ s2 with idtr := t }.finished .normal)) ∧
    (∀ m l0 l1 s1 s2, s.segOk (s.memSeg m) (memEa s.gpr m) 6 .write = true → locate (s.memSeg m) (memEa s.gpr m) 2 true s = .ok l0 s1 →
      locate (s.memSeg m) (memEa s.gpr m + 2#32) 4 true s1 = .ok l1 s2 →
      (∃ (b : BitVec 32) (n : Nat), b.setWidth 24 = s.gdtr.base.setWidth 24 ∧ (s.attrs.o32 = true → b = s.gdtr.base) ∧
        exec (.sgdtMs (.mem m)) s = .next ((((s2.drawn n).store l0 s.gdtr.limit).store l1 b).finished .normal)) ∧
      (∃ (b : BitVec 32) (n : Nat), b.setWidth 24 = s.idtr.base.setWidth 24 ∧ (s.attrs.o32 = true → b = s.idtr.base) ∧
        exec (.sidtMs (.mem m)) s = .next ((((s2.drawn n).store l0 s.idtr.limit).store l1 b).finished .normal))) ∧
    (∀ m, let v := if s.memSeg m = .ss then 12#8 else 13#8
      (s.cpl = 0#2 → s.segOk (s.memSeg m) (memEa s.gpr m) 6 .read = false →
        exec (.lgdtMs (.mem m)) s = s.takes s v (.sel 0#16) ∧ exec (.lidtMs (.mem m)) s = s.takes s v (.sel 0#16)) ∧
      (s.segOk (s.memSeg m) (memEa s.gpr m) 6 .write = false →
        exec (.sgdtMs (.mem m)) s = s.takes s v (.sel 0#16) ∧ exec (.sidtMs (.mem m)) s = s.takes s v (.sel 0#16))) ∧
    (∀ e, exec (.lgdtMs (.reg e)) s = s.takes s 6#8 .none ∧ exec (.lidtMs (.reg e)) s = s.takes s 6#8 .none ∧
      exec (.sgdtMs (.reg e)) s = s.takes s 6#8 .none ∧ exec (.sidtMs (.reg e)) s = s.takes s 6#8 .none)

/-- SLDT, STR and SMSW to memory and to a register (the upper half of a doubleword register free), LMSW (PE can be set,
not cleared), CLTS, at the privilege they need; SLDT, STR, LLDT, LTR, ARPL, VERR, VERW, LAR, LSL are #UD in real-address
mode. LLDT and LTR in protected mode at level 0 in a plain state: LLDT of a null selector leaves LDTR without a table; a
present LDT descriptor, or a present available 386 TSS descriptor, in the GDT fills the register, and LTR marks the TSS busy with LOCK#
asserted. That LOCK# is asserted for LLDT too is the model's choice: R151 speaks of segment registers only (log entry 29: DESIGN
CHOICE). -/
def Obligations.SystemRegisterAndTaskRegisterInstructions : Prop :=
  (∀ (s : State), s.pfx.lock = false →
    (∀ m p s1, s.protectedMode = true → place .w (.mem m) true s = .ok p s1 →
      exec (.sldtEw (.mem m)) s = .next ((s1.putAt .w p s.ldtr.sel).finished .normal) ∧
      exec (.strEw (.mem m)) s = .next ((s1.putAt .w p s.tr.sel).finished .normal)) ∧
    (∀ e, s.protectedMode = true →
      (∃ (v : BitVec s.osz.bits) (n : Nat), v.setWidth 16 = s.ldtr.sel ∧
        exec (.sldtEw (.reg e)) s = .next (((s.drawn n).setReg s.osz e v).finished .normal)) ∧
      (∃ (v : BitVec s.osz.bits) (n : Nat), v.setWidth 16 = s.tr.sel ∧
        exec (.strEw (.reg e)) s = .next (((s.drawn n).setReg s.osz e v).finished .normal))) ∧
    (∀ e, ∃ (v : BitVec s.osz.bits) (n : Nat), v.getLsbD 0 = s.cr0.PE ∧ v.getLsbD 1 = s.cr0.MP ∧ v.getLsbD 2 = s.cr0.EM ∧
      v.getLsbD 3 = s.cr0.TS ∧ v.getLsbD 4 = s.cr0.ET ∧
      exec (.smswEw (.reg e)) s = .next (((s.drawn n).setReg s.osz e v).finished .normal)) ∧
    (∃ (v : BitVec 16) (n : Nat), v.getLsbD 0 = s.cr0.PE ∧ v.getLsbD 1 = s.cr0.MP ∧ v.getLsbD 2 = s.cr0.EM ∧ v.getLsbD 3 = s.cr0.TS ∧
      v.getLsbD 4 = s.cr0.ET ∧ ∀ m p s1, place .w (.mem m) true (s.drawn n) = .ok p s1 →
      exec (.smswEw (.mem m)) s = .next ((s1.putAt .w p v).finished .normal)) ∧
    (∀ rm p s1, s.cpl = 0#2 → place .w rm false s = .ok p s1 →
      let v := s1.valueAt .w p
      exec (.lmswEw rm) s = .next ({ s1 with cr0 := { s1.cr0 with PE := s.cr0.PE || v.getLsbD 0, MP := v.getLsbD 1,
                                                                  EM := v.getLsbD 2, TS := v.getLsbD 3 } }.finished .normal)) ∧
    (s.cpl = 0#2 → exec .clts s = .next ({ s with cr0 := { s.cr0 with TS := false } }.finished .normal)) ∧
    (∀ rm r, s.protectedMode = false →
      exec (.sldtEw rm) s = s.takes s 6#8 .none ∧ exec (.strEw rm) s = s.takes s 6#8 .none ∧ exec (.lldtEw rm) s = s.takes s 6#8 .none ∧
      exec (.ltrEw rm) s = s.takes s 6#8 .none ∧ exec (.verrEw rm) s = s.takes s 6#8 .none ∧ exec (.verwEw rm) s = s.takes s 6#8 .none ∧
      exec (.arplEwGw rm r) s = s.takes s 6#8 .none ∧ exec (.larGvEw r rm) s = s.takes s 6#8 .none ∧
      exec (.lslGvEw r rm) s = s.takes s 6#8 .none)) ∧
  (∀ (s : State) (rm : Rm) (p : Place), s.protectedMode = true → s.plain = true → s.cpl = 0#2 → place .w rm false s = .ok p s →
    let sel := s.valueAt .w p
    (nullSel sel = true → exec (.lldtEw rm) s = .next ({ s with ldtr := { s.ldtr with sel := sel, valid := false } }.finished .normal)) ∧
    (nullSel sel = true → exec (.ltrEw rm) s = s.takes s 13#8 (.sel 0#16)) ∧
    (∀ la, nullSel sel = false → tiOf sel = false → s.entryAddr sel = some la →
      let d := s.descAt la
      (d.isSystem 2#4 = true → d.p = true →
        exec (.lldtEw rm) s = .next ({ s with ldtr := ⟨sel, d.base, d.limit, d.p, d.dpl, d.s, d.typ, true⟩,
                                              lockOut := ⟨.descriptor, [la]⟩ :: s.lockOut }.finished .normal)) ∧
      (d.isSystem 9#4 = true → d.p = true →
        let l := Loc.from (la + 4#32) 4
        exec (.ltrEw rm) s = .next ({ s.store l (d.hi ||| 0x200#32) with tr := ⟨sel, d.base, d.limit, true⟩,
                                                                         lockOut := ⟨.busyBit, l⟩ :: s.lockOut }.finished .normal))))

/-- VERR, VERW, LAR, LSL in protected mode: ZF tells whether the selector is not null, lies in its table and names a
descriptor that passes the test (`SelectorTest.passes`: its type, and DPL against CPL and RPL but for conforming code); LAR then loads
the access-rights bytes (bits 19 to 16 free), LSL the effective limit. A test that passes sets a clear accessed bit with LOCK#
asserted where the platform says so (said for a plain state). ARPL raises the RPL of its operand to that of its register. -/
def Obligations.SelectorTests : Prop :=
  (∀ (i : Instr) (s s1 : State) (rm : Rm) (test : SelectorTest) (dst : Option Reg) (p : Place),
    selectorForm i = some (rm, test, dst) → s.pfx.lock = false → s.protectedMode = true → place .w rm false s = .ok p s1 →
    let sel := s1.valueAt .w p
    (nullSel sel = true ∨ s1.entryAddr sel = none →
      exec i s = .next ({ s1 with flags := { s1.flags with ZF := false } }.finished .normal)) ∧
    (∀ d s2, nullSel sel = false → fetchDesc sel s1 = .ok (some d) s2 →
      (test.passes s.cpl (sel.extractLsb' 0 2) d.hi = false →
        exec i s = .next ({ s2 with flags := { s2.flags with ZF := false } }.finished .normal)) ∧
      (test.passes s.cpl (sel.extractLsb' 0 2) d.hi = true →
        let writes : Prop := s.plat.seltestSetsAccessed = true ∧ d.s = true ∧ d.hi.getLsbD 8 = false
        let t := { s2 with flags := { s2.flags with ZF := true } }
        let u (x : State) : State := if s.plat.seltestSetsAccessed = true ∧ d.s = true ∧ d.hi.getLsbD 8 = false then x.loadedDesc d else x
        (¬ writes ∨ s.plain = true) →
        (dst = none → exec i s = .next ((u t).finished .normal)) ∧
        (∀ r, i = .lslGvEw r rm →
          exec i s = .next ((u (t.setReg s.osz r (d.limit.setWidth s.osz.bits))).finished .normal)) ∧
        (∀ r, i = .larGvEw r rm → ∃ (v : BitVec 32) (n : Nat), v &&& 0xFFF0FFFF#32 = d.hi &&& 0x00F0FF00#32 ∧
          exec i s = .next ((u ((t.drawn n).setReg s.osz r (v.setWidth s.osz.bits))).finished .normal))))) ∧
  (∀ (s s1 : State) (rm : Rm) (r : Reg) (p : Place), s.pfx.lock = false → s.protectedMode = true → place .w rm false s = .ok p s1 →
    let a := s1.valueAt .w p
    let b := s.reg .w r
    ((b.extractLsb' 0 2).toNat ≤ (a.extractLsb' 0 2).toNat →
      exec (.arplEwGw rm r) s = .next ({ s1 with flags := { s1.flags with ZF := false } }.finished .normal)) ∧
    (∀ q s2, (a.extractLsb' 0 2).toNat < (b.extractLsb' 0 2).toNat → place .w rm true s1 = .ok q s2 →
      exec (.arplEwGw rm r) s =
        .next ({ s2.putAt .w q ((a &&& 0xFFFC#16) ||| (b &&& 3#16)) with flags := { s2.flags with ZF := true } }.finished .normal)))

/-- MOV to and from CR0, CR2, CR3 at level 0: the fields written or read, the six status flags free, the TLB emptied by a write
of CR3 and by a change of PG; PG = 1 with PE = 0 is #GP(0); the other numbers are #UD. -/
def Obligations.ControlRegisterMoves : Prop :=
  ∀ (s : State) (r : Reg), s.pfx.lock = false → s.cpl = 0#2 →
    let v := s.reg .d r
    (v.getLsbD 31 = true → v.getLsbD 0 = false → exec (.movCdRd 0#3 r) s = s.takes s 13#8 (.sel 0#16)) ∧
    (v.getLsbD 31 = false ∨ v.getLsbD 0 = true → ∃ st n,
      let t := { s with cr0 := ⟨v.getLsbD 0, v.getLsbD 1, v.getLsbD 2, v.getLsbD 3, v.getLsbD 4, v.getLsbD 31⟩ }
      exec (.movCdRd 0#3 r) s =
        .next ((((if s.cr0.PG = v.getLsbD 31 then t else t.flushTlb).drawn n).withStatus st).finished .normal)) ∧
    (∃ st n, exec (.movCdRd 2#3 r) s = .next (((({ s with cr2 := v }).drawn n).withStatus st).finished .normal)) ∧
    (∃ st n, exec (.movCdRd 3#3 r) s = .next ((((({ s with cr3 := v.extractLsb' 12 20 }).flushTlb).drawn n).withStatus st).finished .normal)) ∧
    (∃ (x : BitVec 32) (st : Status) (n : Nat), x.getLsbD 31 = s.cr0.PG ∧ x.getLsbD 4 = s.cr0.ET ∧ x.getLsbD 3 = s.cr0.TS ∧
      x.getLsbD 2 = s.cr0.EM ∧ x.getLsbD 1 = s.cr0.MP ∧ x.getLsbD 0 = s.cr0.PE ∧
      exec (.movRdCd r 0#3) s = .next ((((s.drawn n).setReg .d r x).withStatus st).finished .normal)) ∧
    (∃ st n, exec (.movRdCd r 2#3) s = .next ((((s.drawn n).setReg .d r s.cr2).withStatus st).finished .normal)) ∧
    (∃ (x : BitVec 32) (st : Status) (n : Nat), x.extractLsb' 12 20 = s.cr3 ∧
      exec (.movRdCd r 3#3) s = .next ((((s.drawn n).setReg .d r x).withStatus st).finished .normal)) ∧
    (∀ k, k ≠ 0#3 → k ≠ 2#3 → k ≠ 3#3 →
      exec (.movCdRd k r) s = s.takes s 6#8 .none ∧ exec (.movRdCd r k) s = s.takes s 6#8 .none)

/-- MOV to and from the debug registers (with the emulator off them) at level 0: DR0 to DR3 whole, of DR6 bits 15 to 13 and 3 to 0
kept, of DR7 bits 31 to 16 and 9 to 0; and the test registers; the six status flags free. DR4, DR5 and the test registers below 6 are
#UD; a write of TR6 with C = 1 looks the page up and changes only TR6, TR7 and the draw counter, one with C = 0 changes the TLB at
most. -/
def Obligations.DebugAndTestRegisterMoves : Prop :=
  ∀ (s : State) (r : Reg), s.pfx.lock = false → s.cpl = 0#2 →
    let v := s.reg .d r
    let writes (k : BitVec 3) (d : Debug) : Prop :=
      ∃ st n, exec (.movDdRd k r) s = .next (((({ s with dbg := d }).drawn n).withStatus st).finished .normal)
    let reads (k : BitVec 3) (x : BitVec 32) : Prop :=
      ∃ st n, exec (.movRdDd r k) s = .next ((((s.drawn n).setReg .d r x).withStatus st).finished .normal)
    (s.plat.iceInUse = false →
      writes 0#3 { s.dbg with dr0 := v } ∧ writes 1#3 { s.dbg with dr1 := v } ∧ writes 2#3 { s.dbg with dr2 := v } ∧
      writes 3#3 { s.dbg with dr3 := v } ∧ writes 6#3 { s.dbg with dr6 := v &&& 0x0000E00F#32 } ∧
      writes 7#3 { s.dbg with dr7 := v &&& 0xFFFF03FF#32 } ∧
      reads 0#3 s.dbg.dr0 ∧ reads 1#3 s.dbg.dr1 ∧ reads 2#3 s.dbg.dr2 ∧ reads 3#3 s.dbg.dr3 ∧ reads 6#3 s.dbg.dr6 ∧ reads 7#3 s.dbg.dr7) ∧
    (∀ k, k = 4#3 ∨ k = 5#3 → exec (.movDdRd k r) s = s.takes s 6#8 .none ∧ exec (.movRdDd r k) s = s.takes s 6#8 .none) ∧
    (∃ st n, exec (.movRdTd r 6#3) s = .next ((((s.drawn n).setReg .d r s.tr6).withStatus st).finished .normal)) ∧
    (∃ st n, exec (.movRdTd r 7#3) s = .next ((((s.drawn n).setReg .d r s.tr7).withStatus st).finished .normal)) ∧
    (∃ st n, exec (.movTdRd 7#3 r) s = .next (((({ s with tr7 := v &&& 0xFFFFF01C#32 }).drawn n).withStatus st).finished .normal)) ∧
    (∃ st n t6 t7, v.getLsbD 0 = true →
      exec (.movTdRd 6#3 r) s = .next (((({ s with tr6 := t6, tr7 := t7 }).drawn n).withStatus st).finished .normal)) ∧
    (∃ st n b, v.getLsbD 0 = false →
      exec (.movTdRd 6#3 r) s = .next (((({ s with tr6 := v &&& 0xFFFFFFE1#32, tlb := b }).drawn n).withStatus st).finished .normal)) ∧
    (∀ k, k ≠ 6#3 → k ≠ 7#3 → exec (.movTdRd k r) s = s.takes s 6#8 .none ∧ exec (.movRdTd r k) s = s.takes s 6#8 .none)

/-- The TLB test registers agree: in a set without another entry of that page, a write command (V and the attribute pairs as a
valid entry has them, HT = 1, the block in REP) followed by the lookup of the same tag hits that block and gives back the
physical address (R142). -/
def Obligations.TlbWriteThenLookup : Prop :=
  ∀ (s : State) (c : BitVec 32) (page phys : BitVec 20) (d u w : Bool) (block : BitVec 2),
    c = page ++ 1#1 ++ bit d ++ bit (!d) ++ bit u ++ bit (!u) ++ bit w ++ bit (!w) ++ 0#5 →
    s.tr7 = phys ++ 0#7 ++ 1#1 ++ block ++ 0#2 → s.tlb.length = 32 →
    (∀ k < 4, k ≠ block.toNat → (s.tlb.getD (tlbIndex k page) TlbEntry.empty).v = false) →
    ∃ s1 s2, tlbWrite c s = .ok () s1 ∧ tlbLookup (c ||| 1#32) s1 = .ok () s2 ∧
      s2.tr7 = phys ++ 0#7 ++ 1#1 ++ block ++ 0#2 ∧ s2.tr6 = c ||| 1#32 ∧ s2.tlb = s1.tlb

/-- HLT at level 0 halts; CLI and STI where CPL is at most IOPL (or in real-address mode) clear and set IF, STI opening the
shadow when IF was 0; where CPL is above IOPL they are #GP(0) (R510, R526, R527). -/
def Obligations.HaltAndInterruptFlag : Prop :=
  ∀ (s : State), s.pfx.lock = false →
    (s.cpl = 0#2 → exec .hlt s = .next ({ s with run := .halted }.finished .normal)) ∧
    (s.protectedMode = false ∨ s.cpl.toNat ≤ s.flags.IOPL.toNat →
      exec .cli s = .next ({ s with flags := { s.flags with IF := false } }.finished .normal) ∧
      exec .sti s =
        .next ({ s with flags := { s.flags with IF := true } }.finished (if s.flags.IF then .normal else .opensSti))) ∧
    (s.protectedMode = true → s.flags.IOPL.toNat < s.cpl.toNat →
      exec .cli s = s.takes s 13#8 (.sel 0#16) ∧ exec .sti s = s.takes s 13#8 (.sel 0#16))

/-- IN loads the accumulator with what the port gives (a free value), OUT sends it to the port, once the I/O check passes, and they
are #GP(0) where it fails. In real-address mode or with CPL at most IOPL it passes without the permission map. Else, in a plain
state, it passes where the map base lies below the TSS limit and the map's bits for all the ports are inside the limit and 0. -/
def Obligations.PortInstructions : Prop :=
  (∀ (i : Instr) (s : State) (f : PortForm), portForm s i = some f → s.pfx.lock = false →
    (s.protectedMode = false ∨ s.cpl.toNat ≤ s.flags.IOPL.toNat → ioCheck f.port f.sz.bytes s = .ok () s) ∧
    (∀ s1, ioCheck f.port f.sz.bytes s = .ok () s1 →
      (f.input = true → ∃ (v : BitVec f.sz.bits) (n : Nat), exec i s = .next (((s1.drawn n).setReg f.sz .ax v).finished .normal)) ∧
      (f.input = false → exec i s =
        .next ({ s1 with ioOut := ⟨f.port, f.sz.bytes, (s.reg f.sz .ax).setWidth 32⟩ :: s1.ioOut }.finished .normal))) ∧
    (∀ s1, ioCheck f.port f.sz.bytes s = .error (.exc ⟨13#8, .sel 0#16⟩) s1 → exec i s = s.takes s1 13#8 (.sel 0#16))) ∧
  (∀ (s : State) (p : BitVec 16) (n : Nat), s.plain = true → s.protectedMode = true → s.flags.IOPL.toNat < s.cpl.toNat →
    let map := (s.load 16 (Loc.from (s.tr.base + 0x66#32) 2)).toNat
    let granted : Prop := map < s.tr.limit.toNat ∧ ∀ q, p.toNat ≤ q → q < p.toNat + n →
      map + q / 8 ≤ s.tr.limit.toNat ∧ (s.byteAt (s.tr.base + BitVec.ofNat 32 (map + q / 8))).getLsbD (q % 8) = false
    (granted → ioCheck p n s = .ok () s) ∧ (¬ granted → ioCheck p n s = .error (.exc ⟨13#8, .sel 0#16⟩) s))

/-- The privileged instructions are #GP(0) outside level 0, with nothing written (R184). -/
def Obligations.PrivilegedInstructionsTrap : Prop :=
  ∀ (i : Instr) (s : State), privilegedForm s i = true → s.cpl ≠ 0#2 → s.pfx.lock = false →
    exec i s = s.takes s 13#8 (.sel 0#16)

/-! ## Exceptions -/

/-- Delivery in real-address mode: FLAGS, CS and IP are pushed as words, CS:IP comes from the four bytes at four times the
vector in the table IDTR names, IF, TF and RF are cleared. -/
def Obligations.DeliveryInRealMode : Prop :=
  ∀ (s s1 : State) (ev : Event), s.protectedMode = false → s.plain = true → 4 * ev.vec.toNat + 3 ≤ s.idtr.limit.toNat →
    (do pushQuiet .w (s.flags.toBits.extractLsb' 0 16)
        pushQuiet .w s.seg.cs.sel
        pushQuiet .w (ev.ret.extractLsb' 0 16) : M Unit) s = .ok () s1 →
    let entry := s.idtr.base + BitVec.ofNat 32 (4 * ev.vec.toNat)
    let off := s.load 16 (Loc.from entry 2)
    let sel := s.load 16 (Loc.from (s.idtr.base + BitVec.ofNat 32 (4 * ev.vec.toNat + 2)) 2)
    deliverOnce ev s = .ok () ({ s1 with
      seg := { s1.seg with cs := { s1.seg.cs with sel := sel, base := sel.setWidth 32 <<< 4, valid := true } },
      a31High := false, eip := off.setWidth 32, eipNext := off.setWidth 32,
      flags := { s.flags with TF := false, IF := false, RF := false }, run := .running, ssShadow := false, stiShadow := false,
      pastEnd := false, queue := [], nmiInService := s.nmiInService || (ev.vec == 2#8 && ev.kind == .nmi) })

/-- Delivery through a 386 interrupt or trap gate to the same privilege level, in a plain state: EFLAGS, CS, EIP and the error code
if there is one are pushed as doublewords (the undefined upper bits of CS and of the code free), CS:EIP comes from the gate, TF, NT
and RF are cleared, and IF by an interrupt gate only. That the room is tested as one block is log entry 18 (DEDUCED). -/
def Obligations.DeliveryToTheSameLevel : Prop :=
  ∀ (s : State) (ev : Event) (la : BitVec 32), s.protectedMode = true → s.plain = true → ev.vec.toNat * 8 + 7 ≤ s.idtr.limit.toNat →
    let gate := s.descAt (s.idtr.base + BitVec.ofNat 32 (ev.vec.toNat * 8))
    (gate.isSystem 0xE#4 = true ∨ gate.isSystem 0xF#4 = true) → (ev.kind = .software → s.cpl.toNat ≤ gate.dpl.toNat) → gate.p = true →
    nullSel gate.gateSel = false → s.entryAddr gate.gateSel = some la →
    let target := s.descAt la
    target.isCode = true → (target.dpl = s.cpl ∨ target.isConforming = true ∧ target.dpl.toNat ≤ s.cpl.toNat) → target.p = true →
    gate.gateOff.toNat ≤ target.limit.toNat →
    let n := if ev.err = .none then 3 else 4
    s.segOk .ss (s.below (4 * n)) (4 * n) .write = true →
    ∃ (u : BitVec 16) (e : BitVec 32) (k : Nat), ev.err.agrees e ∧
      let image := { s.flags with RF := s.flags.RF || ev.setRF }
      let t := (((s.drawn k).store (s.slot 4 1) image.toBits).store (s.slot 4 2) (u ++ s.seg.cs.sel)).store (s.slot 4 3) ev.ret
      let t := (if ev.err = .none then t else t.store (s.slot 4 4) e).loadedDesc target
      deliverOnce ev s = .ok () ({ t with
        gpr := (s.setStackPtr (s.below (4 * n))).gpr, seg := s.seg.set .cs (target.toSeg (withRpl gate.gateSel s.cpl)), a31High := false,
        eip := gate.gateOff, eipNext := gate.gateOff,
        flags := { s.flags with TF := false, IF := s.flags.IF && gate.isSystem 0xF#4, NT := false, RF := false },
        run := .running, ssShadow := false, stiShadow := false, pastEnd := false, queue := [],
        nmiInService := s.nmiInService || (ev.vec == 2#8 && (ev.kind == .external || ev.kind == .nmi)) })

/-- Delivery to an inner privilege level, in a plain state: SS and ESP for that level come from the TSS, and the old SS and ESP,
EFLAGS, CS, EIP and the error code if there is one are written on the new stack; the rest as at the same level. Delivery through a
task gate: the task switch, then the error code on the new task's stack, then the T bit of its TSS; said where the incoming task is
a plain state with room for the code (R562, R600, R602, R615). That the room is tested as one block is log entry 18, what ESP holds
on a 16-bit stack log entry 30 (both DEDUCED). -/
def Obligations.DeliveryToAnInnerLevelOrTask : Prop :=
  ∀ (s : State) (ev : Event) (la : BitVec 32), s.protectedMode = true → s.plain = true → ev.vec.toNat * 8 + 7 ≤ s.idtr.limit.toNat →
    let gate := s.descAt (s.idtr.base + BitVec.ofNat 32 (ev.vec.toNat * 8))
    (ev.kind = .software → s.cpl.toNat ≤ gate.dpl.toNat) → gate.p = true → s.entryAddr gate.gateSel = some la →
    let target := s.descAt la
    let nmi := s.nmiInService || (ev.vec == 2#8 && (ev.kind == .external || ev.kind == .nmi))
    let image := { s.flags with RF := s.flags.RF || ev.setRF }
    (∀ sa, gate.isSystem 0xE#4 = true ∨ gate.isSystem 0xF#4 = true → nullSel gate.gateSel = false →
      target.isCode = true → target.isConforming = false → target.dpl.toNat < s.cpl.toNat → target.p = true →
      gate.gateOff.toNat ≤ target.limit.toNat → 8 * target.dpl.toNat + 11 ≤ s.tr.limit.toNat →
      let esp := s.phys32 (s.tr.base + BitVec.ofNat 32 (4 + 8 * target.dpl.toNat))
      let ss := s.load 16 (Loc.from (s.tr.base + BitVec.ofNat 32 (8 + 8 * target.dpl.toNat)) 2)
      nullSel ss = false → s.entryAddr ss = some sa →
      let sd := s.descAt sa
      rplOf ss = target.dpl → sd.isWritableData = true → sd.dpl = target.dpl → sd.p = true →
      let n := if ev.err = .none then 5 else 6
      let g := sd.toSeg ss
      g.inLimit (wrapOff g.db (esp - BitVec.ofNat 32 (4 * n))) (4 * n) = true →
      ∃ (u1 u2 : BitVec 16) (e : BitVec 32) (k : Nat), ev.err.agrees e ∧
        let at_ (j : Nat) : Loc := Loc.from (g.base + wrapOff g.db (esp - BitVec.ofNat 32 (4 * j))) 4
        let t := (((((s.drawn k).store (at_ 1) (u1 ++ s.seg.ss.sel)).store (at_ 2) s.gpr.esp).store (at_ 3) image.toBits).store (at_ 4)
          (u2 ++ s.seg.cs.sel)).store (at_ 5) ev.ret
        let t := ((if ev.err = .none then t else t.store (at_ 6) e).loadedDesc sd).loadedDesc target
        deliverOnce ev s = .ok () ({ t with
          gpr := { s.gpr with esp := esp - BitVec.ofNat 32 (4 * n) }, cpl := target.dpl, a31High := false,
          seg := (s.seg.set .ss g).set .cs (target.toSeg (withRpl gate.gateSel target.dpl)),
          eip := gate.gateOff, eipNext := gate.gateOff,
          flags := { s.flags with TF := false, IF := s.flags.IF && gate.isSystem 0xF#4, NT := false, RF := false },
          run := .running, ssShadow := false, stiShadow := false, pastEnd := false, queue := [], nmiInService := nmi })) ∧
    (∀ s1, gate.isSystem 5#4 = true → tiOf gate.gateSel = false → indexOf gate.gateSel ≠ 0#13 →
      target.isSystem 9#4 = true → target.p = true →
      taskSwitchCore .int gate.gateSel target (ev.kind == .external || ev.kind == .nmi) ev.ret image
        { s with run := .running, ssShadow := false, stiShadow := false, pastEnd := false, queue := [], nmiInService := nmi } = .ok () s1 →
      s1.plain = true → (ev.err ≠ .none → s1.segOk .ss (s1.below 4) 4 .write = true) →
      ∃ (e : BitVec 32) (k : Nat), ev.err.agrees e ∧
        let t := if ev.err = .none then s1 else ((s1.drawn k).store (s1.slot 4 1) e).setStackPtr (s1.below 4)
        deliverOnce ev s = .ok () { t with dbg := { t.dbg with
          pendingBT := t.dbg.pendingBT || (t.load 16 (Loc.from (t.tr.base + 0x64#32) 2)).getLsbD 0 } })

/-- An exception raised while another event is delivered: the double-fault table, shutdown when it meets a double fault, and the
second exception delivered in its own right otherwise. `deliver` is for external events and exceptions, an external event classed by
its vector (log entry 17: DEDUCED); the delivery of a software interrupt that fails is no nested one, its exception saves the EIP
of the instruction (R604). A delivery that failed leaves its memory and CR2, the registers being rolled back (log entry 27: DEDUCED). -/
def Obligations.NestedExceptions : Prop :=
  ∀ (n : Nat) (ev : Event) (s s1 : State) (y : Exc), deliverOnce ev s = .error (.exc y) s1 →
    let contributory (v : BitVec 8) : Bool := v == 0#8 || v == 9#8 || v == 10#8 || v == 11#8 || v == 12#8 || v == 13#8
    let double := (contributory ev.vec || ev.vec == 14#8) && contributory y.vec || ev.vec == 14#8 && y.vec == 14#8
    deliver (n + 1) ev s =
      if ev.vec = 8#8 then .next (State.rollback s s1).shutDown
      else if double = true then deliver n ⟨8#8, .exception, .sel 0#16, ev.ret, false⟩ (State.rollback s s1)
      else deliver n ⟨y.vec, .exception, y.err, ev.ret, y.vec != 8#8⟩ (State.rollback s s1)

/-- IRET in real-address mode pops EIP (not held against the CS limit: log entry 36, DESIGN CHOICE), CS and the flags; in protected
mode, to the same level, it does the same through the checks of the popped selector; to an outer level, in a plain state, it also
takes SS and ESP and nulls the data-segment registers of more privileged segments; IF changes only at a sufficient privilege level
and IOPL only at level 0. With NT = 1 it switches to the task of the back link. What rests on the log: that the frame is checked as
one block that does not wrap, in real-address mode too, is log entry 18 (DEDUCED); that a register nulled by the return keeps its
hidden base, limit and attributes is log entry 34 (DESIGN CHOICE). -/
def Obligations.ReturnFromInterrupt : Prop :=
  let flags (s : State) (fl : BitVec s.osz.bits) (c : BitVec 2) : Eflags :=
    let g := Eflags.ofBits (fl.setWidth 32)
    { g with IF := if c.toNat ≤ s.flags.IOPL.toNat then g.IF else s.flags.IF, IOPL := if c = 0#2 then g.IOPL else s.flags.IOPL,
             RF := if s.osz = .d then g.RF else s.flags.RF, VM := if s.osz = .d ∧ c = 0#2 then g.VM else s.flags.VM }
  (∀ (s s1 s2 s3 : State) (v fl : BitVec s.osz.bits) (ncs : BitVec 16), s.pfx.lock = false → s.stackHas (3 * s.osz.bytes) = true →
    peek 0 s.osz s = .ok v s1 → peek s.osz.bytes .w s1 = .ok ncs s2 → peek (2 * s.osz.bytes) s.osz s2 = .ok fl s3 →
    (s.osz = .d → fl.getLsbD 17 = false) →
    (s.protectedMode = false → exec .iret s = .next ({ s3 with
        gpr := (s3.setStackPtr (s.above (3 * s.osz.bytes))).gpr,
        seg := { s3.seg with cs := { s3.seg.cs with sel := ncs, base := ncs.setWidth 32 <<< 4, valid := true } }, a31High := false,
        eipNext := v.setWidth 32, pastEnd := false, queue := [], flags := flags s fl 0#2, nmiInService := false }.finished .keepRF)) ∧
    (∀ d s4 s5, s.protectedMode = true → s.flags.NT = false → checkReturnCs ncs s3 = .ok d s4 → rplOf ncs = s.cpl →
      (v.setWidth 32).toNat ≤ d.limit.toNat → setAccessed d s4 = .ok () s5 →
      exec .iret s = .next ({ s5 with
        gpr := (s5.setStackPtr (s.above (3 * s.osz.bytes))).gpr, seg := s5.seg.set .cs (d.toSeg (withRpl ncs s.cpl)), a31High := false,
        eipNext := v.setWidth 32, pastEnd := false, queue := [], flags := flags s fl s.cpl, nmiInService := false }.finished .keepRF))) ∧
  (∀ (s : State) (la sla : BitVec 32), s.protectedMode = true → s.plain = true → s.flags.NT = false →
    let n := s.osz.bytes
    let item (k : Nat) : BitVec s.osz.bits := s.load s.osz.bits (s.bytesAt .ss (s.above (k * n)) n)
    let selAt (k : Nat) : BitVec 16 := s.load 16 (s.bytesAt .ss (s.above (k * n)) 2)
    let off := (item 0).setWidth 32
    let rpl := rplOf (selAt 1)
    s.segOk .ss s.stackPtr (5 * n) .read = true → ¬ (s.osz = .d ∧ (item 2).getLsbD 17 = true ∧ s.cpl = 0#2) →
    nullSel (selAt 1) = false → s.entryAddr (selAt 1) = some la →
    let d := s.descAt la
    d.isCode = true → (if d.isConforming then d.dpl.toNat ≤ rpl.toNat else d.dpl = rpl) → s.cpl.toNat < rpl.toNat → d.p = true →
    off.toNat ≤ d.limit.toNat → nullSel (selAt 4) = false → s.entryAddr (selAt 4) = some sla →
    let sd := s.descAt sla
    sd.isWritableData = true → rplOf (selAt 4) = rpl → sd.dpl = rpl → sd.p = true →
    let scrub (g : SegReg) : SegReg :=
      if g.valid = true ∧ g.s = true ∧ (g.typ.getLsbD 3 && g.typ.getLsbD 2) = false ∧ g.dpl.toNat < rpl.toNat
      then { g with sel := 0#16, valid := false } else g
    exec .iret s = .next (({ (s.loadedDesc d).loadedDesc sd with
      cpl := rpl, a31High := false, eipNext := off, pastEnd := false, queue := [], flags := flags s (item 2) s.cpl, nmiInService := false,
      seg := ⟨scrub s.seg.es, d.toSeg (selAt 1), sd.toSeg (selAt 4), scrub s.seg.ds, scrub s.seg.fs, scrub s.seg.gs⟩ }.setReg
        s.osz .sp (item 3)).finished .keepRF)) ∧
  (∀ (s s1 : State) (la : BitVec 32), s.protectedMode = true → s.plain = true → s.flags.NT = true →
    let link := s.load 16 (Loc.from s.tr.base 2)
    tiOf link = false → indexOf link ≠ 0#13 → s.entryAddr link = some la → (s.descAt la).isSystem 0xB#4 = true → (s.descAt la).p = true →
    taskSwitchCore .iret link (s.descAt la) false s.eipNext s.flags s = .ok () s1 → s1.plain = true →
    exec .iret s = .next ({ s1 with dbg := { s1.dbg with
      pendingBT := s1.dbg.pendingBT || (s1.load 16 (Loc.from (s1.tr.base + 0x64#32) 2)).getLsbD 0 } }.finished .keepRF))

/-- A task switch. The registers are saved at their places in the outgoing TSS, of a selector's slot only 16 bits, every other byte
staying as it is; the incoming ones are loaded (R551, R556). Between the two the switch commits: JMP and IRET clear the outgoing
busy bit, all but IRET set the incoming one, CALL and an interrupt write the back link, TR and TS are written; an exception after
that belongs to the new task (R560). When every test of the incoming task has passed: TR names the new TSS, whose limit is at least
103; TS is set and no other bit of CR0 changes; the privilege level is the RPL of the new CS; NT is 1 after a nesting switch and 0
after a JMP; EIP lies in the new code segment; the local breakpoint enables and LE are cleared (R557). JMP and CALL to a TSS
descriptor or through a task gate (R554, R555), in a plain state: #GP(selector) for a selector of the LDT (the gate's too), too
little privilege, a busy TSS or a target that is none, #NP(selector) for an absent gate or TSS, #TS(selector) for a short TSS; else
they make the switch with `EIP_next` saved, and add the T bit of the incoming TSS to the pending debug traps; an exception of the
incoming task is owed by the next step (log entry 12: DEDUCED). That LOCK# is asserted for the busy bit a switch clears, as for the
one it sets, is log entry 29 (DESIGN CHOICE). -/
def Obligations.TaskSwitches : Prop :=
  (∀ (s : State) (base eip fl : BitVec 32), s.plain = true → Memory.wf s.mem = true →
    ∃ t, saveTask base eip fl s = .ok () t ∧ t = { s with mem := t.mem } ∧
      t.phys32 (base + 0x20#32) = eip ∧ t.phys32 (base + 0x24#32) = fl ∧
      t.phys32 (base + 0x28#32) = s.gpr.eax ∧ t.phys32 (base + 0x2C#32) = s.gpr.ecx ∧
      t.phys32 (base + 0x30#32) = s.gpr.edx ∧ t.phys32 (base + 0x34#32) = s.gpr.ebx ∧
      t.phys32 (base + 0x38#32) = s.gpr.esp ∧ t.phys32 (base + 0x3C#32) = s.gpr.ebp ∧
      t.phys32 (base + 0x40#32) = s.gpr.esi ∧ t.phys32 (base + 0x44#32) = s.gpr.edi ∧
      t.load 16 (Loc.from (base + 0x48#32) 2) = s.seg.es.sel ∧ t.load 16 (Loc.from (base + 0x4C#32) 2) = s.seg.cs.sel ∧
      t.load 16 (Loc.from (base + 0x50#32) 2) = s.seg.ss.sel ∧ t.load 16 (Loc.from (base + 0x54#32) 2) = s.seg.ds.sel ∧
      t.load 16 (Loc.from (base + 0x58#32) 2) = s.seg.fs.sel ∧ t.load 16 (Loc.from (base + 0x5C#32) 2) = s.seg.gs.sel ∧
      s.sameBytes t (Loc.from (base + 0x20#32) 40 ++ [0x48#32, 0x4C#32, 0x50#32, 0x54#32, 0x58#32, 0x5C#32].flatMap fun k =>
        Loc.from (base + k) 2)) ∧
  (∀ (c : SwitchCause) (nsel : BitVec 16) (nd : Desc) (ext : Bool) (e : BitVec 32) (f : Eflags) (s u : State), s.plain = true →
    103 ≤ nd.limit.toNat → saveTask s.tr.base e (if c = .iret then { f with NT := false } else f).toBits s = .ok () u →
    let busy (t : State) (la set clear : BitVec 32) : State :=
      { t.store (Loc.from la 4) ((t.phys32 la &&& ~~~ clear) ||| set) with lockOut := ⟨.busyBit, Loc.from la 4⟩ :: t.lockOut }
    let u1 := if c = .jmp ∨ c = .iret
      then busy u (s.gdtr.base + BitVec.ofNat 32 ((indexOf s.tr.sel).toNat * 8 + 4)) 0#32 0x200#32 else u
    let u2 := if c = .iret then u1 else busy u1 (nd.at_ + 4#32) 0x200#32 0#32
    let u3 := { u2 with tr := ⟨nsel, nd.base, nd.limit, true⟩, cr0 := { s.cr0 with TS := true },
                        nmiInService := s.nmiInService && decide (c ≠ .iret) }
    let u4 := if c = .call ∨ c = .int then u3.store (Loc.from nd.base 2) s.tr.sel else u3
    taskSwitchCore c nsel nd ext e f s = inNewTask (do
      loadTask c nd.base
      switchSegments ext
      modS fun s => { s with queue := [], ssShadow := false, stiShadow := false }) u4) ∧
  (∀ (c : SwitchCause) (s : State) (nb : BitVec 32), s.plain = true →
    let fl := Eflags.ofBits (s.phys32 (nb + 0x24#32))
    fl.VM = false → ∃ t, loadTask c nb s = .ok () t ∧ t.mem = s.mem ∧
      t.gpr = ⟨s.phys32 (nb + 0x28#32), s.phys32 (nb + 0x2C#32), s.phys32 (nb + 0x30#32), s.phys32 (nb + 0x34#32),
               s.phys32 (nb + 0x38#32), s.phys32 (nb + 0x3C#32), s.phys32 (nb + 0x40#32), s.phys32 (nb + 0x44#32)⟩ ∧
      t.eip = s.phys32 (nb + 0x20#32) ∧
      t.flags = { fl with NT := if c = .call ∨ c = .int then true else if c = .jmp then false else fl.NT } ∧
      t.ldtr.sel = s.load 16 (Loc.from (nb + 0x60#32) 2) ∧ t.seg.es.sel = s.load 16 (Loc.from (nb + 0x48#32) 2) ∧
      t.seg.cs.sel = s.load 16 (Loc.from (nb + 0x4C#32) 2) ∧ t.seg.ss.sel = s.load 16 (Loc.from (nb + 0x50#32) 2) ∧
      t.seg.ds.sel = s.load 16 (Loc.from (nb + 0x54#32) 2) ∧ t.seg.fs.sel = s.load 16 (Loc.from (nb + 0x58#32) 2) ∧
      t.seg.gs.sel = s.load 16 (Loc.from (nb + 0x5C#32) 2) ∧ t.cpl = rplOf t.seg.cs.sel) ∧
  (∀ (c : SwitchCause) (nsel : BitVec 16) (nd : Desc) (ext : Bool) (e : BitVec 32) (f : Eflags) (s t : State),
    taskSwitchCore c nsel nd ext e f s = .ok () t →
    103 ≤ nd.limit.toNat ∧ t.tr = ⟨nsel, nd.base, nd.limit, true⟩ ∧ t.cr0 = { s.cr0 with TS := true } ∧
    t.cpl = rplOf t.seg.cs.sel ∧ t.flags.VM = false ∧ (c.nests = true → t.flags.NT = true) ∧ (c = .jmp → t.flags.NT = false) ∧
    t.eip.toNat ≤ t.seg.cs.limit.toNat ∧ t.eipNext = t.eip ∧ t.dbg.dr7 = s.dbg.dr7 &&& ~~~ 0x155#32 ∧
    t.gdtr = s.gdtr ∧ t.idtr = s.idtr ∧ t.queue = [] ∧ t.ssShadow = false ∧ t.stiShadow = false) ∧
  (∀ (i : Instr) (c : SwitchCause) (off : BitVec 32) (sel : BitVec 16) (s : State) (la : BitVec 32),
    (i = .jmpFarAp off sel ∧ c = .jmp ∨ i = .callFarAp off sel ∧ c = .call) → s.protectedMode = true → s.plain = true →
    nullSel sel = false → s.entryAddr sel = some la →
    let d := s.descAt la
    let trusted : Prop := s.cpl.toNat ≤ d.dpl.toNat ∧ (rplOf sel).toNat ≤ d.dpl.toNat
    let takes (v : BitVec 8) (x : BitVec 16) : Prop := exec i s = s.takes s v (selCode x false)
    let enters (x : BitVec 16) (e : Desc) : Prop :=
      (e.p = false → takes 11#8 x) ∧ (e.p = true → e.limit.toNat < 103 → takes 10#8 x) ∧
      (e.p = true → 103 ≤ e.limit.toNat →
        (∀ s1, taskSwitchCore c x e false s.eipNext s.flags s = .ok () s1 → s1.plain = true →
          exec i s = .next ({ s1 with dbg := { s1.dbg with
            pendingBT := s1.dbg.pendingBT || (s1.load 16 (Loc.from (s1.tr.base + 0x64#32) 2)).getLsbD 0 } }.finished .keepRF)) ∧
        (∀ y s1, taskSwitchCore c x e false s.eipNext s.flags s = .error (.late y) s1 →
          exec i s = .next { s1 with
            pendingExc := some y, pfx := Prefixes.empty, run := .running, eip := s1.eipNext, pastEnd := false, queue := [],
            ssShadow := false, stiShadow := false, dbg := { s1.dbg with matched := Hits.none } }))
    (d.isSystem 9#4 = true ∨ d.isSystem 0xB#4 = true →
      (tiOf sel = true ∨ ¬ trusted ∨ d.isSystem 0xB#4 = true → takes 13#8 sel) ∧
      (tiOf sel = false → trusted → d.isSystem 9#4 = true → enters sel d)) ∧
    (d.isSystem 5#4 = true →
      let x := d.gateSel
      (¬ trusted → takes 13#8 sel) ∧
      (trusted → d.p = false → takes 11#8 sel) ∧
      (trusted → d.p = true → tiOf x = true ∨ indexOf x = 0#13 ∨ s.entryAddr x = none → takes 13#8 x) ∧
      (∀ ta, trusted → d.p = true → tiOf x = false → indexOf x ≠ 0#13 → s.entryAddr x = some ta →
        let e := s.descAt ta
        (e.isSystem 9#4 = false → e.isSystem 1#4 = false → e.isSystem 3#4 = false → takes 13#8 x) ∧
        (e.isSystem 9#4 = true → enters x e))))

/-- Debug exceptions. A located operand, with paging off and no enabled breakpoint of an undefined setting, matches every data
breakpoint, enabled or not, of its kind of access that shares a byte with it. An instruction or element that completes makes its
matches, if an enabled one is among them, pending at once with LE or GE set, else at once, one instruction late or never (a free
choice); with none enabled among them they are only remembered (`seen`, up to the next boundary: log entry 23, DEDUCED); earlier
late ones become pending. A step that began with TF = 1 earns the single-step trap, but a poll of WAIT earns none (log entry 19:
DESIGN CHOICE). MOV to or from a debug register that the emulator uses sets BD and is a debug fault (R670, R672, R673, R676, R683,
R684). That a report with LE = GE = 0 comes at once, one instruction late or never is log entry 25 (DESIGN CHOICE). -/
def Obligations.DebugExceptions : Prop :=
  (∀ (s : State) (r : SReg) (off : BitVec 32) (n : Nat) (w : Bool), s.cr0.PG = false → s.plat.memMap = [] → s.pfx.lock = false → 0 < n →
    (∀ k : Fin 4, s.dbg.enabled k = true →
      s.dbg.rw k ≠ 2#2 ∧ s.dbg.len k ≠ 2#2 ∧ (s.dbg.rw k = 0#2 → s.dbg.len k = 0#2)) →
    s.segOk r off n (if w then .write else .read) = true →
    let la := (s.seg.get r).base + off
    ∃ m : Hits, locate r off n w s = .ok (Loc.from la n) { s with dbg := { s.dbg with matched := m } } ∧ ∀ k : Fin 4,
      let bytes := if s.dbg.len k = 0#2 then 1 else if s.dbg.len k = 1#2 then 2 else if s.dbg.len k = 3#2 then 4 else 0
      let field := s.dbg.addr k &&& ~~~ BitVec.ofNat 32 (bytes - 1)
      (m.get k = true ↔ s.dbg.matched.get k = true ∨
        (s.dbg.rw k = 3#2 ∨ s.dbg.rw k = 1#2 ∧ w = true) ∧
        ∃ i j : Nat, i < n ∧ j < bytes ∧ la + BitVec.ofNat 32 i = field + BitVec.ofNat 32 j)) ∧
  (∀ (s : State) (d : Done),
    let t := s.finished d
    let due (k : Fin 4) : Bool := s.dbg.pending.get k || s.dbg.late.get k
    let reportable : Prop := ∃ k, s.dbg.matched.get k = true ∧ s.dbg.enabled k = true
    t.dbg.matched = Hits.none ∧ t.dbg.pendingBT = s.dbg.pendingBT ∧
    t.dbg.pendingBS = (s.dbg.pendingBS || (s.dbg.tfAtStart && d != .again)) ∧
    (¬ reportable → (∀ k, t.dbg.pending.get k = due k) ∧ t.dbg.late = Hits.none ∧ t.dbg.seen = s.dbg.matched) ∧
    (reportable → t.dbg.seen = s.dbg.seen ∧
      ((∀ k, t.dbg.pending.get k = (due k || s.dbg.matched.get k)) ∧ t.dbg.late = Hits.none ∨
       s.dbg.dr7.extractLsb' 8 2 = 0#2 ∧ (∀ k, t.dbg.pending.get k = due k) ∧ (t.dbg.late = s.dbg.matched ∨ t.dbg.late = Hits.none)))) ∧
  (∀ (s : State) (r : Reg) (k : BitVec 3), s.pfx.lock = false → s.cpl = 0#2 → s.plat.iceInUse = true → k ≠ 4#3 → k ≠ 5#3 →
    let t := { s with dbg := { s.dbg with
      dr6 := s.dbg.dr6 ||| 0x2000#32 ||| dr6Image s.dbg.pending s.dbg.pendingBS s.dbg.pendingBT,
      pending := Hits.none, pendingBS := false, pendingBT := false, seen := Hits.none } }
    exec (.movDdRd k r) s = s.takes t 1#8 .none ∧ exec (.movRdDd r k) s = s.takes t 1#8 .none)

/-- What an instruction boundary services, first to last (R601, R625): in the shadow of a load of SS nothing, pending debug traps
being dropped; a debug trap or instruction breakpoint, DR6 receiving every condition that matched (R671, R676, R677); a latched NMI
while none is in service; INTR while IF is 1 outside the shadow of STI, acknowledged with LOCK# asserted; else the next instruction,
or nothing while halted. Said where no enabled breakpoint has an undefined setting. What rests on the log: that an accepted INTR and
a latched NMI are taken off the pins is log entry 8 (DESIGN CHOICE); that the acknowledge is one entry of LOCK# is log entry 29
(DESIGN CHOICE); that DR6 also receives the remembered matches of disabled breakpoints (`seen`), which are forgotten at the
boundary, is log entry 23 (DEDUCED); that a load of SS drops what is pending at its boundary and leaves a report held back for
the next one (`dbg.late`) is log entry 40 (DESIGN CHOICE). -/
def Obligations.EventsAtABoundary : Prop :=
  ∀ (s : State) (h : Hits), s.pins.reset = false → s.run ≠ .shutdown → s.flags.VM = false → s.pendingExc = none → s.pfx.count = 0 →
    (∀ k : Fin 4, s.dbg.enabled k = true →
      s.dbg.rw k ≠ 2#2 ∧ s.dbg.len k ≠ 2#2 ∧ (s.dbg.rw k = 0#2 → s.dbg.len k = 0#2)) →
    (∀ k : Fin 4, h.get k = true ↔ s.flags.RF = false ∧ s.run ≠ .halted ∧ s.dbg.rw k = 0#2 ∧ s.dbg.len k = 0#2 ∧
      s.dbg.addr k = s.seg.cs.base + s.eip) →
    let t := { s with nmiPending := s.nmiPending || (s.pins.nmi && !s.nmiInService), pins := { s.pins with nmi := false } }
    let start (t : State) : State :=
      { t with fetched := [], dbg := { t.dbg with tfAtStart := s.flags.TF, matched := Hits.none, seen := Hits.none } }
    let trap : Prop := (∃ k, s.dbg.pending.get k = true) ∨ s.dbg.pendingBS = true ∨ s.dbg.pendingBT = true
    let fault : Prop := ∃ k, h.get k = true ∧ s.dbg.enabled k = true
    (s.ssShadow = true →
      let u := { t with dbg := { s.dbg with pending := Hits.none, pendingBS := false, pendingBT := false, seen := Hits.none } }
      step s = if s.run = .halted then .next u else fetchAndRun (start u)) ∧
    (s.ssShadow = false →
      (trap ∨ fault → ∀ isFault : Bool, (isFault = true ↔ fault) →
        step s = deliver deliverFuel ⟨1#8, .exception, .none, s.eip, isFault⟩ { t with dbg := { s.dbg with
          dr6 := s.dbg.dr6 ||| dr6Image s.dbg.pending s.dbg.pendingBS s.dbg.pendingBT ||| dr6Image s.dbg.seen false false |||
            dr6Image h false false,
          pending := Hits.none, pendingBS := false, pendingBT := false, seen := Hits.none } }) ∧
      (¬ trap → ¬ fault →
        (t.nmiPending = true → s.nmiInService = false →
          step s = deliver deliverFuel ⟨2#8, .nmi, .none, s.eip, false⟩
            { t with nmiPending := false, dbg := { s.dbg with seen := Hits.none } }) ∧
        (t.nmiPending = false ∨ s.nmiInService = true →
          (∀ v, s.flags.IF = true → s.stiShadow = false → s.pins.intr = some v →
            step s = deliver deliverFuel ⟨v, .external, .none, s.eip, false⟩
              { t with pins := { t.pins with intr := none }, lockOut := ⟨.acknowledge, []⟩ :: s.lockOut,
                       dbg := { s.dbg with seen := Hits.none } }) ∧
          (s.flags.IF = false ∨ s.stiShadow = true ∨ s.pins.intr = none →
            step s = if s.run = .halted then .next t else fetchAndRun (start t)))))

/-! ## The whole machine -/

/-- What reset leaves where the spec states it: flags, EIP, the selectors and bases, IDTR, CR0's defined bits but ET, DH,
real-address mode with interrupts disabled (R60, R92, R93, R94). -/
def Obligations.ResetValues : Prop :=
  let s := State.reset
  s.flags.toBits = 2#32 ∧ s.eip = 0xFFF0#32 ∧ s.seg.cs.sel = 0xF000#16 ∧ s.seg.cs.base = 0xFFFF0000#32 ∧
  (∀ r, r ≠ .cs → (s.seg.get r).sel = 0#16 ∧ (s.seg.get r).base = 0#32) ∧ (∀ r, (s.seg.get r).limit = 0xFFFF#32 ∧ (s.seg.get r).p = true) ∧
  s.idtr = ⟨0#32, 0x3FF#16⟩ ∧ s.cr0.PG = false ∧ s.cr0.TS = false ∧ s.cr0.EM = false ∧ s.cr0.MP = false ∧ s.cr0.PE = false ∧
  s.reg .b .si = 3#8 ∧ s.protectedMode = false ∧ s.run = .running

/-- The reset state meets the machine's invariant. -/
def Obligations.ResetMeetsTheInvariant : Prop := State.reset.invariant

/-- Every step keeps the machine's invariant: memory in canonical form, the TLB at 32 entries, the unimplemented bits of the
debug and test registers 0, paging only with protection, level 0 outside protected mode, no prefix remembered between
instructions and at most 15. -/
def Obligations.EveryStepKeepsTheInvariant : Prop :=
  ∀ s t : State, s.invariant → step s = .next t → t.invariant

/-- Outside privilege level 0 no step, whatever it executes or delivers, changes GDTR, IDTR, the PE, MP, EM, ET, PG bits of CR0, the
breakpoint addresses, TR6 or TR7; only RESET can (R184). -/
def Obligations.UserStepsLeaveSystemRegisters : Prop :=
  ∀ s t : State, s.cpl ≠ 0#2 → s.cr0.PE = true → s.pins.reset = false → step s = .next t →
    t.gdtr = s.gdtr ∧ t.idtr = s.idtr ∧ t.cr0 = { s.cr0 with TS := t.cr0.TS } ∧
    t.dbg.dr0 = s.dbg.dr0 ∧ t.dbg.dr1 = s.dbg.dr1 ∧ t.dbg.dr2 = s.dbg.dr2 ∧ t.dbg.dr3 = s.dbg.dr3 ∧ t.tr6 = s.tr6 ∧ t.tr7 = s.tr7

/-- Shutdown ends only by RESET: that it ignores everything else, NMI included, is log entry 24 (DEDUCED). RESET, whatever the
state, leaves the segment registers, EIP, EFLAGS, IDTR, PE, PG and DH at their reset values and memory as it was (R90, R589, R700); a
halted machine with nothing to service stays halted; virtual-8086 mode is refused (D3). -/
def Obligations.ShutdownHaltAndReset : Prop :=
  (∀ s : State, s.run = .shutdown → s.pins.reset = false → step s = .next s) ∧
  (∀ s : State, s.pins.reset = true → ∃ t, step s = .next t ∧ t.seg = State.reset.seg ∧ t.eip = 0xFFF0#32 ∧ t.flags.toBits = 2#32 ∧
    t.cpl = 0#2 ∧ t.idtr = State.reset.idtr ∧ t.cr0.PE = false ∧ t.cr0.PG = false ∧ t.run = .running ∧ t.mem = s.mem ∧
    t.gpr.edx.extractLsb' 8 8 = 3#8) ∧
  (∀ s : State, { s with run := .running }.quiet = true → s.run = .halted → step s = .next s) ∧
  (∀ s : State, s.pins.reset = false → s.run ≠ .shutdown → s.flags.VM = true → step s = .refused .virtual8086)

/-- A step runs the decoded instruction: when nothing intervenes at the boundary, the prefetch queue is empty, paging is off, and
the bytes at CS:EIP, inside the code segment, held in memory and at most 15, are those of a well-formed instruction `i`, the step is
`exec i` from the state with `EIP_next` past them. What the prefetch then holds is the model's choice (log entry 15), with a prefetch
depth of 0 nothing; `pastEnd` says that offset FFFFFFFFH was the last byte, past which execution goes on only where the platform says
so (log entry 28). -/
def Obligations.StepRunsTheDecodedInstruction : Prop :=
  ∀ (s : State) (i : Instr), s.quiet = true → s.queue = [] → s.cr0.PG = false → i.wf s.attrs = true →
    (s.plat.eipWrap = true ∨ s.pastEnd = false) →
    let l := encode s.attrs i
    (∀ k, k < l.length → s.segOk .cs (s.eip + BitVec.ofNat 32 k) 1 .fetch = true ∧ s.eip.toNat + k < 2 ^ 32 ∧
      let a := s.seg.cs.base + (s.eip + BitVec.ofNat 32 k)
      (s.kindAt a = .ram ∨ s.kindAt a = .rom) ∧ l[k]? = some (s.byteAt a)) →
    ∃ q n, (s.plat.prefetchDepth = 0 → q = [] ∧ n = s.draws) ∧
      step s = exec i { s with eipNext := s.eip + BitVec.ofNat 32 l.length, pastEnd := decide (s.eip.toNat + l.length = 2 ^ 32),
                               fetched := l, queue := q, draws := n,
                               dbg := { s.dbg with tfAtStart := s.flags.TF, matched := Hits.none, seen := Hits.none } }

/-- Decoding undoes encoding: for every well-formed instruction under any size attributes, whatever bytes follow. -/
def Obligations.DecodingUndoesEncoding : Prop :=
  ∀ (a : Attrs) (i : Instr) (rest : List Byte), i.wf a = true → decode a (encode a i ++ rest) = .ok i rest

/-- Words written out from the encoding tables decode to their instructions (R212 to R216, R230 to R232). -/
def Obligations.SampleWordsDecode : Prop :=
  decode ⟨true, true⟩ [0x01#8, 0xD8#8] = .ok (.addEvGv (.reg .ax) .bx) [] ∧
  decode ⟨true, true⟩ [0x8B#8, 0x44#8, 0x8B#8, 0x04#8] = .ok (.movGvEv .ax (.mem (.a32 (some .bx) (some (.cx, .x4)) 4#32))) [] ∧
  decode ⟨false, false⟩ [0x8B#8, 0x46#8, 0xFE#8] = .ok (.movGvEv .ax (.mem (.a16 .bp 0xFFFE#16))) [] ∧
  decode ⟨true, true⟩ [0x0F#8, 0xAF#8, 0xC1#8] = .ok (.imulGvEv .ax (.reg .cx)) [] ∧
  decode ⟨false, false⟩ [0xEA#8, 0x5B#8, 0xE0#8, 0x00#8, 0xF0#8] = .ok (.jmpFarAp 0xE05B#32 0xF000#16) [] ∧
  decode ⟨true, true⟩ [0xF7#8, 0xCB#8] = .stop .undefinedGroupCell ∧ decode ⟨true, true⟩ [0x0F#8, 0xFF#8] = .stop .undefinedOpcode
end

