-- ==== Sys2Proof/Laws/Memory.lean ====
section
/-! SUPPORT. Laws of memory: a write keeps the canonical form, is read back, and leaves every other address alone. -/
namespace Sys2Proof.Machine

/-- Every key of a canonical memory that starts above `a` is above `a`. -/
def Memory.above (a : Nat) : List Host.Cell → Prop
  | [] => True
  | (k, _) :: _ => a < k

theorem Memory.wf_cons {k : Nat} {w : Byte} {m : List Host.Cell} :
    Memory.wf ((k, w) :: m) = true ↔ k < 2 ^ 32 ∧ w ≠ Memory.default ∧ Memory.above k m ∧ Memory.wf m = true := by
  cases m with
  | nil => simp [Memory.wf, Memory.above]
  | cons e m =>
    obtain ⟨b, u⟩ := e
    simp [Memory.wf, Memory.above, and_assoc]

theorem Memory.read_cons (k : Nat) (w : Byte) (m : List Host.Cell) (a : Nat) :
    Memory.read ((k, w) :: m) a = if k = a then w else Memory.read m a := rfl

/-- An address below every key reads as the default. -/
theorem Memory.read_of_above {m : List Host.Cell} {a b : Nat} (hw : Memory.wf m = true) (h : Memory.above b m) (hab : a ≤ b) :
    Memory.read m a = Memory.default := by
  induction m generalizing b with
  | nil => rfl
  | cons e m ih =>
    obtain ⟨k, w⟩ := e
    rw [Memory.wf_cons] at hw
    have hk : b < k := h
    rw [Memory.read_cons, if_neg (by omega)]
    exact ih hw.2.2.2 hw.2.2.1 (by omega)

theorem Memory.above_write {m : List Host.Cell} {a b : Nat} {v : Byte} (hw : Memory.wf m = true) (h : Memory.above b m) (hab : b < a) :
    Memory.above b (Memory.write m a v) := by
  cases m with
  | nil =>
    unfold Memory.write
    split
    · trivial
    · exact hab
  | cons e m =>
    obtain ⟨k, w⟩ := e
    rw [Memory.wf_cons] at hw
    have hk : b < k := h
    unfold Memory.write
    split
    · split
      · exact hk
      · exact hab
    · split
      · split
        · cases m with
          | nil => trivial
          | cons e m =>
            have := hw.2.2.1
            simp only [Memory.above] at this ⊢
            omega
        · exact hab
      · exact hk

/-- A write keeps the canonical form (20_memory.md R100). -/
theorem Memory.wf_write {m : List Host.Cell} {a : Nat} {v : Byte} (hw : Memory.wf m = true) (ha : a < 2 ^ 32) :
    Memory.wf (Memory.write m a v) = true := by
  induction m with
  | nil =>
    unfold Memory.write
    split
    · rfl
    · rename_i h
      simp only [Memory.wf_cons]
      exact ⟨ha, h, trivial, rfl⟩
  | cons e m ih =>
    obtain ⟨k, w⟩ := e
    have hw' := hw
    rw [Memory.wf_cons] at hw'
    unfold Memory.write
    split
    · split
      · exact hw
      · rename_i h1 h2
        rw [Memory.wf_cons]
        exact ⟨ha, h2, h1, hw⟩
    · split
      · split
        · exact hw'.2.2.2
        · rename_i h1 h2 h3
          rw [Memory.wf_cons]
          exact ⟨ha, h3, h2 ▸ hw'.2.2.1, hw'.2.2.2⟩
      · rename_i h1 h2
        rw [Memory.wf_cons]
        exact ⟨hw'.1, hw'.2.1, Memory.above_write hw'.2.2.2 hw'.2.2.1 (by omega), ih hw'.2.2.2⟩

/-- A write is read back. -/
theorem Memory.read_write_same {m : List Host.Cell} {a : Nat} {v : Byte} (hw : Memory.wf m = true) :
    Memory.read (Memory.write m a v) a = v := by
  induction m with
  | nil =>
    unfold Memory.write
    split
    · rename_i h; exact h.symm
    · simp [Memory.read_cons]
  | cons e m ih =>
    obtain ⟨k, w⟩ := e
    have hw' := hw
    rw [Memory.wf_cons] at hw'
    unfold Memory.write
    split
    · split
      · rename_i h1 h2
        rw [Memory.read_cons, if_neg (by omega), Memory.read_of_above hw'.2.2.2 hw'.2.2.1 (by omega), h2]
      · simp [Memory.read_cons]
    · split
      · split
        · rename_i h1 h2 h3
          rw [Memory.read_of_above hw'.2.2.2 hw'.2.2.1 (by omega), h3]
        · simp [Memory.read_cons]
      · rename_i h1 h2
        rw [Memory.read_cons, if_neg (by omega)]
        exact ih hw'.2.2.2

/-- A write leaves every other address alone. -/
theorem Memory.read_write_other {m : List Host.Cell} {a b : Nat} {v : Byte} (h : b ≠ a) :
    Memory.read (Memory.write m a v) b = Memory.read m b := by
  induction m with
  | nil =>
    unfold Memory.write
    split
    · rfl
    · rw [Memory.read_cons, if_neg (by omega)]
  | cons e m ih =>
    obtain ⟨k, w⟩ := e
    unfold Memory.write
    split
    · split
      · rfl
      · rw [Memory.read_cons, if_neg (by omega)]
    · split
      · rename_i h1 h2
        subst h2
        split
        · rw [Memory.read_cons, if_neg (by omega)]
        · rw [Memory.read_cons, Memory.read_cons, if_neg (by omega), if_neg (by omega)]
      · rw [Memory.read_cons, Memory.read_cons, ih]

/-- Writing back the byte an address holds changes no read. -/
theorem Memory.read_write (m : List Host.Cell) (a b : Nat) (v : Byte) (hw : Memory.wf m = true) :
    Memory.read (Memory.write m a v) b = if b = a then v else Memory.read m b := by
  split
  · rename_i h; subst h; exact Memory.read_write_same hw
  · rename_i h; exact Memory.read_write_other h

/-! ## Values of several bytes -/

theorem Memory.wf_storeNat {map : List Region} {m : List Host.Cell} (l : Loc) (n : Nat) (hw : Memory.wf m = true) :
    Memory.wf (Memory.storeNat map m l n) = true := by
  induction l generalizing m n with
  | nil => exact hw
  | cons a l ih =>
    refine ih _ ?_
    split
    · exact Memory.wf_write hw a.isLt
    · exact hw

theorem Memory.read_storeNat_other {map : List Region} {m : List Host.Cell} (l : Loc) (n : Nat) (a : BitVec 32) (h : a ∉ l) :
    Memory.read (Memory.storeNat map m l n) a.toNat = Memory.read m a.toNat := by
  induction l generalizing m n with
  | nil => rfl
  | cons b l ih =>
    rw [List.mem_cons, not_or] at h
    unfold Memory.storeNat
    rw [ih _ h.2]
    split
    · exact Memory.read_write_other fun hh => h.1 (BitVec.eq_of_toNat_eq hh)
    · rfl

/-- What is not RAM keeps no byte that is stored to it (20_memory.md R101). -/
theorem Memory.read_storeNat_kept {map : List Region} {m : List Host.Cell} (l : Loc) (n : Nat) (a : BitVec 32) (h : kindIn map a ≠ .ram) :
    Memory.read (Memory.storeNat map m l n) a.toNat = Memory.read m a.toNat := by
  induction l generalizing m n with
  | nil => rfl
  | cons b l ih =>
    unfold Memory.storeNat
    rw [ih]
    split
    · rename_i hb
      exact Memory.read_write_other fun hh => h (BitVec.eq_of_toNat_eq hh ▸ hb)
    · rfl

/-- A value stored at distinct addresses of RAM is read back, modulo the bytes stored (20_memory.md R102). -/
theorem Memory.load_storeNat {map : List Region} {d : Nat} {m : List Host.Cell} (l : Loc) (n : Nat) (hw : Memory.wf m = true)
    (hl : l.Nodup) (hr : ∀ a ∈ l, kindIn map a = .ram) :
    Memory.loadNat map d (Memory.storeNat map m l n) l = n % 256 ^ l.length := by
  induction l generalizing m n with
  | nil => simp [Memory.loadNat, Nat.mod_one]
  | cons a l ih =>
    rw [List.nodup_cons] at hl
    have ha := hr a (by simp)
    unfold Memory.loadNat Memory.storeNat Memory.busRead
    rw [if_pos ha, ha, if_pos (show MemKind.ram.holds = true from rfl), Memory.read_storeNat_other l _ a hl.1, Memory.read_write_same hw,
      ih _ (Memory.wf_write hw a.isLt) hl.2 fun b hb => hr b (by simp [hb]), BitVec.toNat_ofNat, List.length_cons, Nat.pow_succ]
    have := Nat.mod_mul (x := n) (a := 256) (b := 256 ^ l.length)
    rw [Nat.mul_comm] at this
    exact this.symm

theorem Memory.loadNat_lt (map : List Region) (d : Nat) (m : List Host.Cell) (l : Loc) : Memory.loadNat map d m l < 256 ^ l.length := by
  induction l with
  | nil => simp [Memory.loadNat]
  | cons a l ih =>
    unfold Memory.loadNat
    have := (Memory.busRead map d m a).isLt
    rw [List.length_cons, Nat.pow_succ]
    omega

/-! ## The state's memory -/

theorem State.wf_store {s : State} {w : Nat} (l : Loc) (v : BitVec w) (h : Memory.wf s.mem = true) :
    Memory.wf (s.store l v).mem = true := Memory.wf_storeNat _ _ h

theorem State.byteAt_store_other {s : State} {w : Nat} {l : Loc} {v : BitVec w} {a : BitVec 32} (h : a ∉ l) :
    (s.store l v).byteAt a = s.byteAt a := Memory.read_storeNat_other _ _ _ h

/-- A value stored in RAM is read back. -/
theorem State.load_store {s : State} {w : Nat} {l : Loc} {v : BitVec w} (hw : Memory.wf s.mem = true) (hl : l.Nodup)
    (hr : ∀ a ∈ l, s.kindAt a = .ram) (hn : 2 ^ w ≤ 256 ^ l.length) : (s.store l v).load w l = v := by
  apply BitVec.eq_of_toNat_eq
  have h := Memory.load_storeNat (d := s.draws) l v.toNat hw hl hr
  show (BitVec.ofNat w (Memory.loadNat s.plat.memMap s.draws (Memory.storeNat s.plat.memMap s.mem l v.toNat) l)).toNat = v.toNat
  have hv := v.isLt
  rw [h, BitVec.toNat_ofNat, Nat.mod_eq_of_lt (a := v.toNat) (b := 256 ^ l.length) (by omega), Nat.mod_eq_of_lt hv]

/-- Where memory holds every byte, an access changes nothing beforehand. -/
theorem State.settled_of_holds {s : State} {l : Loc} (h : s.holdsAll l = true) : s.settled l = s := if_pos h

/-- With no region declared every address is RAM. -/
theorem State.holdsAll_of_empty {s : State} (h : s.plat.memMap = []) (l : Loc) : s.holdsAll l = true := by
  unfold State.holdsAll State.kindAt
  rw [h]
  simp [kindIn, MemKind.holds]

theorem Loc.length_from (a : BitVec 32) (n : Nat) : (Loc.from a n).length = n := by
  induction n generalizing a with
  | zero => rfl
  | succ n ih => simp [Loc.from, ih]

theorem Loc.mem_from (a b : BitVec 32) (n : Nat) (hn : n ≤ 2 ^ 32) : b ∈ Loc.from a n ↔ (b - a).toNat < n := by
  induction n generalizing a with
  | zero => simp [Loc.from]
  | succ n ih =>
    simp only [Loc.from, List.mem_cons, ih (a + 1#32) (by omega)]
    constructor
    · rintro (rfl | h)
      · simp
      · bv_omega
    · intro h
      by_cases hab : b = a
      · exact .inl hab
      · right
        have : (b - a).toNat ≠ 0 := fun hz => hab (by bv_omega)
        bv_omega

/-- Consecutive addresses are distinct. -/
theorem Loc.nodup_from (a : BitVec 32) (n : Nat) (hn : n ≤ 2 ^ 32) : (Loc.from a n).Nodup := by
  induction n generalizing a with
  | zero => simp [Loc.from]
  | succ n ih =>
    rw [Loc.from, List.nodup_cons]
    refine ⟨?_, ih _ (by omega)⟩
    rw [Loc.mem_from _ _ _ (by omega)]
    bv_omega

end Sys2Proof.Machine
end

