-- ==== Sys2Proof/Laws/Monad.lean ====
section
/-! SUPPORT. Laws of the machine monad: what each primitive answers, and what a sequence answers. -/
namespace Sys2Proof.Machine

@[simp] theorem getS_apply (s : State) : getS s = .ok s s := rfl
@[simp] theorem modS_apply (f : State → State) (s : State) : modS f s = .ok () (f s) := rfl
@[simp] theorem modFlags_apply (f : Eflags → Eflags) (s : State) : modFlags f s = .ok () { s with flags := f s.flags } := rfl
@[simp] theorem halt_apply {α : Type} (h : Halt) (s : State) : (halt h : M α) s = .error h s := rfl
@[simp] theorem raise_apply {α : Type} (v : BitVec 8) (e : ErrCode) (s : State) :
    (raise v e : M α) s = .error (.exc ⟨v, e⟩) s := rfl
@[simp] theorem raiseUD_apply {α : Type} (s : State) : (raiseUD : M α) s = .error (.exc ⟨vUD, .none⟩) s := rfl
@[simp] theorem pure_apply {α : Type} (a : α) (s : State) : (pure a : M α) s = .ok a s := rfl
@[simp] theorem draw_apply (w : Nat) (s : State) :
    draw w s = .ok ((Config.freeValue s.draws).setWidth w) { s with draws := s.draws + 1 } := rfl
@[simp] theorem drawBool_apply (s : State) :
    drawBool s = .ok ((Config.freeValue s.draws).getLsbD 0) { s with draws := s.draws + 1 } := rfl
@[simp] theorem getReg_apply (sz : Size) (r : Reg) (s : State) : getReg sz r s = .ok (s.reg sz r) s := rfl
@[simp] theorem putReg_apply (sz : Size) (r : Reg) (v : BitVec sz.bits) (s : State) :
    putReg sz r v s = .ok () (s.setReg sz r v) := rfl
@[simp] theorem putSeg_apply (r : SReg) (v : SegReg) (s : State) :
    putSeg r v s = .ok () { s with seg := s.seg.set r v } := rfl
@[simp] theorem putStatus_apply (st : Status) (s : State) : putStatus st s = .ok () (s.withStatus st) := rfl
@[simp] theorem loadLoc_apply (w : Nat) (l : Loc) (s : State) : loadLoc w l s = .ok (s.load w l) s := rfl
@[simp] theorem storeLoc_apply {w : Nat} (l : Loc) (v : BitVec w) (s : State) : storeLoc l v s = .ok () (s.store l v) := rfl

/-- A sequence whose first part answers goes on with its answer. -/
theorem bind_of_ok {α β : Type} {x : M α} {f : α → M β} {s s1 : State} {a : α} (h : x s = .ok a s1) : (x >>= f) s = f a s1 := by
  show EStateM.bind x f s = _
  simp [EStateM.bind, h]

/-- A sequence whose first part stops, stops there. -/
theorem bind_of_error {α β : Type} {x : M α} {f : α → M β} {s s1 : State} {e : Halt} (h : x s = .error e s1) :
    (x >>= f) s = .error e s1 := by
  show EStateM.bind x f s = _
  simp [EStateM.bind, h]

/-- What a sequence answers, by what its first part answers. -/
theorem bind_apply {α β : Type} (x : M α) (f : α → M β) (s : State) :
    (x >>= f) s = match x s with
      | .ok a s1 => f a s1
      | .error e s1 => .error e s1 := by
  show EStateM.bind x f s = _
  unfold EStateM.bind
  cases x s <;> rfl

/-- A choice between computations is a choice between what they answer. -/
theorem if_apply {α : Type} (c : Prop) [Decidable c] (x y : M α) (s : State) :
    (if c then x else y : M α) s = if c then x s else y s := by
  split <;> rfl

/-- `require` goes on exactly when its condition holds. -/
theorem require_apply (c : Bool) (v : BitVec 8) (e : ErrCode) (s : State) :
    require c v e s = if c then .ok () s else .error (.exc ⟨v, e⟩) s := by
  unfold require
  cases c <;> rfl

/-! ## What every outcome of a computation keeps

`Within R x` says that `x`, from any state, ends in a state that `R` relates to where it began, whether it answers or
stops. With `R` reflexive and transitive it is closed under sequencing, so a frame or an invariant of a shared operation
follows from its parts: for an invariant `I` take `R s t := I s → I t`. -/

/-- Every outcome of a computation is related to its start. -/
def Within (R : State → State → Prop) {α : Type} (x : M α) : Prop :=
  ∀ s, match x s with
    | .ok _ t => R s t
    | .error _ t => R s t

theorem within_pure {R : State → State → Prop} (h : ∀ s, R s s) {α : Type} (a : α) : Within R (pure a : M α) := fun s => h s
theorem within_getS {R : State → State → Prop} (h : ∀ s, R s s) : Within R getS := fun s => h s
theorem within_halt {R : State → State → Prop} (h : ∀ s, R s s) {α : Type} (e : Halt) : Within R (halt e : M α) := fun s => h s
theorem within_raise {R : State → State → Prop} (h : ∀ s, R s s) {α : Type} (v : BitVec 8) (e : ErrCode) :
    Within R (raise v e : M α) := fun s => h s
theorem within_modS {R : State → State → Prop} {f : State → State} (h : ∀ s, R s (f s)) : Within R (modS f) := fun s => h s

theorem within_bind {R : State → State → Prop} (ht : ∀ s t u, R s t → R t u → R s u) {α β : Type} {x : M α} {f : α → M β}
    (hx : Within R x) (hf : ∀ a, Within R (f a)) : Within R (x >>= f) := by
  intro s
  rw [bind_apply]
  have := hx s
  cases h : x s with
  | ok a t =>
    rw [h] at this
    dsimp only
    have k := hf a t
    cases h' : f a t with
    | ok _ u => rw [h'] at k; exact ht _ _ _ this k
    | error _ u => rw [h'] at k; exact ht _ _ _ this k
  | error e t => rw [h] at this; exact this

theorem within_if {R : State → State → Prop} {α : Type} {c : Prop} [Decidable c] {x y : M α} (hx : Within R x)
    (hy : Within R y) : Within R (if c then x else y) := by
  split
  · exact hx
  · exact hy

theorem within_require {R : State → State → Prop} (h : ∀ s, R s s) (c : Bool) (v : BitVec 8) (e : ErrCode) :
    Within R (require c v e) := within_if (within_pure h _) (within_raise h _ _)

theorem Within.ok {R : State → State → Prop} {α : Type} {x : M α} (h : Within R x) {s t : State} {a : α}
    (hx : x s = .ok a t) : R s t := by
  have := h s
  rw [hx] at this
  exact this

theorem Within.error {R : State → State → Prop} {α : Type} {x : M α} (h : Within R x) {s t : State} {e : Halt}
    (hx : x s = .error e t) : R s t := by
  have := h s
  rw [hx] at this
  exact this

end Sys2Proof.Machine
end

