-- ==== Sys2Proof/Laws/Ops.lean ====
section
/-! SUPPORT. Laws of the operations around an instruction: completion always answers, and what `run` and its kin answer. -/
namespace Sys2Proof.Machine

/-- Reporting breakpoints always answers, and changes the debug state and the draw counter at most. -/
theorem reportBreakpoints_ok (s : State) : ∃ d n, reportBreakpoints s = .ok () { s with dbg := d, draws := n } := by
  unfold reportBreakpoints
  rw [bind_of_ok (getS_apply s), if_apply]
  split
  · rw [if_apply]
    split
    · exact ⟨_, _, rfl⟩
    · rw [bind_of_ok (drawBool_apply _), bind_of_ok (drawBool_apply _), if_apply]
      split
      · exact ⟨_, _, rfl⟩
      · rw [if_apply]
        split
        · exact ⟨_, _, rfl⟩
        · exact ⟨_, _, rfl⟩
  · exact ⟨_, _, rfl⟩

/-- Completion always answers, with the state `finished` names. -/
theorem complete_ok (d : Done) (s : State) : complete d s = .ok () (s.finished d) := by
  have h : ∃ t, complete d s = .ok () t := by
    unfold complete
    rw [bind_of_ok (modS_apply _ _)]
    obtain ⟨x, n, hx⟩ := reportBreakpoints_ok { s with dbg := { s.dbg with pending := s.dbg.pending.union s.dbg.late, late := Hits.none } }
    rw [bind_of_ok hx]
    exact ⟨_, rfl⟩
  obtain ⟨t, ht⟩ := h
  simp [State.finished, ht]

/-- What completion leaves: everything but EIP, RF, the shadows, the prefix state, the debug state and the draw counter is as it
was. -/
theorem finished_frame (s : State) (d : Done) :
    ∃ dbg n, s.finished d =
      { s with eip := s.eipNext, pfx := Prefixes.empty, flags := { s.flags with RF := s.flags.RF && d.keepsRF },
               ssShadow := if d.completes then d == .opensSs else s.ssShadow,
               stiShadow := if d.completes then d == .opensSti else s.stiShadow, dbg := dbg, draws := n } := by
  have h := complete_ok d s
  unfold complete at h
  rw [bind_of_ok (modS_apply _ _)] at h
  obtain ⟨x, n, hx⟩ := reportBreakpoints_ok { s with dbg := { s.dbg with pending := s.dbg.pending.union s.dbg.late, late := Hits.none } }
  rw [bind_of_ok hx] at h
  injection h with _ h
  rw [← h]
  exact ⟨_, _, rfl⟩

/-- An instruction whose LOCK check passes and whose body answers is complete. -/
theorem runInstr_of_ok {lockable : Bool} {body : M Done} {s s1 : State} {d : Done} (hl : s.pfx.lock = false ∨ lockable = true)
    (h : body s = .ok d s1) : runInstr lockable body s = .next (s1.finished d) := by
  have hc : (s.pfx.lock && !lockable) = false := by
    rcases hl with hl | hl <;> simp [hl]
  have hb : ∀ x y : M Unit, (if (s.pfx.lock && !lockable) = true then x else y) s = y s := by
    intro x y
    rw [if_apply, hc]
    rfl
  unfold runInstr
  rw [hb]
  change outcomeOf s ((body >>= fun d => complete d) s) = _
  rw [bind_of_ok h, complete_ok]
  rfl

/-- An instruction whose LOCK check passes and whose body stops has that stop as its outcome. -/
theorem runInstr_of_error {lockable : Bool} {body : M Done} {s s1 : State} {e : Halt}
    (hl : s.pfx.lock = false ∨ lockable = true) (h : body s = .error e s1) :
    runInstr lockable body s = outcomeOf s (.error e s1) := by
  have hc : (s.pfx.lock && !lockable) = false := by
    rcases hl with hl | hl <;> simp [hl]
  have hb : ∀ x y : M Unit, (if (s.pfx.lock && !lockable) = true then x else y) s = y s := by
    intro x y
    rw [if_apply, hc]
    rfl
  unfold runInstr
  rw [hb]
  change outcomeOf s ((body >>= fun d => complete d) s) = _
  rw [bind_of_error h]

/-- LOCK before an instruction it may not precede is #UD (30_encoding.md R224). -/
theorem runInstr_locked {body : M Done} {s : State} (hl : s.pfx.lock = true) :
    runInstr false body s = s.takes s vUD .none := by
  unfold runInstr
  rw [if_apply, hl]
  rfl

theorem runNormal_of_ok {lockable : Bool} {body : M Unit} {s s1 : State} (hl : s.pfx.lock = false ∨ lockable = true)
    (h : body s = .ok () s1) : runNormal lockable body s = .next (s1.finished .normal) :=
  runInstr_of_ok hl (by rw [bind_of_ok h]; rfl)

theorem runNormal_of_error {lockable : Bool} {body : M Unit} {s s1 : State} {e : Halt}
    (hl : s.pfx.lock = false ∨ lockable = true) (h : body s = .error e s1) :
    runNormal lockable body s = outcomeOf s (.error e s1) :=
  runInstr_of_error hl (bind_of_error h)

theorem run_of_ok {body : M Unit} {s s1 : State} (hl : s.pfx.lock = false) (h : body s = .ok () s1) :
    run body s = .next (s1.finished .normal) := runNormal_of_ok (.inl hl) h

theorem run_of_error {body : M Unit} {s s1 : State} {e : Halt} (hl : s.pfx.lock = false) (h : body s = .error e s1) :
    run body s = outcomeOf s (.error e s1) := runNormal_of_error (.inl hl) h

/-- An exception a body raises is taken with `EIP_start` saved (60_exceptions.md R581). -/
theorem outcomeOf_exc (s s1 : State) (v : BitVec 8) (e : ErrCode) :
    outcomeOf s (.error (.exc ⟨v, e⟩) s1) = s.takes s1 v e := rfl

end Sys2Proof.Machine
end

