-- ==== Sys2Proof/Laws/Access.lean ====
section
/-! SUPPORT. Laws of operand access: what locating an operand can change, and what it answers with paging and breakpoints off. -/
namespace Sys2Proof.Machine

/-- All that locating an operand changes: memory (accessed and dirty bits), the TLB, the draw counter, the set of matched
breakpoints, CR2, and the outputs LOCK# and, where paging entries lie in a device, its bytes. -/
def Touched (s t : State) : Prop :=
  ∃ m b n h c o k, t = { s with mem := m, tlb := b, draws := n, dbg := { s.dbg with matched := h }, cr2 := c, busOut := o, lockOut := k }

theorem Touched.refl (s : State) : Touched s s := ⟨_, _, _, _, _, _, _, rfl⟩

theorem Touched.trans {s t u : State} (h : Touched s t) (k : Touched t u) : Touched s u := by
  obtain ⟨m, b, n, h, c, o, l, rfl⟩ := h
  obtain ⟨m', b', n', h', c', o', l', rfl⟩ := k
  exact ⟨m', b', n', h', c', o', l', rfl⟩

/-- A computation that only touches, whether it answers or stops. -/
abbrev Touches {α : Type} (x : M α) : Prop := Within Touched x

theorem touches_bind {α β : Type} {x : M α} {f : α → M β} (hx : Touches x) (hf : ∀ a, Touches (f a)) : Touches (x >>= f) :=
  within_bind (R := Touched) (fun _ _ _ h k => h.trans k) hx hf
theorem touches_pure {α : Type} (a : α) : Touches (pure a : M α) := within_pure Touched.refl a
theorem touches_getS : Touches getS := within_getS Touched.refl
theorem touches_raise {α : Type} (v : BitVec 8) (e : ErrCode) : Touches (raise v e : M α) := within_raise Touched.refl v e
theorem touches_draw (w : Nat) : Touches (draw w) := fun _ => ⟨_, _, _, _, _, _, _, rfl⟩
theorem touches_drawBool : Touches drawBool := fun _ => ⟨_, _, _, _, _, _, _, rfl⟩
theorem touches_modS {f : State → State} (h : ∀ s, Touched s (f s)) : Touches (modS f) := within_modS h
theorem touches_if {α : Type} {c : Prop} [Decidable c] {x y : M α} (hx : Touches x) (hy : Touches y) :
    Touches (if c then x else y) := within_if hx hy

theorem touches_pageFault {α : Type} (la : BitVec 32) (p w u : Bool) : Touches (pageFault la p w u : M α) :=
  touches_bind (touches_modS fun _ => ⟨_, _, _, _, _, _, _, rfl⟩) fun _ => touches_raise _ _

theorem touches_updateEntry (pa a b : BitVec 32) : Touches (updateEntry pa a b) :=
  touches_if (touches_pure _) (touches_modS fun _ => ⟨_, _, _, _, _, _, _, rfl⟩)

theorem touches_tlbFill (e : TlbEntry) : Touches (tlbFill e) := by
  refine touches_bind touches_getS fun _ => touches_if (touches_bind touches_drawBool fun _ => touches_if
    (touches_bind (touches_draw _) fun _ => touches_modS fun _ => ⟨_, _, _, _, _, _, _, rfl⟩) (touches_pure _)) (touches_pure _)

theorem touched_settled (s : State) (l : Loc) : Touched s (s.settled l) := by
  unfold State.settled
  split
  · exact Touched.refl s
  · exact ⟨_, _, _, _, _, _, _, rfl⟩

theorem touched_locking (s : State) (w : Bool) (l : Loc) : Touched s (s.locking w l) := by
  unfold State.locking
  split
  · exact ⟨_, _, _, _, _, _, _, rfl⟩
  · exact Touched.refl s

theorem touches_readEntry (pa : BitVec 32) : Touches (readEntry pa) :=
  touches_bind (touches_modS fun s => touched_settled s _) fun _ => touches_bind touches_getS fun _ => touches_pure _

theorem touches_walk (la : BitVec 32) (w u : Bool) : Touches (walk la w u) := by
  refine touches_bind touches_getS fun _ => touches_bind (touches_readEntry _) fun _ => touches_if (touches_pageFault _ _ _ _)
    (touches_bind (touches_readEntry _) fun _ => touches_if (touches_pageFault _ _ _ _)
    (touches_if (touches_pageFault _ _ _ _) (touches_bind (touches_updateEntry _ _ _) fun _ => touches_bind touches_getS fun _ =>
      touches_bind (touches_updateEntry _ _ _) fun _ => touches_bind (touches_tlbFill _) fun _ => touches_pure _)))

theorem touches_frameOf (la : BitVec 32) (w u : Bool) : Touches (frameOf la w u) := by
  refine touches_bind touches_getS fun s => ?_
  split
  · exact touches_walk _ _ _
  · exact touches_bind touches_drawBool fun _ => touches_if (touches_if (touches_pure _) (touches_pageFault _ _ _ _)) (touches_walk _ _ _)
  · exact touches_draw _

theorem touches_translate (la : BitVec 32) (w u : Bool) : Touches (translate la w u) :=
  touches_bind touches_getS fun _ => touches_if (touches_bind (touches_frameOf _ _ _) fun _ => touches_pure _) (touches_pure _)

theorem touches_physBytes (la : BitVec 32) (n : Nat) (w u : Bool) : Touches (physBytes la n w u) :=
  touches_bind touches_getS fun _ => touches_if (touches_bind (touches_translate _ _ _) fun _ => touches_if (touches_pure _)
    (touches_bind (touches_translate _ _ _) fun _ => touches_pure _)) (touches_pure _)

theorem touches_resolve (la : BitVec 32) (n : Nat) (w u : Bool) : Touches (resolve la n w u) :=
  touches_bind (touches_physBytes _ _ _ _) fun _ => touches_bind (touches_modS fun s => touched_settled s _) fun _ => touches_pure _

theorem touches_noteOne (la : BitVec 32) (n : Nat) (w : Bool) (k : Fin 4) : Touches (noteOne la n w k) := by
  have hm : ∀ b : Bool, Touches (if b then modS fun s => { s with dbg := { s.dbg with matched := s.dbg.matched.add k } } else pure ()) :=
    fun _ => touches_if (touches_modS fun _ => ⟨_, _, _, _, _, _, _, rfl⟩) (touches_pure _)
  refine touches_bind touches_getS fun _ => touches_if ?_ (touches_bind (touches_pure _) hm)
  exact touches_bind (touches_if touches_drawBool (touches_pure _)) hm

theorem touches_noteAccess (la : BitVec 32) (n : Nat) (w : Bool) : Touches (noteAccess la n w) :=
  touches_bind touches_getS fun _ => touches_if (touches_bind (touches_noteOne _ _ _ _) fun _ => touches_bind (touches_noteOne _ _ _ _)
    fun _ => touches_bind (touches_noteOne _ _ _ _) fun _ => touches_noteOne _ _ _ _) (touches_pure _)

/-- In real-address mode an access passes when it is in the limit and the attributes that protected mode left permit it
(21_protection.md R187; 70_reset_and_hazards.md R709, R713). -/
theorem segOk_real {s : State} (h : s.protectedMode = false) (r : SReg) (off : BitVec 32) (n : Nat) (k : AccessKind) :
    s.segOk r off n k = ((s.seg.get r).permitsReal r k && (s.seg.get r).inLimit off n) := by simp [State.segOk, State.typeOk, h]

/-- A segment register whose hidden part is writable data, as reset and real-address-mode loads leave it, passes no type check in
real-address mode: the limit is the only check on an access (40_data_movement.md R260). -/
theorem permitsReal_of_writable {g : SegReg} (h : g.permits .write = true) (r : SReg) (k : AccessKind) : g.permitsReal r k = true := by
  cases k <;> simp [SegReg.permitsReal, h]

/-- CS counts as writable data in real-address mode (70_reset_and_hazards.md R709). -/
@[simp] theorem permitsReal_cs (g : SegReg) (k : AccessKind) : g.permitsReal .cs k = true := by cases k <;> rfl

/-- A real-address-mode load leaves the attributes that govern accesses as they were (70_reset_and_hazards.md R704, R713). -/
@[simp] theorem permitsReal_realLoad (g : SegReg) (sel : BitVec 16) (r : SReg) (k : AccessKind) :
    (g.realLoad sel).permitsReal r k = g.permitsReal r k := by cases k <;> rfl

/-- Every segment register permits writes after reset (10_state.md R94; 70_reset_and_hazards.md R704). -/
theorem reset_permits_writes (r : SReg) : (State.reset.seg.get r).permits .write = true := by cases r <;> rfl

theorem touches_segFault {α : Type} (r : SReg) : Touches (segFault r : M α) := touches_if (touches_raise _ _) (touches_raise _ _)

/-- Locating an operand only touches. -/
theorem touches_locate (r : SReg) (off : BitVec 32) (n : Nat) (w : Bool) : Touches (locate r off n w) :=
  touches_bind touches_getS fun _ => touches_if (touches_bind (touches_noteAccess _ _ _) fun _ =>
    touches_bind (touches_resolve _ _ _ _) fun _ => touches_bind (touches_modS fun s => touched_locking s _ _) fun _ => touches_pure _)
    (touches_segFault _)

/-- Locating a register or memory operand only touches. -/
theorem touches_place (sz : Size) (rm : Rm) (w : Bool) : Touches (place sz rm w) := by
  cases rm with
  | reg r => exact touches_pure _
  | mem m => exact touches_bind touches_getS fun _ => touches_bind (touches_locate _ _ _ _) fun _ => touches_pure _

/-- With paging off, linear bytes are physical bytes (20_memory.md R131). -/
theorem resolve_direct {s : State} (hp : s.cr0.PG = false) (la : BitVec 32) (n : Nat) (w u : Bool) :
    resolve la n w u s = .ok (Loc.from la n) (s.settled (Loc.from la n)) := by
  have h : physBytes la n w u s = .ok (Loc.from la n) s := by
    unfold physBytes
    rw [bind_of_ok (getS_apply s), if_apply, hp]
    rfl
  unfold resolve
  rw [bind_of_ok h, bind_of_ok (modS_apply _ _)]
  rfl

/-- With paging off and no condition watching data, an access that passes its segment checks is located at consecutive bytes
from the segment's base plus the offset (20_memory.md R120, R131). -/
theorem locate_direct {s : State} {r : SReg} {off : BitVec 32} {n : Nat} {w : Bool} (hp : s.cr0.PG = false)
    (hb : s.dbg.anyWatch = false) (h : s.segOk r off n (if w then .write else .read) = true) :
    let l := Loc.from ((s.seg.get r).base + off) n
    locate r off n w s = .ok l ((s.settled l).locking w l) := by
  intro l
  unfold locate
  rw [bind_of_ok (getS_apply s), if_apply, if_pos h]
  have hn : noteAccess ((s.seg.get r).base + off) n w s = .ok () s := by
    unfold noteAccess
    rw [bind_of_ok (getS_apply s), if_apply, hb]
    rfl
  rw [bind_of_ok hn, bind_of_ok (resolve_direct hp _ _ _ _), bind_of_ok (modS_apply _ _)]
  rfl

/-- In a plain state locating changes nothing. -/
theorem locate_plain {s : State} {r : SReg} {off : BitVec 32} {n : Nat} {w : Bool} (hp : s.plain = true)
    (h : s.segOk r off n (if w then .write else .read) = true) :
    locate r off n w s = .ok (Loc.from ((s.seg.get r).base + off) n) s := by
  simp only [State.plain, State.direct, Bool.and_eq_true, Bool.not_eq_true', List.isEmpty_iff] at hp
  obtain ⟨⟨⟨hg, hb⟩, hm⟩, hl⟩ := hp
  rw [locate_direct hg hb h, State.settled_of_holds (State.holdsAll_of_empty hm _)]
  simp [State.locking, hl]

/-- An access that fails its segment checks raises the segment's exception and changes nothing (21_protection.md R170). -/
theorem locate_bad {s : State} {r : SReg} {off : BitVec 32} {n : Nat} {w : Bool}
    (h : s.segOk r off n (if w then .write else .read) = false) :
    locate r off n w s = .error (.exc ⟨if r = .ss then vSS else vGP, zeroCode false⟩) s := by
  unfold locate
  rw [bind_of_ok (getS_apply s), if_apply, h]
  show segFault r s = _
  unfold segFault
  rw [if_apply]
  cases r <;> rfl

end Sys2Proof.Machine
end

