-- ==== Sys2Proof/Laws/State.lean ====
section
/-! SUPPORT. One lemma per field and update of the state, so that no proof unfolds an update. -/
namespace Sys2Proof.Machine

/-! ### `setReg` -/
@[simp] theorem State.setReg_gpr (s : State) (sz : Size) (r : Reg) (v : BitVec sz.bits) : (s.setReg sz r v).gpr = s.gpr.write sz r v := rfl
@[simp] theorem State.setReg_seg (s : State) (sz : Size) (r : Reg) (v : BitVec sz.bits) : (s.setReg sz r v).seg = s.seg := rfl
@[simp] theorem State.setReg_eip (s : State) (sz : Size) (r : Reg) (v : BitVec sz.bits) : (s.setReg sz r v).eip = s.eip := rfl
@[simp] theorem State.setReg_eipNext (s : State) (sz : Size) (r : Reg) (v : BitVec sz.bits) : (s.setReg sz r v).eipNext = s.eipNext := rfl
@[simp] theorem State.setReg_flags (s : State) (sz : Size) (r : Reg) (v : BitVec sz.bits) : (s.setReg sz r v).flags = s.flags := rfl
@[simp] theorem State.setReg_cpl (s : State) (sz : Size) (r : Reg) (v : BitVec sz.bits) : (s.setReg sz r v).cpl = s.cpl := rfl
@[simp] theorem State.setReg_gdtr (s : State) (sz : Size) (r : Reg) (v : BitVec sz.bits) : (s.setReg sz r v).gdtr = s.gdtr := rfl
@[simp] theorem State.setReg_idtr (s : State) (sz : Size) (r : Reg) (v : BitVec sz.bits) : (s.setReg sz r v).idtr = s.idtr := rfl
@[simp] theorem State.setReg_ldtr (s : State) (sz : Size) (r : Reg) (v : BitVec sz.bits) : (s.setReg sz r v).ldtr = s.ldtr := rfl
@[simp] theorem State.setReg_tr (s : State) (sz : Size) (r : Reg) (v : BitVec sz.bits) : (s.setReg sz r v).tr = s.tr := rfl
@[simp] theorem State.setReg_cr0 (s : State) (sz : Size) (r : Reg) (v : BitVec sz.bits) : (s.setReg sz r v).cr0 = s.cr0 := rfl
@[simp] theorem State.setReg_cr2 (s : State) (sz : Size) (r : Reg) (v : BitVec sz.bits) : (s.setReg sz r v).cr2 = s.cr2 := rfl
@[simp] theorem State.setReg_cr3 (s : State) (sz : Size) (r : Reg) (v : BitVec sz.bits) : (s.setReg sz r v).cr3 = s.cr3 := rfl
@[simp] theorem State.setReg_dbg (s : State) (sz : Size) (r : Reg) (v : BitVec sz.bits) : (s.setReg sz r v).dbg = s.dbg := rfl
@[simp] theorem State.setReg_tr6 (s : State) (sz : Size) (r : Reg) (v : BitVec sz.bits) : (s.setReg sz r v).tr6 = s.tr6 := rfl
@[simp] theorem State.setReg_tr7 (s : State) (sz : Size) (r : Reg) (v : BitVec sz.bits) : (s.setReg sz r v).tr7 = s.tr7 := rfl
@[simp] theorem State.setReg_tlb (s : State) (sz : Size) (r : Reg) (v : BitVec sz.bits) : (s.setReg sz r v).tlb = s.tlb := rfl
@[simp] theorem State.setReg_pastEnd (s : State) (sz : Size) (r : Reg) (v : BitVec sz.bits) : (s.setReg sz r v).pastEnd = s.pastEnd := rfl
@[simp] theorem State.setReg_queue (s : State) (sz : Size) (r : Reg) (v : BitVec sz.bits) : (s.setReg sz r v).queue = s.queue := rfl
@[simp] theorem State.setReg_fetched (s : State) (sz : Size) (r : Reg) (v : BitVec sz.bits) : (s.setReg sz r v).fetched = s.fetched := rfl
@[simp] theorem State.setReg_nmiInService (s : State) (sz : Size) (r : Reg) (v : BitVec sz.bits) : (s.setReg sz r v).nmiInService = s.nmiInService := rfl
@[simp] theorem State.setReg_nmiPending (s : State) (sz : Size) (r : Reg) (v : BitVec sz.bits) : (s.setReg sz r v).nmiPending = s.nmiPending := rfl
@[simp] theorem State.setReg_ssShadow (s : State) (sz : Size) (r : Reg) (v : BitVec sz.bits) : (s.setReg sz r v).ssShadow = s.ssShadow := rfl
@[simp] theorem State.setReg_stiShadow (s : State) (sz : Size) (r : Reg) (v : BitVec sz.bits) : (s.setReg sz r v).stiShadow = s.stiShadow := rfl
@[simp] theorem State.setReg_run (s : State) (sz : Size) (r : Reg) (v : BitVec sz.bits) : (s.setReg sz r v).run = s.run := rfl
@[simp] theorem State.setReg_a31High (s : State) (sz : Size) (r : Reg) (v : BitVec sz.bits) : (s.setReg sz r v).a31High = s.a31High := rfl
@[simp] theorem State.setReg_pfx (s : State) (sz : Size) (r : Reg) (v : BitVec sz.bits) : (s.setReg sz r v).pfx = s.pfx := rfl
@[simp] theorem State.setReg_pendingExc (s : State) (sz : Size) (r : Reg) (v : BitVec sz.bits) : (s.setReg sz r v).pendingExc = s.pendingExc := rfl
@[simp] theorem State.setReg_pins (s : State) (sz : Size) (r : Reg) (v : BitVec sz.bits) : (s.setReg sz r v).pins = s.pins := rfl
@[simp] theorem State.setReg_plat (s : State) (sz : Size) (r : Reg) (v : BitVec sz.bits) : (s.setReg sz r v).plat = s.plat := rfl
@[simp] theorem State.setReg_draws (s : State) (sz : Size) (r : Reg) (v : BitVec sz.bits) : (s.setReg sz r v).draws = s.draws := rfl
@[simp] theorem State.setReg_ioOut (s : State) (sz : Size) (r : Reg) (v : BitVec sz.bits) : (s.setReg sz r v).ioOut = s.ioOut := rfl
@[simp] theorem State.setReg_copOut (s : State) (sz : Size) (r : Reg) (v : BitVec sz.bits) : (s.setReg sz r v).copOut = s.copOut := rfl
@[simp] theorem State.setReg_busOut (s : State) (sz : Size) (r : Reg) (v : BitVec sz.bits) : (s.setReg sz r v).busOut = s.busOut := rfl
@[simp] theorem State.setReg_lockOut (s : State) (sz : Size) (r : Reg) (v : BitVec sz.bits) : (s.setReg sz r v).lockOut = s.lockOut := rfl
@[simp] theorem State.setReg_mem (s : State) (sz : Size) (r : Reg) (v : BitVec sz.bits) : (s.setReg sz r v).mem = s.mem := rfl

/-! ### `setStackPtr` -/
@[simp] theorem State.setStackPtr_seg (s : State) (v : BitVec 32) : (s.setStackPtr v).seg = s.seg := rfl
@[simp] theorem State.setStackPtr_eip (s : State) (v : BitVec 32) : (s.setStackPtr v).eip = s.eip := rfl
@[simp] theorem State.setStackPtr_eipNext (s : State) (v : BitVec 32) : (s.setStackPtr v).eipNext = s.eipNext := rfl
@[simp] theorem State.setStackPtr_flags (s : State) (v : BitVec 32) : (s.setStackPtr v).flags = s.flags := rfl
@[simp] theorem State.setStackPtr_cpl (s : State) (v : BitVec 32) : (s.setStackPtr v).cpl = s.cpl := rfl
@[simp] theorem State.setStackPtr_gdtr (s : State) (v : BitVec 32) : (s.setStackPtr v).gdtr = s.gdtr := rfl
@[simp] theorem State.setStackPtr_idtr (s : State) (v : BitVec 32) : (s.setStackPtr v).idtr = s.idtr := rfl
@[simp] theorem State.setStackPtr_ldtr (s : State) (v : BitVec 32) : (s.setStackPtr v).ldtr = s.ldtr := rfl
@[simp] theorem State.setStackPtr_tr (s : State) (v : BitVec 32) : (s.setStackPtr v).tr = s.tr := rfl
@[simp] theorem State.setStackPtr_cr0 (s : State) (v : BitVec 32) : (s.setStackPtr v).cr0 = s.cr0 := rfl
@[simp] theorem State.setStackPtr_cr2 (s : State) (v : BitVec 32) : (s.setStackPtr v).cr2 = s.cr2 := rfl
@[simp] theorem State.setStackPtr_cr3 (s : State) (v : BitVec 32) : (s.setStackPtr v).cr3 = s.cr3 := rfl
@[simp] theorem State.setStackPtr_dbg (s : State) (v : BitVec 32) : (s.setStackPtr v).dbg = s.dbg := rfl
@[simp] theorem State.setStackPtr_tr6 (s : State) (v : BitVec 32) : (s.setStackPtr v).tr6 = s.tr6 := rfl
@[simp] theorem State.setStackPtr_tr7 (s : State) (v : BitVec 32) : (s.setStackPtr v).tr7 = s.tr7 := rfl
@[simp] theorem State.setStackPtr_tlb (s : State) (v : BitVec 32) : (s.setStackPtr v).tlb = s.tlb := rfl
@[simp] theorem State.setStackPtr_pastEnd (s : State) (v : BitVec 32) : (s.setStackPtr v).pastEnd = s.pastEnd := rfl
@[simp] theorem State.setStackPtr_queue (s : State) (v : BitVec 32) : (s.setStackPtr v).queue = s.queue := rfl
@[simp] theorem State.setStackPtr_fetched (s : State) (v : BitVec 32) : (s.setStackPtr v).fetched = s.fetched := rfl
@[simp] theorem State.setStackPtr_nmiInService (s : State) (v : BitVec 32) : (s.setStackPtr v).nmiInService = s.nmiInService := rfl
@[simp] theorem State.setStackPtr_nmiPending (s : State) (v : BitVec 32) : (s.setStackPtr v).nmiPending = s.nmiPending := rfl
@[simp] theorem State.setStackPtr_ssShadow (s : State) (v : BitVec 32) : (s.setStackPtr v).ssShadow = s.ssShadow := rfl
@[simp] theorem State.setStackPtr_stiShadow (s : State) (v : BitVec 32) : (s.setStackPtr v).stiShadow = s.stiShadow := rfl
@[simp] theorem State.setStackPtr_run (s : State) (v : BitVec 32) : (s.setStackPtr v).run = s.run := rfl
@[simp] theorem State.setStackPtr_a31High (s : State) (v : BitVec 32) : (s.setStackPtr v).a31High = s.a31High := rfl
@[simp] theorem State.setStackPtr_pfx (s : State) (v : BitVec 32) : (s.setStackPtr v).pfx = s.pfx := rfl
@[simp] theorem State.setStackPtr_pendingExc (s : State) (v : BitVec 32) : (s.setStackPtr v).pendingExc = s.pendingExc := rfl
@[simp] theorem State.setStackPtr_pins (s : State) (v : BitVec 32) : (s.setStackPtr v).pins = s.pins := rfl
@[simp] theorem State.setStackPtr_plat (s : State) (v : BitVec 32) : (s.setStackPtr v).plat = s.plat := rfl
@[simp] theorem State.setStackPtr_draws (s : State) (v : BitVec 32) : (s.setStackPtr v).draws = s.draws := rfl
@[simp] theorem State.setStackPtr_ioOut (s : State) (v : BitVec 32) : (s.setStackPtr v).ioOut = s.ioOut := rfl
@[simp] theorem State.setStackPtr_copOut (s : State) (v : BitVec 32) : (s.setStackPtr v).copOut = s.copOut := rfl
@[simp] theorem State.setStackPtr_busOut (s : State) (v : BitVec 32) : (s.setStackPtr v).busOut = s.busOut := rfl
@[simp] theorem State.setStackPtr_lockOut (s : State) (v : BitVec 32) : (s.setStackPtr v).lockOut = s.lockOut := rfl
@[simp] theorem State.setStackPtr_mem (s : State) (v : BitVec 32) : (s.setStackPtr v).mem = s.mem := rfl

/-! ### `jump` -/
@[simp] theorem State.jump_gpr (s : State) (t : BitVec 32) : (s.jump t).gpr = s.gpr := rfl
@[simp] theorem State.jump_seg (s : State) (t : BitVec 32) : (s.jump t).seg = s.seg := rfl
@[simp] theorem State.jump_eip (s : State) (t : BitVec 32) : (s.jump t).eip = s.eip := rfl
@[simp] theorem State.jump_eipNext (s : State) (t : BitVec 32) : (s.jump t).eipNext = t := rfl
@[simp] theorem State.jump_flags (s : State) (t : BitVec 32) : (s.jump t).flags = s.flags := rfl
@[simp] theorem State.jump_cpl (s : State) (t : BitVec 32) : (s.jump t).cpl = s.cpl := rfl
@[simp] theorem State.jump_gdtr (s : State) (t : BitVec 32) : (s.jump t).gdtr = s.gdtr := rfl
@[simp] theorem State.jump_idtr (s : State) (t : BitVec 32) : (s.jump t).idtr = s.idtr := rfl
@[simp] theorem State.jump_ldtr (s : State) (t : BitVec 32) : (s.jump t).ldtr = s.ldtr := rfl
@[simp] theorem State.jump_tr (s : State) (t : BitVec 32) : (s.jump t).tr = s.tr := rfl
@[simp] theorem State.jump_cr0 (s : State) (t : BitVec 32) : (s.jump t).cr0 = s.cr0 := rfl
@[simp] theorem State.jump_cr2 (s : State) (t : BitVec 32) : (s.jump t).cr2 = s.cr2 := rfl
@[simp] theorem State.jump_cr3 (s : State) (t : BitVec 32) : (s.jump t).cr3 = s.cr3 := rfl
@[simp] theorem State.jump_dbg (s : State) (t : BitVec 32) : (s.jump t).dbg = s.dbg := rfl
@[simp] theorem State.jump_tr6 (s : State) (t : BitVec 32) : (s.jump t).tr6 = s.tr6 := rfl
@[simp] theorem State.jump_tr7 (s : State) (t : BitVec 32) : (s.jump t).tr7 = s.tr7 := rfl
@[simp] theorem State.jump_tlb (s : State) (t : BitVec 32) : (s.jump t).tlb = s.tlb := rfl
@[simp] theorem State.jump_pastEnd (s : State) (t : BitVec 32) : (s.jump t).pastEnd = false := rfl
@[simp] theorem State.jump_queue (s : State) (t : BitVec 32) : (s.jump t).queue = [] := rfl
@[simp] theorem State.jump_fetched (s : State) (t : BitVec 32) : (s.jump t).fetched = s.fetched := rfl
@[simp] theorem State.jump_nmiInService (s : State) (t : BitVec 32) : (s.jump t).nmiInService = s.nmiInService := rfl
@[simp] theorem State.jump_nmiPending (s : State) (t : BitVec 32) : (s.jump t).nmiPending = s.nmiPending := rfl
@[simp] theorem State.jump_ssShadow (s : State) (t : BitVec 32) : (s.jump t).ssShadow = s.ssShadow := rfl
@[simp] theorem State.jump_stiShadow (s : State) (t : BitVec 32) : (s.jump t).stiShadow = s.stiShadow := rfl
@[simp] theorem State.jump_run (s : State) (t : BitVec 32) : (s.jump t).run = s.run := rfl
@[simp] theorem State.jump_a31High (s : State) (t : BitVec 32) : (s.jump t).a31High = s.a31High := rfl
@[simp] theorem State.jump_pfx (s : State) (t : BitVec 32) : (s.jump t).pfx = s.pfx := rfl
@[simp] theorem State.jump_pendingExc (s : State) (t : BitVec 32) : (s.jump t).pendingExc = s.pendingExc := rfl
@[simp] theorem State.jump_pins (s : State) (t : BitVec 32) : (s.jump t).pins = s.pins := rfl
@[simp] theorem State.jump_plat (s : State) (t : BitVec 32) : (s.jump t).plat = s.plat := rfl
@[simp] theorem State.jump_draws (s : State) (t : BitVec 32) : (s.jump t).draws = s.draws := rfl
@[simp] theorem State.jump_ioOut (s : State) (t : BitVec 32) : (s.jump t).ioOut = s.ioOut := rfl
@[simp] theorem State.jump_copOut (s : State) (t : BitVec 32) : (s.jump t).copOut = s.copOut := rfl
@[simp] theorem State.jump_busOut (s : State) (t : BitVec 32) : (s.jump t).busOut = s.busOut := rfl
@[simp] theorem State.jump_lockOut (s : State) (t : BitVec 32) : (s.jump t).lockOut = s.lockOut := rfl
@[simp] theorem State.jump_mem (s : State) (t : BitVec 32) : (s.jump t).mem = s.mem := rfl

/-! ### `store` -/
@[simp] theorem State.store_gpr (s : State) (w : Nat) (l : Loc) (v : BitVec w) : (s.store l v).gpr = s.gpr := rfl
@[simp] theorem State.store_seg (s : State) (w : Nat) (l : Loc) (v : BitVec w) : (s.store l v).seg = s.seg := rfl
@[simp] theorem State.store_eip (s : State) (w : Nat) (l : Loc) (v : BitVec w) : (s.store l v).eip = s.eip := rfl
@[simp] theorem State.store_eipNext (s : State) (w : Nat) (l : Loc) (v : BitVec w) : (s.store l v).eipNext = s.eipNext := rfl
@[simp] theorem State.store_flags (s : State) (w : Nat) (l : Loc) (v : BitVec w) : (s.store l v).flags = s.flags := rfl
@[simp] theorem State.store_cpl (s : State) (w : Nat) (l : Loc) (v : BitVec w) : (s.store l v).cpl = s.cpl := rfl
@[simp] theorem State.store_gdtr (s : State) (w : Nat) (l : Loc) (v : BitVec w) : (s.store l v).gdtr = s.gdtr := rfl
@[simp] theorem State.store_idtr (s : State) (w : Nat) (l : Loc) (v : BitVec w) : (s.store l v).idtr = s.idtr := rfl
@[simp] theorem State.store_ldtr (s : State) (w : Nat) (l : Loc) (v : BitVec w) : (s.store l v).ldtr = s.ldtr := rfl
@[simp] theorem State.store_tr (s : State) (w : Nat) (l : Loc) (v : BitVec w) : (s.store l v).tr = s.tr := rfl
@[simp] theorem State.store_cr0 (s : State) (w : Nat) (l : Loc) (v : BitVec w) : (s.store l v).cr0 = s.cr0 := rfl
@[simp] theorem State.store_cr2 (s : State) (w : Nat) (l : Loc) (v : BitVec w) : (s.store l v).cr2 = s.cr2 := rfl
@[simp] theorem State.store_cr3 (s : State) (w : Nat) (l : Loc) (v : BitVec w) : (s.store l v).cr3 = s.cr3 := rfl
@[simp] theorem State.store_dbg (s : State) (w : Nat) (l : Loc) (v : BitVec w) : (s.store l v).dbg = s.dbg := rfl
@[simp] theorem State.store_tr6 (s : State) (w : Nat) (l : Loc) (v : BitVec w) : (s.store l v).tr6 = s.tr6 := rfl
@[simp] theorem State.store_tr7 (s : State) (w : Nat) (l : Loc) (v : BitVec w) : (s.store l v).tr7 = s.tr7 := rfl
@[simp] theorem State.store_tlb (s : State) (w : Nat) (l : Loc) (v : BitVec w) : (s.store l v).tlb = s.tlb := rfl
@[simp] theorem State.store_pastEnd (s : State) (w : Nat) (l : Loc) (v : BitVec w) : (s.store l v).pastEnd = s.pastEnd := rfl
@[simp] theorem State.store_queue (s : State) (w : Nat) (l : Loc) (v : BitVec w) : (s.store l v).queue = s.queue := rfl
@[simp] theorem State.store_fetched (s : State) (w : Nat) (l : Loc) (v : BitVec w) : (s.store l v).fetched = s.fetched := rfl
@[simp] theorem State.store_nmiInService (s : State) (w : Nat) (l : Loc) (v : BitVec w) : (s.store l v).nmiInService = s.nmiInService := rfl
@[simp] theorem State.store_nmiPending (s : State) (w : Nat) (l : Loc) (v : BitVec w) : (s.store l v).nmiPending = s.nmiPending := rfl
@[simp] theorem State.store_ssShadow (s : State) (w : Nat) (l : Loc) (v : BitVec w) : (s.store l v).ssShadow = s.ssShadow := rfl
@[simp] theorem State.store_stiShadow (s : State) (w : Nat) (l : Loc) (v : BitVec w) : (s.store l v).stiShadow = s.stiShadow := rfl
@[simp] theorem State.store_run (s : State) (w : Nat) (l : Loc) (v : BitVec w) : (s.store l v).run = s.run := rfl
@[simp] theorem State.store_a31High (s : State) (w : Nat) (l : Loc) (v : BitVec w) : (s.store l v).a31High = s.a31High := rfl
@[simp] theorem State.store_pfx (s : State) (w : Nat) (l : Loc) (v : BitVec w) : (s.store l v).pfx = s.pfx := rfl
@[simp] theorem State.store_pendingExc (s : State) (w : Nat) (l : Loc) (v : BitVec w) : (s.store l v).pendingExc = s.pendingExc := rfl
@[simp] theorem State.store_pins (s : State) (w : Nat) (l : Loc) (v : BitVec w) : (s.store l v).pins = s.pins := rfl
@[simp] theorem State.store_plat (s : State) (w : Nat) (l : Loc) (v : BitVec w) : (s.store l v).plat = s.plat := rfl
@[simp] theorem State.store_draws (s : State) (w : Nat) (l : Loc) (v : BitVec w) : (s.store l v).draws = s.draws := rfl
@[simp] theorem State.store_ioOut (s : State) (w : Nat) (l : Loc) (v : BitVec w) : (s.store l v).ioOut = s.ioOut := rfl
@[simp] theorem State.store_copOut (s : State) (w : Nat) (l : Loc) (v : BitVec w) : (s.store l v).copOut = s.copOut := rfl
@[simp] theorem State.store_busOut (s : State) (w : Nat) (l : Loc) (v : BitVec w) : (s.store l v).busOut = busWrites s.plat.memMap s.busOut l v.toNat := rfl
@[simp] theorem State.store_lockOut (s : State) (w : Nat) (l : Loc) (v : BitVec w) : (s.store l v).lockOut = s.lockOut := rfl
@[simp] theorem State.store_mem (s : State) (w : Nat) (l : Loc) (v : BitVec w) : (s.store l v).mem = Memory.storeNat s.plat.memMap s.mem l v.toNat := rfl

/-! ### `withStatus` -/
@[simp] theorem State.withStatus_gpr (s : State) (st : Status) : (s.withStatus st).gpr = s.gpr := rfl
@[simp] theorem State.withStatus_seg (s : State) (st : Status) : (s.withStatus st).seg = s.seg := rfl
@[simp] theorem State.withStatus_eip (s : State) (st : Status) : (s.withStatus st).eip = s.eip := rfl
@[simp] theorem State.withStatus_eipNext (s : State) (st : Status) : (s.withStatus st).eipNext = s.eipNext := rfl
@[simp] theorem State.withStatus_flags (s : State) (st : Status) : (s.withStatus st).flags = s.flags.setStatus st := rfl
@[simp] theorem State.withStatus_cpl (s : State) (st : Status) : (s.withStatus st).cpl = s.cpl := rfl
@[simp] theorem State.withStatus_gdtr (s : State) (st : Status) : (s.withStatus st).gdtr = s.gdtr := rfl
@[simp] theorem State.withStatus_idtr (s : State) (st : Status) : (s.withStatus st).idtr = s.idtr := rfl
@[simp] theorem State.withStatus_ldtr (s : State) (st : Status) : (s.withStatus st).ldtr = s.ldtr := rfl
@[simp] theorem State.withStatus_tr (s : State) (st : Status) : (s.withStatus st).tr = s.tr := rfl
@[simp] theorem State.withStatus_cr0 (s : State) (st : Status) : (s.withStatus st).cr0 = s.cr0 := rfl
@[simp] theorem State.withStatus_cr2 (s : State) (st : Status) : (s.withStatus st).cr2 = s.cr2 := rfl
@[simp] theorem State.withStatus_cr3 (s : State) (st : Status) : (s.withStatus st).cr3 = s.cr3 := rfl
@[simp] theorem State.withStatus_dbg (s : State) (st : Status) : (s.withStatus st).dbg = s.dbg := rfl
@[simp] theorem State.withStatus_tr6 (s : State) (st : Status) : (s.withStatus st).tr6 = s.tr6 := rfl
@[simp] theorem State.withStatus_tr7 (s : State) (st : Status) : (s.withStatus st).tr7 = s.tr7 := rfl
@[simp] theorem State.withStatus_tlb (s : State) (st : Status) : (s.withStatus st).tlb = s.tlb := rfl
@[simp] theorem State.withStatus_pastEnd (s : State) (st : Status) : (s.withStatus st).pastEnd = s.pastEnd := rfl
@[simp] theorem State.withStatus_queue (s : State) (st : Status) : (s.withStatus st).queue = s.queue := rfl
@[simp] theorem State.withStatus_fetched (s : State) (st : Status) : (s.withStatus st).fetched = s.fetched := rfl
@[simp] theorem State.withStatus_nmiInService (s : State) (st : Status) : (s.withStatus st).nmiInService = s.nmiInService := rfl
@[simp] theorem State.withStatus_nmiPending (s : State) (st : Status) : (s.withStatus st).nmiPending = s.nmiPending := rfl
@[simp] theorem State.withStatus_ssShadow (s : State) (st : Status) : (s.withStatus st).ssShadow = s.ssShadow := rfl
@[simp] theorem State.withStatus_stiShadow (s : State) (st : Status) : (s.withStatus st).stiShadow = s.stiShadow := rfl
@[simp] theorem State.withStatus_run (s : State) (st : Status) : (s.withStatus st).run = s.run := rfl
@[simp] theorem State.withStatus_a31High (s : State) (st : Status) : (s.withStatus st).a31High = s.a31High := rfl
@[simp] theorem State.withStatus_pfx (s : State) (st : Status) : (s.withStatus st).pfx = s.pfx := rfl
@[simp] theorem State.withStatus_pendingExc (s : State) (st : Status) : (s.withStatus st).pendingExc = s.pendingExc := rfl
@[simp] theorem State.withStatus_pins (s : State) (st : Status) : (s.withStatus st).pins = s.pins := rfl
@[simp] theorem State.withStatus_plat (s : State) (st : Status) : (s.withStatus st).plat = s.plat := rfl
@[simp] theorem State.withStatus_draws (s : State) (st : Status) : (s.withStatus st).draws = s.draws := rfl
@[simp] theorem State.withStatus_ioOut (s : State) (st : Status) : (s.withStatus st).ioOut = s.ioOut := rfl
@[simp] theorem State.withStatus_copOut (s : State) (st : Status) : (s.withStatus st).copOut = s.copOut := rfl
@[simp] theorem State.withStatus_busOut (s : State) (st : Status) : (s.withStatus st).busOut = s.busOut := rfl
@[simp] theorem State.withStatus_lockOut (s : State) (st : Status) : (s.withStatus st).lockOut = s.lockOut := rfl
@[simp] theorem State.withStatus_mem (s : State) (st : Status) : (s.withStatus st).mem = s.mem := rfl

/-! ### `drawn` -/
@[simp] theorem State.drawn_gpr (s : State) (n : Nat) : (s.drawn n).gpr = s.gpr := rfl
@[simp] theorem State.drawn_seg (s : State) (n : Nat) : (s.drawn n).seg = s.seg := rfl
@[simp] theorem State.drawn_eip (s : State) (n : Nat) : (s.drawn n).eip = s.eip := rfl
@[simp] theorem State.drawn_eipNext (s : State) (n : Nat) : (s.drawn n).eipNext = s.eipNext := rfl
@[simp] theorem State.drawn_flags (s : State) (n : Nat) : (s.drawn n).flags = s.flags := rfl
@[simp] theorem State.drawn_cpl (s : State) (n : Nat) : (s.drawn n).cpl = s.cpl := rfl
@[simp] theorem State.drawn_gdtr (s : State) (n : Nat) : (s.drawn n).gdtr = s.gdtr := rfl
@[simp] theorem State.drawn_idtr (s : State) (n : Nat) : (s.drawn n).idtr = s.idtr := rfl
@[simp] theorem State.drawn_ldtr (s : State) (n : Nat) : (s.drawn n).ldtr = s.ldtr := rfl
@[simp] theorem State.drawn_tr (s : State) (n : Nat) : (s.drawn n).tr = s.tr := rfl
@[simp] theorem State.drawn_cr0 (s : State) (n : Nat) : (s.drawn n).cr0 = s.cr0 := rfl
@[simp] theorem State.drawn_cr2 (s : State) (n : Nat) : (s.drawn n).cr2 = s.cr2 := rfl
@[simp] theorem State.drawn_cr3 (s : State) (n : Nat) : (s.drawn n).cr3 = s.cr3 := rfl
@[simp] theorem State.drawn_dbg (s : State) (n : Nat) : (s.drawn n).dbg = s.dbg := rfl
@[simp] theorem State.drawn_tr6 (s : State) (n : Nat) : (s.drawn n).tr6 = s.tr6 := rfl
@[simp] theorem State.drawn_tr7 (s : State) (n : Nat) : (s.drawn n).tr7 = s.tr7 := rfl
@[simp] theorem State.drawn_tlb (s : State) (n : Nat) : (s.drawn n).tlb = s.tlb := rfl
@[simp] theorem State.drawn_pastEnd (s : State) (n : Nat) : (s.drawn n).pastEnd = s.pastEnd := rfl
@[simp] theorem State.drawn_queue (s : State) (n : Nat) : (s.drawn n).queue = s.queue := rfl
@[simp] theorem State.drawn_fetched (s : State) (n : Nat) : (s.drawn n).fetched = s.fetched := rfl
@[simp] theorem State.drawn_nmiInService (s : State) (n : Nat) : (s.drawn n).nmiInService = s.nmiInService := rfl
@[simp] theorem State.drawn_nmiPending (s : State) (n : Nat) : (s.drawn n).nmiPending = s.nmiPending := rfl
@[simp] theorem State.drawn_ssShadow (s : State) (n : Nat) : (s.drawn n).ssShadow = s.ssShadow := rfl
@[simp] theorem State.drawn_stiShadow (s : State) (n : Nat) : (s.drawn n).stiShadow = s.stiShadow := rfl
@[simp] theorem State.drawn_run (s : State) (n : Nat) : (s.drawn n).run = s.run := rfl
@[simp] theorem State.drawn_a31High (s : State) (n : Nat) : (s.drawn n).a31High = s.a31High := rfl
@[simp] theorem State.drawn_pfx (s : State) (n : Nat) : (s.drawn n).pfx = s.pfx := rfl
@[simp] theorem State.drawn_pendingExc (s : State) (n : Nat) : (s.drawn n).pendingExc = s.pendingExc := rfl
@[simp] theorem State.drawn_pins (s : State) (n : Nat) : (s.drawn n).pins = s.pins := rfl
@[simp] theorem State.drawn_plat (s : State) (n : Nat) : (s.drawn n).plat = s.plat := rfl
@[simp] theorem State.drawn_draws (s : State) (n : Nat) : (s.drawn n).draws = n := rfl
@[simp] theorem State.drawn_ioOut (s : State) (n : Nat) : (s.drawn n).ioOut = s.ioOut := rfl
@[simp] theorem State.drawn_copOut (s : State) (n : Nat) : (s.drawn n).copOut = s.copOut := rfl
@[simp] theorem State.drawn_busOut (s : State) (n : Nat) : (s.drawn n).busOut = s.busOut := rfl
@[simp] theorem State.drawn_lockOut (s : State) (n : Nat) : (s.drawn n).lockOut = s.lockOut := rfl
@[simp] theorem State.drawn_mem (s : State) (n : Nat) : (s.drawn n).mem = s.mem := rfl

/-! ### `flushTlb` -/
@[simp] theorem State.flushTlb_gpr (s : State) : (s.flushTlb).gpr = s.gpr := rfl
@[simp] theorem State.flushTlb_seg (s : State) : (s.flushTlb).seg = s.seg := rfl
@[simp] theorem State.flushTlb_eip (s : State) : (s.flushTlb).eip = s.eip := rfl
@[simp] theorem State.flushTlb_eipNext (s : State) : (s.flushTlb).eipNext = s.eipNext := rfl
@[simp] theorem State.flushTlb_flags (s : State) : (s.flushTlb).flags = s.flags := rfl
@[simp] theorem State.flushTlb_cpl (s : State) : (s.flushTlb).cpl = s.cpl := rfl
@[simp] theorem State.flushTlb_gdtr (s : State) : (s.flushTlb).gdtr = s.gdtr := rfl
@[simp] theorem State.flushTlb_idtr (s : State) : (s.flushTlb).idtr = s.idtr := rfl
@[simp] theorem State.flushTlb_ldtr (s : State) : (s.flushTlb).ldtr = s.ldtr := rfl
@[simp] theorem State.flushTlb_tr (s : State) : (s.flushTlb).tr = s.tr := rfl
@[simp] theorem State.flushTlb_cr0 (s : State) : (s.flushTlb).cr0 = s.cr0 := rfl
@[simp] theorem State.flushTlb_cr2 (s : State) : (s.flushTlb).cr2 = s.cr2 := rfl
@[simp] theorem State.flushTlb_cr3 (s : State) : (s.flushTlb).cr3 = s.cr3 := rfl
@[simp] theorem State.flushTlb_dbg (s : State) : (s.flushTlb).dbg = s.dbg := rfl
@[simp] theorem State.flushTlb_tr6 (s : State) : (s.flushTlb).tr6 = s.tr6 := rfl
@[simp] theorem State.flushTlb_tr7 (s : State) : (s.flushTlb).tr7 = s.tr7 := rfl
@[simp] theorem State.flushTlb_tlb (s : State) : (s.flushTlb).tlb = s.tlb.map fun e => { e with v := false } := rfl
@[simp] theorem State.flushTlb_pastEnd (s : State) : (s.flushTlb).pastEnd = s.pastEnd := rfl
@[simp] theorem State.flushTlb_queue (s : State) : (s.flushTlb).queue = s.queue := rfl
@[simp] theorem State.flushTlb_fetched (s : State) : (s.flushTlb).fetched = s.fetched := rfl
@[simp] theorem State.flushTlb_nmiInService (s : State) : (s.flushTlb).nmiInService = s.nmiInService := rfl
@[simp] theorem State.flushTlb_nmiPending (s : State) : (s.flushTlb).nmiPending = s.nmiPending := rfl
@[simp] theorem State.flushTlb_ssShadow (s : State) : (s.flushTlb).ssShadow = s.ssShadow := rfl
@[simp] theorem State.flushTlb_stiShadow (s : State) : (s.flushTlb).stiShadow = s.stiShadow := rfl
@[simp] theorem State.flushTlb_run (s : State) : (s.flushTlb).run = s.run := rfl
@[simp] theorem State.flushTlb_a31High (s : State) : (s.flushTlb).a31High = s.a31High := rfl
@[simp] theorem State.flushTlb_pfx (s : State) : (s.flushTlb).pfx = s.pfx := rfl
@[simp] theorem State.flushTlb_pendingExc (s : State) : (s.flushTlb).pendingExc = s.pendingExc := rfl
@[simp] theorem State.flushTlb_pins (s : State) : (s.flushTlb).pins = s.pins := rfl
@[simp] theorem State.flushTlb_plat (s : State) : (s.flushTlb).plat = s.plat := rfl
@[simp] theorem State.flushTlb_draws (s : State) : (s.flushTlb).draws = s.draws := rfl
@[simp] theorem State.flushTlb_ioOut (s : State) : (s.flushTlb).ioOut = s.ioOut := rfl
@[simp] theorem State.flushTlb_copOut (s : State) : (s.flushTlb).copOut = s.copOut := rfl
@[simp] theorem State.flushTlb_busOut (s : State) : (s.flushTlb).busOut = s.busOut := rfl
@[simp] theorem State.flushTlb_lockOut (s : State) : (s.flushTlb).lockOut = s.lockOut := rfl
@[simp] theorem State.flushTlb_mem (s : State) : (s.flushTlb).mem = s.mem := rfl

/-! ### `asserting` -/
@[simp] theorem State.asserting_gpr (s : State) (c : LockCause) (l : Loc) : (s.asserting c l).gpr = s.gpr := rfl
@[simp] theorem State.asserting_seg (s : State) (c : LockCause) (l : Loc) : (s.asserting c l).seg = s.seg := rfl
@[simp] theorem State.asserting_eip (s : State) (c : LockCause) (l : Loc) : (s.asserting c l).eip = s.eip := rfl
@[simp] theorem State.asserting_eipNext (s : State) (c : LockCause) (l : Loc) : (s.asserting c l).eipNext = s.eipNext := rfl
@[simp] theorem State.asserting_flags (s : State) (c : LockCause) (l : Loc) : (s.asserting c l).flags = s.flags := rfl
@[simp] theorem State.asserting_cpl (s : State) (c : LockCause) (l : Loc) : (s.asserting c l).cpl = s.cpl := rfl
@[simp] theorem State.asserting_gdtr (s : State) (c : LockCause) (l : Loc) : (s.asserting c l).gdtr = s.gdtr := rfl
@[simp] theorem State.asserting_idtr (s : State) (c : LockCause) (l : Loc) : (s.asserting c l).idtr = s.idtr := rfl
@[simp] theorem State.asserting_ldtr (s : State) (c : LockCause) (l : Loc) : (s.asserting c l).ldtr = s.ldtr := rfl
@[simp] theorem State.asserting_tr (s : State) (c : LockCause) (l : Loc) : (s.asserting c l).tr = s.tr := rfl
@[simp] theorem State.asserting_cr0 (s : State) (c : LockCause) (l : Loc) : (s.asserting c l).cr0 = s.cr0 := rfl
@[simp] theorem State.asserting_cr2 (s : State) (c : LockCause) (l : Loc) : (s.asserting c l).cr2 = s.cr2 := rfl
@[simp] theorem State.asserting_cr3 (s : State) (c : LockCause) (l : Loc) : (s.asserting c l).cr3 = s.cr3 := rfl
@[simp] theorem State.asserting_dbg (s : State) (c : LockCause) (l : Loc) : (s.asserting c l).dbg = s.dbg := rfl
@[simp] theorem State.asserting_tr6 (s : State) (c : LockCause) (l : Loc) : (s.asserting c l).tr6 = s.tr6 := rfl
@[simp] theorem State.asserting_tr7 (s : State) (c : LockCause) (l : Loc) : (s.asserting c l).tr7 = s.tr7 := rfl
@[simp] theorem State.asserting_tlb (s : State) (c : LockCause) (l : Loc) : (s.asserting c l).tlb = s.tlb := rfl
@[simp] theorem State.asserting_pastEnd (s : State) (c : LockCause) (l : Loc) : (s.asserting c l).pastEnd = s.pastEnd := rfl
@[simp] theorem State.asserting_queue (s : State) (c : LockCause) (l : Loc) : (s.asserting c l).queue = s.queue := rfl
@[simp] theorem State.asserting_fetched (s : State) (c : LockCause) (l : Loc) : (s.asserting c l).fetched = s.fetched := rfl
@[simp] theorem State.asserting_nmiInService (s : State) (c : LockCause) (l : Loc) : (s.asserting c l).nmiInService = s.nmiInService := rfl
@[simp] theorem State.asserting_nmiPending (s : State) (c : LockCause) (l : Loc) : (s.asserting c l).nmiPending = s.nmiPending := rfl
@[simp] theorem State.asserting_ssShadow (s : State) (c : LockCause) (l : Loc) : (s.asserting c l).ssShadow = s.ssShadow := rfl
@[simp] theorem State.asserting_stiShadow (s : State) (c : LockCause) (l : Loc) : (s.asserting c l).stiShadow = s.stiShadow := rfl
@[simp] theorem State.asserting_run (s : State) (c : LockCause) (l : Loc) : (s.asserting c l).run = s.run := rfl
@[simp] theorem State.asserting_a31High (s : State) (c : LockCause) (l : Loc) : (s.asserting c l).a31High = s.a31High := rfl
@[simp] theorem State.asserting_pfx (s : State) (c : LockCause) (l : Loc) : (s.asserting c l).pfx = s.pfx := rfl
@[simp] theorem State.asserting_pendingExc (s : State) (c : LockCause) (l : Loc) : (s.asserting c l).pendingExc = s.pendingExc := rfl
@[simp] theorem State.asserting_pins (s : State) (c : LockCause) (l : Loc) : (s.asserting c l).pins = s.pins := rfl
@[simp] theorem State.asserting_plat (s : State) (c : LockCause) (l : Loc) : (s.asserting c l).plat = s.plat := rfl
@[simp] theorem State.asserting_draws (s : State) (c : LockCause) (l : Loc) : (s.asserting c l).draws = s.draws := rfl
@[simp] theorem State.asserting_ioOut (s : State) (c : LockCause) (l : Loc) : (s.asserting c l).ioOut = s.ioOut := rfl
@[simp] theorem State.asserting_copOut (s : State) (c : LockCause) (l : Loc) : (s.asserting c l).copOut = s.copOut := rfl
@[simp] theorem State.asserting_busOut (s : State) (c : LockCause) (l : Loc) : (s.asserting c l).busOut = s.busOut := rfl
@[simp] theorem State.asserting_lockOut (s : State) (c : LockCause) (l : Loc) : (s.asserting c l).lockOut = ⟨c, l⟩ :: s.lockOut := rfl
@[simp] theorem State.asserting_mem (s : State) (c : LockCause) (l : Loc) : (s.asserting c l).mem = s.mem := rfl

/-! ### `putAt` -/
@[simp] theorem State.putAt_seg (s : State) (sz : Size) (p : Place) (v : BitVec sz.bits) : (s.putAt sz p v).seg = s.seg := by cases p <;> rfl
@[simp] theorem State.putAt_eip (s : State) (sz : Size) (p : Place) (v : BitVec sz.bits) : (s.putAt sz p v).eip = s.eip := by cases p <;> rfl
@[simp] theorem State.putAt_eipNext (s : State) (sz : Size) (p : Place) (v : BitVec sz.bits) : (s.putAt sz p v).eipNext = s.eipNext := by cases p <;> rfl
@[simp] theorem State.putAt_flags (s : State) (sz : Size) (p : Place) (v : BitVec sz.bits) : (s.putAt sz p v).flags = s.flags := by cases p <;> rfl
@[simp] theorem State.putAt_cpl (s : State) (sz : Size) (p : Place) (v : BitVec sz.bits) : (s.putAt sz p v).cpl = s.cpl := by cases p <;> rfl
@[simp] theorem State.putAt_gdtr (s : State) (sz : Size) (p : Place) (v : BitVec sz.bits) : (s.putAt sz p v).gdtr = s.gdtr := by cases p <;> rfl
@[simp] theorem State.putAt_idtr (s : State) (sz : Size) (p : Place) (v : BitVec sz.bits) : (s.putAt sz p v).idtr = s.idtr := by cases p <;> rfl
@[simp] theorem State.putAt_ldtr (s : State) (sz : Size) (p : Place) (v : BitVec sz.bits) : (s.putAt sz p v).ldtr = s.ldtr := by cases p <;> rfl
@[simp] theorem State.putAt_tr (s : State) (sz : Size) (p : Place) (v : BitVec sz.bits) : (s.putAt sz p v).tr = s.tr := by cases p <;> rfl
@[simp] theorem State.putAt_cr0 (s : State) (sz : Size) (p : Place) (v : BitVec sz.bits) : (s.putAt sz p v).cr0 = s.cr0 := by cases p <;> rfl
@[simp] theorem State.putAt_cr2 (s : State) (sz : Size) (p : Place) (v : BitVec sz.bits) : (s.putAt sz p v).cr2 = s.cr2 := by cases p <;> rfl
@[simp] theorem State.putAt_cr3 (s : State) (sz : Size) (p : Place) (v : BitVec sz.bits) : (s.putAt sz p v).cr3 = s.cr3 := by cases p <;> rfl
@[simp] theorem State.putAt_dbg (s : State) (sz : Size) (p : Place) (v : BitVec sz.bits) : (s.putAt sz p v).dbg = s.dbg := by cases p <;> rfl
@[simp] theorem State.putAt_tr6 (s : State) (sz : Size) (p : Place) (v : BitVec sz.bits) : (s.putAt sz p v).tr6 = s.tr6 := by cases p <;> rfl
@[simp] theorem State.putAt_tr7 (s : State) (sz : Size) (p : Place) (v : BitVec sz.bits) : (s.putAt sz p v).tr7 = s.tr7 := by cases p <;> rfl
@[simp] theorem State.putAt_tlb (s : State) (sz : Size) (p : Place) (v : BitVec sz.bits) : (s.putAt sz p v).tlb = s.tlb := by cases p <;> rfl
@[simp] theorem State.putAt_pastEnd (s : State) (sz : Size) (p : Place) (v : BitVec sz.bits) : (s.putAt sz p v).pastEnd = s.pastEnd := by cases p <;> rfl
@[simp] theorem State.putAt_queue (s : State) (sz : Size) (p : Place) (v : BitVec sz.bits) : (s.putAt sz p v).queue = s.queue := by cases p <;> rfl
@[simp] theorem State.putAt_fetched (s : State) (sz : Size) (p : Place) (v : BitVec sz.bits) : (s.putAt sz p v).fetched = s.fetched := by cases p <;> rfl
@[simp] theorem State.putAt_nmiInService (s : State) (sz : Size) (p : Place) (v : BitVec sz.bits) : (s.putAt sz p v).nmiInService = s.nmiInService := by cases p <;> rfl
@[simp] theorem State.putAt_nmiPending (s : State) (sz : Size) (p : Place) (v : BitVec sz.bits) : (s.putAt sz p v).nmiPending = s.nmiPending := by cases p <;> rfl
@[simp] theorem State.putAt_ssShadow (s : State) (sz : Size) (p : Place) (v : BitVec sz.bits) : (s.putAt sz p v).ssShadow = s.ssShadow := by cases p <;> rfl
@[simp] theorem State.putAt_stiShadow (s : State) (sz : Size) (p : Place) (v : BitVec sz.bits) : (s.putAt sz p v).stiShadow = s.stiShadow := by cases p <;> rfl
@[simp] theorem State.putAt_run (s : State) (sz : Size) (p : Place) (v : BitVec sz.bits) : (s.putAt sz p v).run = s.run := by cases p <;> rfl
@[simp] theorem State.putAt_a31High (s : State) (sz : Size) (p : Place) (v : BitVec sz.bits) : (s.putAt sz p v).a31High = s.a31High := by cases p <;> rfl
@[simp] theorem State.putAt_pfx (s : State) (sz : Size) (p : Place) (v : BitVec sz.bits) : (s.putAt sz p v).pfx = s.pfx := by cases p <;> rfl
@[simp] theorem State.putAt_pendingExc (s : State) (sz : Size) (p : Place) (v : BitVec sz.bits) : (s.putAt sz p v).pendingExc = s.pendingExc := by cases p <;> rfl
@[simp] theorem State.putAt_pins (s : State) (sz : Size) (p : Place) (v : BitVec sz.bits) : (s.putAt sz p v).pins = s.pins := by cases p <;> rfl
@[simp] theorem State.putAt_plat (s : State) (sz : Size) (p : Place) (v : BitVec sz.bits) : (s.putAt sz p v).plat = s.plat := by cases p <;> rfl
@[simp] theorem State.putAt_draws (s : State) (sz : Size) (p : Place) (v : BitVec sz.bits) : (s.putAt sz p v).draws = s.draws := by cases p <;> rfl
@[simp] theorem State.putAt_ioOut (s : State) (sz : Size) (p : Place) (v : BitVec sz.bits) : (s.putAt sz p v).ioOut = s.ioOut := by cases p <;> rfl
@[simp] theorem State.putAt_copOut (s : State) (sz : Size) (p : Place) (v : BitVec sz.bits) : (s.putAt sz p v).copOut = s.copOut := by cases p <;> rfl
@[simp] theorem State.putAt_lockOut (s : State) (sz : Size) (p : Place) (v : BitVec sz.bits) : (s.putAt sz p v).lockOut = s.lockOut := by cases p <;> rfl

/-! ### Flags -/
@[simp] theorem Eflags.setStatus_TF (f : Eflags) (st : Status) : (f.setStatus st).TF = f.TF := rfl
@[simp] theorem Eflags.setStatus_IF (f : Eflags) (st : Status) : (f.setStatus st).IF = f.IF := rfl
@[simp] theorem Eflags.setStatus_DF (f : Eflags) (st : Status) : (f.setStatus st).DF = f.DF := rfl
@[simp] theorem Eflags.setStatus_IOPL (f : Eflags) (st : Status) : (f.setStatus st).IOPL = f.IOPL := rfl
@[simp] theorem Eflags.setStatus_NT (f : Eflags) (st : Status) : (f.setStatus st).NT = f.NT := rfl
@[simp] theorem Eflags.setStatus_RF (f : Eflags) (st : Status) : (f.setStatus st).RF = f.RF := rfl
@[simp] theorem Eflags.setStatus_VM (f : Eflags) (st : Status) : (f.setStatus st).VM = f.VM := rfl
@[simp] theorem Eflags.setStatus_CF (f : Eflags) (st : Status) : (f.setStatus st).CF = st.CF := rfl
@[simp] theorem Eflags.setStatus_PF (f : Eflags) (st : Status) : (f.setStatus st).PF = st.PF := rfl
@[simp] theorem Eflags.setStatus_AF (f : Eflags) (st : Status) : (f.setStatus st).AF = st.AF := rfl
@[simp] theorem Eflags.setStatus_ZF (f : Eflags) (st : Status) : (f.setStatus st).ZF = st.ZF := rfl
@[simp] theorem Eflags.setStatus_SF (f : Eflags) (st : Status) : (f.setStatus st).SF = st.SF := rfl
@[simp] theorem Eflags.setStatus_OF (f : Eflags) (st : Status) : (f.setStatus st).OF = st.OF := rfl

/-! ### What depends on other fields -/
@[simp] theorem State.reg_withStatus (s : State) (st : Status) (sz : Size) (r : Reg) : (s.withStatus st).reg sz r = s.reg sz r := rfl
@[simp] theorem State.reg_drawn (s : State) (n : Nat) (sz : Size) (r : Reg) : (s.drawn n).reg sz r = s.reg sz r := rfl
@[simp] theorem State.reg_store (s : State) (w : Nat) (l : Loc) (v : BitVec w) (sz : Size) (r : Reg) :
    (s.store l v).reg sz r = s.reg sz r := rfl
@[simp] theorem State.attrs_setReg (s : State) (sz : Size) (r : Reg) (v : BitVec sz.bits) : (s.setReg sz r v).attrs = s.attrs := rfl
@[simp] theorem State.attrs_store (s : State) (w : Nat) (l : Loc) (v : BitVec w) : (s.store l v).attrs = s.attrs := rfl
@[simp] theorem State.attrs_withStatus (s : State) (st : Status) : (s.withStatus st).attrs = s.attrs := rfl
@[simp] theorem State.attrs_drawn (s : State) (n : Nat) : (s.drawn n).attrs = s.attrs := rfl

/-- The two general-register accessors meet (10_state.md R30). -/
@[simp] theorem Gpr.get_set (g : Gpr) (r x : Reg) (v : BitVec 32) : (g.set r v).get x = if x = r then v else g.get x := by
  cases r <;> cases x <;> rfl

theorem extract_setByteHi (x : BitVec 32) (v : BitVec 8) : (setByteHi x v).extractLsb' 8 8 = v := by
  apply BitVec.eq_of_getLsbD_eq
  intro i hi
  rw [BitVec.getLsbD_extractLsb']
  unfold setByteHi
  rw [BitVec.getLsbD_append, BitVec.getLsbD_append]
  simp [hi, show ¬ 8 + i < 8 by omega]

theorem extract_setByteLo (x : BitVec 32) (v : BitVec 8) : (setByteLo x v).extractLsb' 0 8 = v := by
  apply BitVec.eq_of_getLsbD_eq
  intro i hi
  rw [BitVec.getLsbD_extractLsb']
  unfold setByteLo
  rw [BitVec.getLsbD_append]
  simp [hi]

theorem extract_setWordLo (x : BitVec 32) (v : BitVec 16) : (setWordLo x v).extractLsb' 0 16 = v := by
  apply BitVec.eq_of_getLsbD_eq
  intro i hi
  rw [BitVec.getLsbD_extractLsb']
  unfold setWordLo
  rw [BitVec.getLsbD_append]
  simp [hi]

/-- What a write at each width leaves in the doubleword that holds it (10_state.md R31). -/
theorem Gpr.write_w (g : Gpr) (r : Reg) (v : BitVec 16) : g.write .w r v = g.set r (setWordLo (g.get r) v) := rfl
theorem Gpr.write_d (g : Gpr) (r : Reg) (v : BitVec 32) : g.write .d r v = g.set r v := rfl
theorem Gpr.write_b (g : Gpr) (r : Reg) (v : BitVec 8) : g.write .b r v =
    g.set (byteHome r).1 (if (byteHome r).2 then setByteHi (g.get (byteHome r).1) v else setByteLo (g.get (byteHome r).1) v) := by
  cases r <;> rfl

end Sys2Proof.Machine
end

