-- ==== Sys2Proof/Laws/Operands.lean ====
section
/-! SUPPORT. What each shared operation on operands, the stack and the flags answers, said once. -/
namespace Sys2Proof.Machine

/-! ## Located operands -/

@[simp] theorem readPlace_apply (sz : Size) (p : Place) (s : State) : readPlace sz p s = .ok (s.valueAt sz p) s := by
  cases p <;> rfl

@[simp] theorem writePlace_apply (sz : Size) (p : Place) (v : BitVec sz.bits) (s : State) :
    writePlace sz p v s = .ok () (s.putAt sz p v) := by
  cases p <;> rfl

@[simp] theorem place_reg (sz : Size) (r : Reg) (w : Bool) (s : State) : place sz (.reg r) w s = .ok (.reg r) s := rfl

theorem place_mem (sz : Size) (m : Mem) (w : Bool) (s : State) :
    place sz (.mem m) w s = match locate (s.memSeg m) (memEa s.gpr m) sz.bytes w s with
      | .ok l s1 => .ok (.mem l) s1
      | .error e s1 => .error e s1 := by
  change (getS >>= fun s0 => locate (s0.memSeg m) (memEa s0.gpr m) sz.bytes w >>= fun l => pure (Place.mem l)) s = _
  rw [bind_of_ok (getS_apply s), bind_apply]
  cases locate (s.memSeg m) (memEa s.gpr m) sz.bytes w s <;> rfl

theorem readRm_of_place {sz : Size} {rm : Rm} {s s1 : State} {p : Place} (h : place sz rm false s = .ok p s1) :
    readRm sz rm s = .ok (s1.valueAt sz p) s1 := by
  unfold readRm
  rw [bind_of_ok h, readPlace_apply]

theorem writeRm_of_place {sz : Size} {rm : Rm} {s s1 : State} {p : Place} (v : BitVec sz.bits) (h : place sz rm true s = .ok p s1) :
    writeRm sz rm v s = .ok () (s1.putAt sz p v) := by
  unfold writeRm
  rw [bind_of_ok h, writePlace_apply]

theorem modifyRm_of_place {sz : Size} {rm : Rm} {s s1 s2 : State} {p : Place} {f : BitVec sz.bits → M (BitVec sz.bits)}
    {r : BitVec sz.bits} (h : place sz rm true s = .ok p s1) (hf : f (s1.valueAt sz p) s1 = .ok r s2) :
    modifyRm sz rm f s = .ok () (s2.putAt sz p r) := by
  unfold modifyRm
  rw [bind_of_ok h, bind_of_ok (readPlace_apply _ _ _), bind_of_ok hf, writePlace_apply]

/-- What a located operand's write leaves in memory: every byte outside the operand as it was. -/
theorem State.sameBytes_putAt (s : State) (sz : Size) (p : Place) (v : BitVec sz.bits) : s.sameBytes (s.putAt sz p v) p.bytes := by
  intro a ha
  cases p with
  | reg r => rfl
  | mem l => exact State.byteAt_store_other ha

/-- Completion changes no byte. -/
theorem byteAt_finished (s : State) (d : Done) (a : BitVec 32) : (s.finished d).byteAt a = s.byteAt a := by
  obtain ⟨x, n, h⟩ := finished_frame s d
  rw [h]
  rfl

/-- A write followed by completion changes no byte outside the operand. -/
theorem sameBytes_finished {s t : State} {l : Loc} (d : Done) (h : s.sameBytes t l) : s.sameBytes (t.finished d) l := fun a ha => by
  rw [byteAt_finished]
  exact h a ha

theorem Touched.gpr {s t : State} (h : Touched s t) : t.gpr = s.gpr := by
  obtain ⟨_, _, _, _, _, _, _, rfl⟩ := h
  rfl
theorem Touched.flags {s t : State} (h : Touched s t) : t.flags = s.flags := by
  obtain ⟨_, _, _, _, _, _, _, rfl⟩ := h
  rfl
theorem Touched.seg {s t : State} (h : Touched s t) : t.seg = s.seg := by
  obtain ⟨_, _, _, _, _, _, _, rfl⟩ := h
  rfl
theorem Touched.attrs {s t : State} (h : Touched s t) : t.attrs = s.attrs := by
  obtain ⟨_, _, _, _, _, _, _, rfl⟩ := h
  rfl
theorem Touched.osz {s t : State} (h : Touched s t) : t.osz = s.osz := by
  obtain ⟨_, _, _, _, _, _, _, rfl⟩ := h
  rfl
theorem Touched.reg {s t : State} (h : Touched s t) (sz : Size) (r : Reg) : t.reg sz r = s.reg sz r := by
  obtain ⟨_, _, _, _, _, _, _, rfl⟩ := h
  rfl
theorem Touched.below {s t : State} (h : Touched s t) (n : Nat) : t.below n = s.below n := by
  obtain ⟨_, _, _, _, _, _, _, rfl⟩ := h
  rfl
theorem Touched.above {s t : State} (h : Touched s t) (n : Nat) : t.above n = s.above n := by
  obtain ⟨_, _, _, _, _, _, _, rfl⟩ := h
  rfl

/-! ## Memory operands and the stack -/

theorem lread_of_locate {r : SReg} {off : BitVec 32} {sz : Size} {s s1 : State} {l : Loc}
    (h : locate r off sz.bytes false s = .ok l s1) : lread r off sz s = .ok (s1.load sz.bits l) s1 := by
  unfold lread
  rw [bind_of_ok h, loadLoc_apply]

theorem lwrite_of_locate {r : SReg} {off : BitVec 32} {sz : Size} {s s1 : State} {l : Loc} (v : BitVec sz.bits)
    (h : locate r off sz.bytes true s = .ok l s1) : lwrite r off sz v s = .ok () (s1.store l v) := by
  unfold lwrite
  rw [bind_of_ok h, storeLoc_apply]

/-- A push stores below the stack pointer, then moves it (10_state.md R46). -/
theorem push_of_locate {sz : Size} {s s1 : State} {l : Loc} (v : BitVec sz.bits)
    (h : locate .ss (s.below sz.bytes) sz.bytes true s = .ok l s1) :
    push sz v s = .ok () ((s1.store l v).setStackPtr (s.below sz.bytes)) := by
  have ht := (touches_locate _ _ _ _).ok h
  unfold push
  rw [bind_of_ok (getS_apply s), bind_of_ok (lwrite_of_locate v h), modS_apply]
  have : (s1.store l v).below sz.bytes = s.below sz.bytes := ht.below _
  rw [this]

/-- A pop reads at the stack pointer, then moves it (10_state.md R47). -/
theorem pop_of_locate {sz : Size} {s s1 : State} {l : Loc} (h : locate .ss s.stackPtr sz.bytes false s = .ok l s1) :
    pop sz s = .ok (s1.load sz.bits l) (s1.setStackPtr (s.above sz.bytes)) := by
  have ht := (touches_locate _ _ _ _).ok h
  unfold pop
  rw [bind_of_ok (getS_apply s), bind_of_ok (lread_of_locate h), bind_of_ok (modS_apply _ _), ht.above]
  rfl

theorem peek_of_locate {n : Nat} {sz : Size} {s s1 : State} {l : Loc} (h : locate .ss (s.above n) sz.bytes false s = .ok l s1) :
    peek n sz s = .ok (s1.load sz.bits l) s1 := by
  unfold peek
  rw [bind_of_ok (getS_apply s), lread_of_locate h]

/-! ## Near targets -/

/-- The target of a near transfer: masked, and inside the code segment, or #GP(0) (44_control_transfer.md R370). -/
theorem nearTarget_apply (t : BitVec 32) (s : State) :
    nearTarget t s = if s.inCode (s.nearOffset t) then .ok (s.nearOffset t) s else .error (.exc ⟨vGP, .sel 0#16⟩) s := by
  have hn : wrapOff s.attrs.o32 t = s.nearOffset t := by
    unfold wrapOff State.nearOffset
    split <;> rfl
  unfold nearTarget
  rw [bind_of_ok (getS_apply s), bind_apply, require_apply, hn]
  unfold State.inCode
  by_cases h : (s.nearOffset t).toNat ≤ s.seg.cs.limit.toNat
  · simp [h]
  · simp [h]
    rfl

/-! ## Free values -/

theorem undefStatus_ok (s : State) : ∃ st n, undefStatus s = .ok () ((s.drawn n).withStatus st) := ⟨_, _, rfl⟩
theorem putCarryOverflow_ok (v : Bool) (s : State) :
    ∃ st n, st.CF = v ∧ st.OF = v ∧ putCarryOverflow v s = .ok () ((s.drawn n).withStatus st) := ⟨_, _, rfl, rfl, rfl⟩
theorem putLogic_ok {w : Nat} (r : BitVec w) (s : State) :
    ∃ af n, putLogic r s = .ok () ((s.drawn n).withStatus (logicFlags r af)) := ⟨_, _, rfl⟩
theorem putBitFlags_ok (v : Bool) (s : State) :
    ∃ st n, st.CF = v ∧ putBitFlags v s = .ok () ((s.drawn n).withStatus st) := ⟨_, _, rfl, rfl⟩
theorem putScanFlags_ok (v : Bool) (s : State) :
    ∃ st n, st.ZF = v ∧ putScanFlags v s = .ok () ((s.drawn n).withStatus st) := ⟨_, _, rfl, rfl⟩

/-- A selector as a stack item keeps its value in the low half (D45). -/
theorem padSel_ok (sz : Size) (sel : BitVec 16) (s : State) (h : sz ≠ .b) :
    ∃ (v : BitVec sz.bits) (n : Nat), v.setWidth 16 = sel ∧ padSel sz sel s = .ok v (s.drawn n) := by
  cases sz with
  | b => exact absurd rfl h
  | w => exact ⟨sel, s.draws, by simp [Size.bits], rfl⟩
  | d =>
    refine ⟨_, _, ?_, rfl⟩
    apply BitVec.eq_of_getLsbD_eq
    intro i hi
    rw [BitVec.getLsbD_setWidth, BitVec.getLsbD_append]
    simp [hi]

/-- The check of a whole operand changes nothing when it passes, and is the limit exception of the segment when it fails. -/
theorem checkWhole_eq (m : Mem) (n : Nat) (k : AccessKind) (s : State) :
    checkWhole m n k s = if s.segOk (s.memSeg m) (memEa s.gpr m) n k then .ok () s else segFault (s.memSeg m) s := by
  show (if s.segOk (s.memSeg m) (memEa s.gpr m) n k then (pure () : M Unit) else segFault (s.memSeg m)) s = _
  split <;> rfl

end Sys2Proof.Machine
end

