-- ==== Sys2Proof/Laws/System.lean ====
section
/-! SUPPORT. What the processor's own accesses do in a plain state: reads and writes of tables and task state segments,
descriptors fetched and marked accessed, the pushes of delivery. -/
namespace Sys2Proof.Machine

theorem State.plain_iff (s : State) :
    s.plain = true ↔ s.cr0.PG = false ∧ s.dbg.anyWatch = false ∧ s.plat.memMap = [] ∧ s.pfx.lock = false := by
  simp [State.plain, State.direct, and_assoc]

@[simp] theorem plain_store (s : State) {w : Nat} (l : Loc) (v : BitVec w) : (s.store l v).plain = s.plain := rfl
@[simp] theorem plain_setStackPtr (s : State) (v : BitVec 32) : (s.setStackPtr v).plain = s.plain := rfl
@[simp] theorem plain_setReg (s : State) (sz : Size) (r : Reg) (v : BitVec sz.bits) : (s.setReg sz r v).plain = s.plain := rfl
@[simp] theorem plain_drawn (s : State) (n : Nat) : (s.drawn n).plain = s.plain := rfl
@[simp] theorem plain_asserting (s : State) (c : LockCause) (l : Loc) : (s.asserting c l).plain = s.plain := rfl

theorem plain_loadedDesc (s : State) (d : Desc) : (s.loadedDesc d).plain = s.plain := by
  unfold State.loadedDesc
  split <;> rfl

/-- In a plain state a location is its linear bytes, and resolving it changes nothing (20_memory.md R131). -/
theorem resolve_plain {s : State} (hp : s.plain = true) (la : BitVec 32) (n : Nat) (w u : Bool) :
    resolve la n w u s = .ok (Loc.from la n) s := by
  obtain ⟨hg, -, hm, -⟩ := s.plain_iff.1 hp
  rw [resolve_direct hg, State.settled_of_holds (State.holdsAll_of_empty hm _)]

theorem sysRead_plain {s : State} (hp : s.plain = true) (la : BitVec 32) (n w : Nat) :
    sysRead la n w s = .ok (s.load w (Loc.from la n)) s := by
  unfold sysRead
  rw [bind_of_ok (resolve_plain hp _ _ _ _), loadLoc_apply]

theorem sysWrite_plain {s : State} (hp : s.plain = true) {w : Nat} (la : BitVec 32) (n : Nat) (v : BitVec w) :
    sysWrite la n v s = .ok () (s.store (Loc.from la n) v) := by
  unfold sysWrite
  rw [bind_of_ok (resolve_plain hp _ _ _ _), storeLoc_apply]

theorem readDesc_plain {s : State} (hp : s.plain = true) (la : BitVec 32) : readDesc la s = .ok (s.descAt la) s := by
  unfold readDesc
  rw [bind_of_ok (sysRead_plain hp _ _ _), bind_of_ok (sysRead_plain hp _ _ _)]
  rfl

/-- `FetchDesc` of a selector inside its table (21_protection.md R168). -/
theorem fetchDescOr_plain {s : State} (hp : s.plain = true) {sel : BitVec 16} {la : BitVec 32} (h : s.entryAddr sel = some la)
    (v : BitVec 8) (e : ErrCode) : fetchDescOr sel v e s = .ok (s.descAt la) s := by
  have hf : fetchDesc sel s = .ok (some (s.descAt la)) s := by
    unfold fetchDesc
    rw [bind_of_ok (getS_apply s), h]
    show (readDesc la >>= fun d => pure (some d)) s = _
    rw [bind_of_ok (readDesc_plain hp la)]
    rfl
  unfold fetchDescOr
  rw [bind_of_ok hf]
  rfl

/-- `FetchDesc` of a selector outside its table (21_protection.md R168). -/
theorem fetchDescOr_outside {s : State} {sel : BitVec 16} (h : s.entryAddr sel = none) (v : BitVec 8) (e : ErrCode) :
    fetchDescOr sel v e s = .error (.exc ⟨v, e⟩) s := by
  have hf : fetchDesc sel s = .ok none s := by
    unfold fetchDesc
    rw [bind_of_ok (getS_apply s), h]
    rfl
  unfold fetchDescOr
  rw [bind_of_ok hf]
  rfl

/-- Marking a descriptor accessed writes its access byte only if the bit was clear (21_protection.md R168). -/
theorem setAccessed_plain {s : State} (hp : s.plain = true) (d : Desc) : setAccessed d s = .ok () (s.loadedDesc d) := by
  unfold setAccessed
  rw [bind_of_ok (modS_apply _ _)]
  unfold writeAccessed State.loadedDesc
  rw [if_apply]
  split
  · rfl
  · rw [sysWrite_plain ((plain_asserting s _ _).trans hp)]
    rfl

/-- A read through a segment register in a plain state (20_memory.md R120). -/
theorem lread_plain {s : State} (hp : s.plain = true) {r : SReg} {off : BitVec 32} {sz : Size} (h : s.segOk r off sz.bytes .read = true) :
    lread r off sz s = .ok (s.load sz.bits (s.bytesAt r off sz.bytes)) s :=
  lread_of_locate (locate_plain hp h)

theorem peek_plain {s : State} (hp : s.plain = true) {n : Nat} {sz : Size} (h : s.segOk .ss (s.above n) sz.bytes .read = true) :
    peek n sz s = .ok (s.load sz.bits (s.bytesAt .ss (s.above n) sz.bytes)) s :=
  peek_of_locate (locate_plain hp h)

/-- A push made by delivery in a plain state (60_exceptions.md R600). -/
theorem pushQuiet_plain {s : State} (hp : s.plain = true) {sz : Size} (v : BitVec sz.bits)
    (h : s.segOk .ss (s.below sz.bytes) sz.bytes .write = true) :
    pushQuiet sz v s = .ok () ((s.store (s.bytesAt .ss (s.below sz.bytes) sz.bytes) v).setStackPtr (s.below sz.bytes)) := by
  unfold pushQuiet
  rw [bind_of_ok (getS_apply s), if_apply, if_pos h, bind_of_ok (resolve_plain hp _ _ _ _), bind_of_ok (storeLoc_apply _ _ _)]
  rfl

end Sys2Proof.Machine
end

