-- ==== Sys2Proof/Tests/Slice0.lean ====
section
/-! SUPPORT. Tests: well-formedness, the decoding of every constructor, worked examples of the spec, and for each statement with
hypotheses a concrete state and operands that meet them (`witness_<statement>`). -/
namespace Sys2Proof.Tests
open Sys2Proof Sys2Proof.Machine
set_option maxRecDepth 100000
set_option Elab.async false

/-! ## Helpers -/

/-- The computation answers, and its answer and state satisfy `f`. -/
def ok {α : Type} (r : EStateM.Result Halt State α) (f : α → State → Bool) : Bool :=
  match r with
  | .ok a s => f a s
  | .error .. => false

/-- The computation raises the exception `e`. -/
def raises {α : Type} (r : EStateM.Result Halt State α) (e : Exc) : Bool :=
  match r with
  | .error (.exc x) _ => x == e
  | _ => false

/-- The step answers a next state that satisfies `p`. -/
def next (o : Host.Outcome State Fault Refusal) (p : State → Bool) : Bool :=
  match o with
  | .next t => p t
  | _ => false

/-- The step answers a next state. -/
def done (o : Host.Outcome State Fault Refusal) : Bool := next o fun _ => true

/-- The step refuses for `r`. -/
def refuses (o : Host.Outcome State Fault Refusal) (r : Refusal) : Bool :=
  match o with
  | .refused x => x == r
  | _ => false

/-- A doubleword of physical memory set. -/
def put (s : State) (a : Nat) (v : BitVec 32) : State := s.store (Loc.from (BitVec.ofNat 32 a) 4) v

/-- A flat segment. -/
def flatSeg (sel : BitVec 16) (typ : BitVec 4) (dpl : BitVec 2) : SegReg :=
  ⟨sel, 0#32, 0xFFFFFFFF#32, true, dpl, true, typ, true, true⟩

/-- Registers of the test states: every address in reach is small. -/
def gprs : Gpr := ⟨0x11223344#32, 5#32, 0#32, 0x200#32, 0x800#32, 0x800#32, 0x300#32, 0x400#32⟩

/-- Protected mode, flat 32-bit segments, at privilege level `cpl`. -/
def flat (cpl : BitVec 2) : State :=
  { State.reset with
    gpr := gprs
    cr0 := { State.reset.cr0 with PE := true }
    cpl := cpl
    eip := 0x100#32
    eipNext := 0x102#32
    gdtr := ⟨0x1000#32, 0x3F#16⟩
    idtr := ⟨0x2000#32, 0x7F#16⟩
    seg := ⟨flatSeg 0x10#16 3#4 cpl, flatSeg 8#16 11#4 cpl, flatSeg 0x10#16 3#4 cpl, flatSeg 0x10#16 3#4 cpl,
            flatSeg 0x10#16 3#4 cpl, flatSeg 0x10#16 3#4 cpl⟩ }

/-- The same at level 0 with a GDT (1 code, 2 data, 3 an LDT, 4 an available TSS, 5 absent code, 6 code of limit 1FFH) and an
IDT (3 an interrupt gate, 4 a trap gate, to segment 1 at 180H). -/
def tables : State :=
  let s := put (put (flat 0#2) 0x1008 0x0000FFFF#32) 0x100C 0x00CF9B00#32
  let s := put (put s 0x1010 0x0000FFFF#32) 0x1014 0x00CF9300#32
  let s := put (put s 0x1018 0x3000007F#32) 0x101C 0x00008200#32
  let s := put (put s 0x1020 0x50000067#32) 0x1024 0x00008900#32
  let s := put (put s 0x1028 0x0000FFFF#32) 0x102C 0x00CF1B00#32
  let s := put (put s 0x1030 0x000001FF#32) 0x1034 0x00409B00#32
  let s := put (put s 0x2018 0x00080180#32) 0x201C 0x00008E00#32
  put (put s 0x2020 0x00080180#32) 0x2024 0x0000EF00#32

/-- Protected mode at level 3 with privilege levels in its tables: GDT 1 and 2 code and data of level 0, 3 and 4 of level 3, 5 a
conforming code segment of level 0, 6 a call gate to 1 with one parameter, 7 a call gate to 3, 8 an available TSS, 9 and 10 busy ones;
IDT 3 an interrupt gate to 1, 4 a trap gate to 3, 5 a task gate to 8. TR is 9, its inner stack 10H:900H, its back link 10. -/
def levels : State :=
  let s := put (put (flat 3#2) 0x1008 0x0000FFFF#32) 0x100C 0x00CF9B00#32
  let s := put (put s 0x1010 0x0000FFFF#32) 0x1014 0x00CF9300#32
  let s := put (put s 0x1018 0x0000FFFF#32) 0x101C 0x00CFFB00#32
  let s := put (put s 0x1020 0x0000FFFF#32) 0x1024 0x00CFF300#32
  let s := put (put s 0x1028 0x0000FFFF#32) 0x102C 0x00CF9F00#32
  let s := put (put s 0x1030 0x00080180#32) 0x1034 0x0000EC01#32
  let s := put (put s 0x1038 0x00180180#32) 0x103C 0x0000EC00#32
  let s := put (put s 0x1040 0x50000067#32) 0x1044 0x00008900#32
  let s := put (put s 0x1048 0x30000067#32) 0x104C 0x00008B00#32
  let s := put (put s 0x1050 0x50000067#32) 0x1054 0x00008B00#32
  let s := put (put s 0x2018 0x00080180#32) 0x201C 0x0000EE00#32
  let s := put (put s 0x2020 0x00180180#32) 0x2024 0x0000EF00#32
  let s := put (put s 0x2028 0x00400000#32) 0x202C 0x0000E500#32
  let s := put (put (put s 0x3000 0x50#32) 0x3004 0x900#32) 0x3008 0x10#32
  let s := put (put (put (put s 0x5020 0x100#32) 0x5038 0x700#32) 0x504C 8#32) 0x5050 0x10#32
  { s with
    gdtr := ⟨0x1000#32, 0x57#16⟩
    tr := ⟨0x48#16, 0x3000#32, 0x67#32, true⟩
    seg := { s.seg with cs := flatSeg 0x1B#16 11#4 3#2, ss := flatSeg 0x23#16 3#4 3#2, ds := flatSeg 0x23#16 3#4 3#2 } }

/-- Real-address mode, segments at 0 but for CS at 10000H. -/
def real : State :=
  { State.reset with
    gpr := gprs
    eip := 0x100#32
    eipNext := 0x102#32
    seg := { State.reset.seg with cs := State.reset.seg.cs.realLoad 0x1000#16 } }

/-- The LOCK prefix was read. -/
def locked (s : State) : State := { s with pfx := { s.pfx with lock := true } }

/-- A repeat prefix was read. -/
def rep (s : State) (r : RepPrefix) (count : BitVec 32) : State :=
  { s with pfx := { s.pfx with rep := r }, gpr := { s.gpr with ecx := count } }

/-- ECX replaced. -/
def ecx (s : State) (v : BitVec 32) : State := { s with gpr := { s.gpr with ecx := v } }
/-- EAX replaced. -/
def eax (s : State) (v : BitVec 32) : State := { s with gpr := { s.gpr with eax := v } }
/-- ESP replaced. -/
def esp (s : State) (v : BitVec 32) : State := { s with gpr := { s.gpr with esp := v } }

/-- `[200H]` with 32-bit addressing. -/
abbrev m32 : Mem := .a32 none none 0x200#32
/-- `[200H]` with 16-bit addressing. -/
abbrev m16 : Mem := .a16 .none 0x200#16

/-- Instruction bytes placed where the next step fetches them. -/
def withCode (s : State) (l : List Byte) : State :=
  s.withFetchWord (8 * l.length) (l.foldr (fun b n => n * 256 + b.toNat) 0)

/-! ## Well-formedness: one ill-formed term for each check -/

theorem test_wf_rejects_esp_index :
    Instr.wf ⟨true, true⟩ (.incEv (.mem (.a32 none (some (.sp, .x1)) 0#32))) = false ∧
    Instr.wf ⟨true, true⟩ (.incEv (.mem (.a32 none (some (.bp, .x1)) 0#32))) = true := by decide
theorem test_wf_rejects_address_size :
    Instr.wf ⟨true, false⟩ (.incEv (.mem m32)) = false ∧ Instr.wf ⟨true, true⟩ (.incEv (.mem m16)) = false ∧
    Instr.wf ⟨true, false⟩ (.incEv (.mem m16)) = true := by decide
theorem test_wf_rejects_wide_immediate :
    Instr.wf ⟨false, false⟩ (.addEaxIv 0x10000#32) = false ∧ Instr.wf ⟨false, false⟩ (.addEaxIv 0xFFFF#32) = true := by decide
theorem test_wf_rejects_wide_offset :
    Instr.wf ⟨true, false⟩ (.movAlOb 0x10000#32) = false ∧ Instr.wf ⟨true, false⟩ (.movAlOb 0xFFFF#32) = true := by decide
theorem test_wf_rejects_xchg_eax_eax :
    Instr.wf ⟨true, true⟩ (.xchgEaxReg .ax) = false ∧ Instr.wf ⟨true, true⟩ (.xchgEaxReg .cx) = true := by decide

/-- Opcode-table words, part 1: written out from the encoding columns, `[EBX + 10H]` where a form takes memory. -/
def words1 : List (List Byte × Instr) := [
  ([0x00#8, 0x73#8, 0x10#8], .addEbGb (.mem (.a32 (some .bx) none 0x10#32)) .si),
  ([0x01#8, 0x73#8, 0x10#8], .addEvGv (.mem (.a32 (some .bx) none 0x10#32)) .si),
  ([0x02#8, 0x73#8, 0x10#8], .addGbEb .si (.mem (.a32 (some .bx) none 0x10#32))),
  ([0x03#8, 0x73#8, 0x10#8], .addGvEv .si (.mem (.a32 (some .bx) none 0x10#32))),
  ([0x04#8, 0x9C#8], .addAlIb 0x9C#8),
  ([0x05#8, 0x78#8, 0x56#8, 0x34#8, 0x12#8], .addEaxIv 0x12345678#32),
  ([0x08#8, 0x73#8, 0x10#8], .orEbGb (.mem (.a32 (some .bx) none 0x10#32)) .si),
  ([0x09#8, 0x73#8, 0x10#8], .orEvGv (.mem (.a32 (some .bx) none 0x10#32)) .si),
  ([0x0A#8, 0x73#8, 0x10#8], .orGbEb .si (.mem (.a32 (some .bx) none 0x10#32))),
  ([0x0B#8, 0x73#8, 0x10#8], .orGvEv .si (.mem (.a32 (some .bx) none 0x10#32))),
  ([0x0C#8, 0x9C#8], .orAlIb 0x9C#8),
  ([0x0D#8, 0x78#8, 0x56#8, 0x34#8, 0x12#8], .orEaxIv 0x12345678#32),
  ([0x10#8, 0x73#8, 0x10#8], .adcEbGb (.mem (.a32 (some .bx) none 0x10#32)) .si),
  ([0x11#8, 0x73#8, 0x10#8], .adcEvGv (.mem (.a32 (some .bx) none 0x10#32)) .si),
  ([0x12#8, 0x73#8, 0x10#8], .adcGbEb .si (.mem (.a32 (some .bx) none 0x10#32))),
  ([0x13#8, 0x73#8, 0x10#8], .adcGvEv .si (.mem (.a32 (some .bx) none 0x10#32))),
  ([0x14#8, 0x9C#8], .adcAlIb 0x9C#8),
  ([0x15#8, 0x78#8, 0x56#8, 0x34#8, 0x12#8], .adcEaxIv 0x12345678#32),
  ([0x18#8, 0x73#8, 0x10#8], .sbbEbGb (.mem (.a32 (some .bx) none 0x10#32)) .si),
  ([0x19#8, 0x73#8, 0x10#8], .sbbEvGv (.mem (.a32 (some .bx) none 0x10#32)) .si),
  ([0x1A#8, 0x73#8, 0x10#8], .sbbGbEb .si (.mem (.a32 (some .bx) none 0x10#32))),
  ([0x1B#8, 0x73#8, 0x10#8], .sbbGvEv .si (.mem (.a32 (some .bx) none 0x10#32))),
  ([0x1C#8, 0x9C#8], .sbbAlIb 0x9C#8),
  ([0x1D#8, 0x78#8, 0x56#8, 0x34#8, 0x12#8], .sbbEaxIv 0x12345678#32),
  ([0x20#8, 0x73#8, 0x10#8], .andEbGb (.mem (.a32 (some .bx) none 0x10#32)) .si),
  ([0x21#8, 0x73#8, 0x10#8], .andEvGv (.mem (.a32 (some .bx) none 0x10#32)) .si)]
theorem test_decode_words1 : ∀ p ∈ words1, decode ⟨true, true⟩ p.1 = .ok p.2 [] := by decide

/-- Opcode-table words, part 2: written out from the encoding columns, `[EBX + 10H]` where a form takes memory. -/
def words2 : List (List Byte × Instr) := [
  ([0x22#8, 0x73#8, 0x10#8], .andGbEb .si (.mem (.a32 (some .bx) none 0x10#32))),
  ([0x23#8, 0x73#8, 0x10#8], .andGvEv .si (.mem (.a32 (some .bx) none 0x10#32))),
  ([0x24#8, 0x9C#8], .andAlIb 0x9C#8),
  ([0x25#8, 0x78#8, 0x56#8, 0x34#8, 0x12#8], .andEaxIv 0x12345678#32),
  ([0x28#8, 0x73#8, 0x10#8], .subEbGb (.mem (.a32 (some .bx) none 0x10#32)) .si),
  ([0x29#8, 0x73#8, 0x10#8], .subEvGv (.mem (.a32 (some .bx) none 0x10#32)) .si),
  ([0x2A#8, 0x73#8, 0x10#8], .subGbEb .si (.mem (.a32 (some .bx) none 0x10#32))),
  ([0x2B#8, 0x73#8, 0x10#8], .subGvEv .si (.mem (.a32 (some .bx) none 0x10#32))),
  ([0x2C#8, 0x9C#8], .subAlIb 0x9C#8),
  ([0x2D#8, 0x78#8, 0x56#8, 0x34#8, 0x12#8], .subEaxIv 0x12345678#32),
  ([0x30#8, 0x73#8, 0x10#8], .xorEbGb (.mem (.a32 (some .bx) none 0x10#32)) .si),
  ([0x31#8, 0x73#8, 0x10#8], .xorEvGv (.mem (.a32 (some .bx) none 0x10#32)) .si),
  ([0x32#8, 0x73#8, 0x10#8], .xorGbEb .si (.mem (.a32 (some .bx) none 0x10#32))),
  ([0x33#8, 0x73#8, 0x10#8], .xorGvEv .si (.mem (.a32 (some .bx) none 0x10#32))),
  ([0x34#8, 0x9C#8], .xorAlIb 0x9C#8),
  ([0x35#8, 0x78#8, 0x56#8, 0x34#8, 0x12#8], .xorEaxIv 0x12345678#32),
  ([0x38#8, 0x73#8, 0x10#8], .cmpEbGb (.mem (.a32 (some .bx) none 0x10#32)) .si),
  ([0x39#8, 0x73#8, 0x10#8], .cmpEvGv (.mem (.a32 (some .bx) none 0x10#32)) .si),
  ([0x3A#8, 0x73#8, 0x10#8], .cmpGbEb .si (.mem (.a32 (some .bx) none 0x10#32))),
  ([0x3B#8, 0x73#8, 0x10#8], .cmpGvEv .si (.mem (.a32 (some .bx) none 0x10#32))),
  ([0x3C#8, 0x9C#8], .cmpAlIb 0x9C#8),
  ([0x3D#8, 0x78#8, 0x56#8, 0x34#8, 0x12#8], .cmpEaxIv 0x12345678#32),
  ([0x80#8, 0x43#8, 0x10#8, 0x9C#8], .addEbIb (.mem (.a32 (some .bx) none 0x10#32)) 0x9C#8),
  ([0x81#8, 0x43#8, 0x10#8, 0x78#8, 0x56#8, 0x34#8, 0x12#8], .addEvIv (.mem (.a32 (some .bx) none 0x10#32)) 0x12345678#32),
  ([0x83#8, 0x43#8, 0x10#8, 0x9C#8], .addEvIb (.mem (.a32 (some .bx) none 0x10#32)) 0x9C#8),
  ([0x80#8, 0x4B#8, 0x10#8, 0x9C#8], .orEbIb (.mem (.a32 (some .bx) none 0x10#32)) 0x9C#8)]
theorem test_decode_words2 : ∀ p ∈ words2, decode ⟨true, true⟩ p.1 = .ok p.2 [] := by decide

/-- Opcode-table words, part 3: written out from the encoding columns, `[EBX + 10H]` where a form takes memory. -/
def words3 : List (List Byte × Instr) := [
  ([0x81#8, 0x4B#8, 0x10#8, 0x78#8, 0x56#8, 0x34#8, 0x12#8], .orEvIv (.mem (.a32 (some .bx) none 0x10#32)) 0x12345678#32),
  ([0x83#8, 0x4B#8, 0x10#8, 0x9C#8], .orEvIb (.mem (.a32 (some .bx) none 0x10#32)) 0x9C#8),
  ([0x80#8, 0x53#8, 0x10#8, 0x9C#8], .adcEbIb (.mem (.a32 (some .bx) none 0x10#32)) 0x9C#8),
  ([0x81#8, 0x53#8, 0x10#8, 0x78#8, 0x56#8, 0x34#8, 0x12#8], .adcEvIv (.mem (.a32 (some .bx) none 0x10#32)) 0x12345678#32),
  ([0x83#8, 0x53#8, 0x10#8, 0x9C#8], .adcEvIb (.mem (.a32 (some .bx) none 0x10#32)) 0x9C#8),
  ([0x80#8, 0x5B#8, 0x10#8, 0x9C#8], .sbbEbIb (.mem (.a32 (some .bx) none 0x10#32)) 0x9C#8),
  ([0x81#8, 0x5B#8, 0x10#8, 0x78#8, 0x56#8, 0x34#8, 0x12#8], .sbbEvIv (.mem (.a32 (some .bx) none 0x10#32)) 0x12345678#32),
  ([0x83#8, 0x5B#8, 0x10#8, 0x9C#8], .sbbEvIb (.mem (.a32 (some .bx) none 0x10#32)) 0x9C#8),
  ([0x80#8, 0x63#8, 0x10#8, 0x9C#8], .andEbIb (.mem (.a32 (some .bx) none 0x10#32)) 0x9C#8),
  ([0x81#8, 0x63#8, 0x10#8, 0x78#8, 0x56#8, 0x34#8, 0x12#8], .andEvIv (.mem (.a32 (some .bx) none 0x10#32)) 0x12345678#32),
  ([0x83#8, 0x63#8, 0x10#8, 0x9C#8], .andEvIb (.mem (.a32 (some .bx) none 0x10#32)) 0x9C#8),
  ([0x80#8, 0x6B#8, 0x10#8, 0x9C#8], .subEbIb (.mem (.a32 (some .bx) none 0x10#32)) 0x9C#8),
  ([0x81#8, 0x6B#8, 0x10#8, 0x78#8, 0x56#8, 0x34#8, 0x12#8], .subEvIv (.mem (.a32 (some .bx) none 0x10#32)) 0x12345678#32),
  ([0x83#8, 0x6B#8, 0x10#8, 0x9C#8], .subEvIb (.mem (.a32 (some .bx) none 0x10#32)) 0x9C#8),
  ([0x80#8, 0x73#8, 0x10#8, 0x9C#8], .xorEbIb (.mem (.a32 (some .bx) none 0x10#32)) 0x9C#8),
  ([0x81#8, 0x73#8, 0x10#8, 0x78#8, 0x56#8, 0x34#8, 0x12#8], .xorEvIv (.mem (.a32 (some .bx) none 0x10#32)) 0x12345678#32),
  ([0x83#8, 0x73#8, 0x10#8, 0x9C#8], .xorEvIb (.mem (.a32 (some .bx) none 0x10#32)) 0x9C#8),
  ([0x80#8, 0x7B#8, 0x10#8, 0x9C#8], .cmpEbIb (.mem (.a32 (some .bx) none 0x10#32)) 0x9C#8),
  ([0x81#8, 0x7B#8, 0x10#8, 0x78#8, 0x56#8, 0x34#8, 0x12#8], .cmpEvIv (.mem (.a32 (some .bx) none 0x10#32)) 0x12345678#32),
  ([0x83#8, 0x7B#8, 0x10#8, 0x9C#8], .cmpEvIb (.mem (.a32 (some .bx) none 0x10#32)) 0x9C#8),
  ([0xD4#8, 0x9C#8], .aam 0x9C#8),
  ([0xD5#8, 0x9C#8], .aad 0x9C#8),
  ([0x43#8], .incReg .bx),
  ([0x4B#8], .decReg .bx),
  ([0x53#8], .pushReg .bx),
  ([0x5B#8], .popReg .bx)]
theorem test_decode_words3 : ∀ p ∈ words3, decode ⟨true, true⟩ p.1 = .ok p.2 [] := by decide

/-- Opcode-table words, part 4: written out from the encoding columns, `[EBX + 10H]` where a form takes memory. -/
def words4 : List (List Byte × Instr) := [
  ([0x62#8, 0x73#8, 0x10#8], .boundGvMa .si (.mem (.a32 (some .bx) none 0x10#32))),
  ([0x63#8, 0x73#8, 0x10#8], .arplEwGw (.mem (.a32 (some .bx) none 0x10#32)) .si),
  ([0x68#8, 0x78#8, 0x56#8, 0x34#8, 0x12#8], .pushIv 0x12345678#32),
  ([0x69#8, 0x73#8, 0x10#8, 0x78#8, 0x56#8, 0x34#8, 0x12#8], .imulGvEvIv .si (.mem (.a32 (some .bx) none 0x10#32)) 0x12345678#32),
  ([0x6A#8, 0x9C#8], .pushIb 0x9C#8),
  ([0x6B#8, 0x73#8, 0x10#8, 0x9C#8], .imulGvEvIb .si (.mem (.a32 (some .bx) none 0x10#32)) 0x9C#8),
  ([0x7C#8, 0x9C#8], .jccJb .l 0x9C#8),
  ([0x84#8, 0x73#8, 0x10#8], .testEbGb (.mem (.a32 (some .bx) none 0x10#32)) .si),
  ([0x85#8, 0x73#8, 0x10#8], .testEvGv (.mem (.a32 (some .bx) none 0x10#32)) .si),
  ([0x86#8, 0x73#8, 0x10#8], .xchgEbGb (.mem (.a32 (some .bx) none 0x10#32)) .si),
  ([0x87#8, 0x73#8, 0x10#8], .xchgEvGv (.mem (.a32 (some .bx) none 0x10#32)) .si),
  ([0x88#8, 0x73#8, 0x10#8], .movEbGb (.mem (.a32 (some .bx) none 0x10#32)) .si),
  ([0x89#8, 0x73#8, 0x10#8], .movEvGv (.mem (.a32 (some .bx) none 0x10#32)) .si),
  ([0x8A#8, 0x73#8, 0x10#8], .movGbEb .si (.mem (.a32 (some .bx) none 0x10#32))),
  ([0x8B#8, 0x73#8, 0x10#8], .movGvEv .si (.mem (.a32 (some .bx) none 0x10#32))),
  ([0x8C#8, 0x5B#8, 0x10#8], .movEwSw (.mem (.a32 (some .bx) none 0x10#32)) 3#3),
  ([0x8D#8, 0x73#8, 0x10#8], .leaGvM .si (.mem (.a32 (some .bx) none 0x10#32))),
  ([0x8E#8, 0x5B#8, 0x10#8], .movSwEw 3#3 (.mem (.a32 (some .bx) none 0x10#32))),
  ([0x8F#8, 0x43#8, 0x10#8], .popEv (.mem (.a32 (some .bx) none 0x10#32))),
  ([0x93#8], .xchgEaxReg .bx),
  ([0x9A#8, 0x78#8, 0x56#8, 0x34#8, 0x12#8, 0x23#8, 0x00#8], .callFarAp 0x12345678#32 0x23#16),
  ([0xA0#8, 0x78#8, 0x56#8, 0x34#8, 0x12#8], .movAlOb 0x12345678#32),
  ([0xA1#8, 0x78#8, 0x56#8, 0x34#8, 0x12#8], .movEaxOv 0x12345678#32),
  ([0xA2#8, 0x78#8, 0x56#8, 0x34#8, 0x12#8], .movObAl 0x12345678#32),
  ([0xA3#8, 0x78#8, 0x56#8, 0x34#8, 0x12#8], .movOvEax 0x12345678#32),
  ([0xA8#8, 0x9C#8], .testAlIb 0x9C#8)]
theorem test_decode_words4 : ∀ p ∈ words4, decode ⟨true, true⟩ p.1 = .ok p.2 [] := by decide

/-- Opcode-table words, part 5: written out from the encoding columns, `[EBX + 10H]` where a form takes memory. -/
def words5 : List (List Byte × Instr) := [
  ([0xA9#8, 0x78#8, 0x56#8, 0x34#8, 0x12#8], .testEaxIv 0x12345678#32),
  ([0xB3#8, 0x9C#8], .movR8Ib .bx 0x9C#8),
  ([0xBB#8, 0x78#8, 0x56#8, 0x34#8, 0x12#8], .movRegIv .bx 0x12345678#32),
  ([0xC0#8, 0x43#8, 0x10#8, 0x9C#8], .rolEbIb (.mem (.a32 (some .bx) none 0x10#32)) 0x9C#8),
  ([0xC1#8, 0x43#8, 0x10#8, 0x9C#8], .rolEvIb (.mem (.a32 (some .bx) none 0x10#32)) 0x9C#8),
  ([0xD0#8, 0x43#8, 0x10#8], .rolEb1 (.mem (.a32 (some .bx) none 0x10#32))),
  ([0xD1#8, 0x43#8, 0x10#8], .rolEv1 (.mem (.a32 (some .bx) none 0x10#32))),
  ([0xD2#8, 0x43#8, 0x10#8], .rolEbCl (.mem (.a32 (some .bx) none 0x10#32))),
  ([0xD3#8, 0x43#8, 0x10#8], .rolEvCl (.mem (.a32 (some .bx) none 0x10#32))),
  ([0xC0#8, 0x4B#8, 0x10#8, 0x9C#8], .rorEbIb (.mem (.a32 (some .bx) none 0x10#32)) 0x9C#8),
  ([0xC1#8, 0x4B#8, 0x10#8, 0x9C#8], .rorEvIb (.mem (.a32 (some .bx) none 0x10#32)) 0x9C#8),
  ([0xD0#8, 0x4B#8, 0x10#8], .rorEb1 (.mem (.a32 (some .bx) none 0x10#32))),
  ([0xD1#8, 0x4B#8, 0x10#8], .rorEv1 (.mem (.a32 (some .bx) none 0x10#32))),
  ([0xD2#8, 0x4B#8, 0x10#8], .rorEbCl (.mem (.a32 (some .bx) none 0x10#32))),
  ([0xD3#8, 0x4B#8, 0x10#8], .rorEvCl (.mem (.a32 (some .bx) none 0x10#32))),
  ([0xC0#8, 0x53#8, 0x10#8, 0x9C#8], .rclEbIb (.mem (.a32 (some .bx) none 0x10#32)) 0x9C#8),
  ([0xC1#8, 0x53#8, 0x10#8, 0x9C#8], .rclEvIb (.mem (.a32 (some .bx) none 0x10#32)) 0x9C#8),
  ([0xD0#8, 0x53#8, 0x10#8], .rclEb1 (.mem (.a32 (some .bx) none 0x10#32))),
  ([0xD1#8, 0x53#8, 0x10#8], .rclEv1 (.mem (.a32 (some .bx) none 0x10#32))),
  ([0xD2#8, 0x53#8, 0x10#8], .rclEbCl (.mem (.a32 (some .bx) none 0x10#32))),
  ([0xD3#8, 0x53#8, 0x10#8], .rclEvCl (.mem (.a32 (some .bx) none 0x10#32))),
  ([0xC0#8, 0x5B#8, 0x10#8, 0x9C#8], .rcrEbIb (.mem (.a32 (some .bx) none 0x10#32)) 0x9C#8),
  ([0xC1#8, 0x5B#8, 0x10#8, 0x9C#8], .rcrEvIb (.mem (.a32 (some .bx) none 0x10#32)) 0x9C#8),
  ([0xD0#8, 0x5B#8, 0x10#8], .rcrEb1 (.mem (.a32 (some .bx) none 0x10#32))),
  ([0xD1#8, 0x5B#8, 0x10#8], .rcrEv1 (.mem (.a32 (some .bx) none 0x10#32))),
  ([0xD2#8, 0x5B#8, 0x10#8], .rcrEbCl (.mem (.a32 (some .bx) none 0x10#32)))]
theorem test_decode_words5 : ∀ p ∈ words5, decode ⟨true, true⟩ p.1 = .ok p.2 [] := by decide

/-- Opcode-table words, part 6: written out from the encoding columns, `[EBX + 10H]` where a form takes memory. -/
def words6 : List (List Byte × Instr) := [
  ([0xD3#8, 0x5B#8, 0x10#8], .rcrEvCl (.mem (.a32 (some .bx) none 0x10#32))),
  ([0xC0#8, 0x63#8, 0x10#8, 0x9C#8], .shlEbIb (.mem (.a32 (some .bx) none 0x10#32)) 0x9C#8),
  ([0xC1#8, 0x63#8, 0x10#8, 0x9C#8], .shlEvIb (.mem (.a32 (some .bx) none 0x10#32)) 0x9C#8),
  ([0xD0#8, 0x63#8, 0x10#8], .shlEb1 (.mem (.a32 (some .bx) none 0x10#32))),
  ([0xD1#8, 0x63#8, 0x10#8], .shlEv1 (.mem (.a32 (some .bx) none 0x10#32))),
  ([0xD2#8, 0x63#8, 0x10#8], .shlEbCl (.mem (.a32 (some .bx) none 0x10#32))),
  ([0xD3#8, 0x63#8, 0x10#8], .shlEvCl (.mem (.a32 (some .bx) none 0x10#32))),
  ([0xC0#8, 0x6B#8, 0x10#8, 0x9C#8], .shrEbIb (.mem (.a32 (some .bx) none 0x10#32)) 0x9C#8),
  ([0xC1#8, 0x6B#8, 0x10#8, 0x9C#8], .shrEvIb (.mem (.a32 (some .bx) none 0x10#32)) 0x9C#8),
  ([0xD0#8, 0x6B#8, 0x10#8], .shrEb1 (.mem (.a32 (some .bx) none 0x10#32))),
  ([0xD1#8, 0x6B#8, 0x10#8], .shrEv1 (.mem (.a32 (some .bx) none 0x10#32))),
  ([0xD2#8, 0x6B#8, 0x10#8], .shrEbCl (.mem (.a32 (some .bx) none 0x10#32))),
  ([0xD3#8, 0x6B#8, 0x10#8], .shrEvCl (.mem (.a32 (some .bx) none 0x10#32))),
  ([0xC0#8, 0x7B#8, 0x10#8, 0x9C#8], .sarEbIb (.mem (.a32 (some .bx) none 0x10#32)) 0x9C#8),
  ([0xC1#8, 0x7B#8, 0x10#8, 0x9C#8], .sarEvIb (.mem (.a32 (some .bx) none 0x10#32)) 0x9C#8),
  ([0xD0#8, 0x7B#8, 0x10#8], .sarEb1 (.mem (.a32 (some .bx) none 0x10#32))),
  ([0xD1#8, 0x7B#8, 0x10#8], .sarEv1 (.mem (.a32 (some .bx) none 0x10#32))),
  ([0xD2#8, 0x7B#8, 0x10#8], .sarEbCl (.mem (.a32 (some .bx) none 0x10#32))),
  ([0xD3#8, 0x7B#8, 0x10#8], .sarEvCl (.mem (.a32 (some .bx) none 0x10#32))),
  ([0xC2#8, 0x34#8, 0x12#8], .retNearIw 0x1234#16),
  ([0xC4#8, 0x73#8, 0x10#8], .lesGvMp .si (.mem (.a32 (some .bx) none 0x10#32))),
  ([0xC5#8, 0x73#8, 0x10#8], .ldsGvMp .si (.mem (.a32 (some .bx) none 0x10#32))),
  ([0xC6#8, 0x43#8, 0x10#8, 0x9C#8], .movEbIb (.mem (.a32 (some .bx) none 0x10#32)) 0x9C#8),
  ([0xC7#8, 0x43#8, 0x10#8, 0x78#8, 0x56#8, 0x34#8, 0x12#8], .movEvIv (.mem (.a32 (some .bx) none 0x10#32)) 0x12345678#32),
  ([0xC8#8, 0x34#8, 0x12#8, 0x9C#8], .enter 0x1234#16 0x9C#8),
  ([0xCA#8, 0x34#8, 0x12#8], .retFarIw 0x1234#16)]
theorem test_decode_words6 : ∀ p ∈ words6, decode ⟨true, true⟩ p.1 = .ok p.2 [] := by decide

/-- Opcode-table words, part 7: written out from the encoding columns, `[EBX + 10H]` where a form takes memory. -/
def words7 : List (List Byte × Instr) := [
  ([0xCD#8, 0x9C#8], .intIb 0x9C#8),
  ([0xDB#8, 0x73#8, 0x10#8], .esc 3#3 6#3 (.mem (.a32 (some .bx) none 0x10#32))),
  ([0xE0#8, 0x9C#8], .loopne 0x9C#8),
  ([0xE1#8, 0x9C#8], .loope 0x9C#8),
  ([0xE2#8, 0x9C#8], .loop 0x9C#8),
  ([0xE3#8, 0x9C#8], .jcxz 0x9C#8),
  ([0xE4#8, 0x9C#8], .inAlIb 0x9C#8),
  ([0xE5#8, 0x9C#8], .inEaxIb 0x9C#8),
  ([0xE6#8, 0x9C#8], .outIbAl 0x9C#8),
  ([0xE7#8, 0x9C#8], .outIbEax 0x9C#8),
  ([0xE8#8, 0x78#8, 0x56#8, 0x34#8, 0x12#8], .callJv 0x12345678#32),
  ([0xE9#8, 0x78#8, 0x56#8, 0x34#8, 0x12#8], .jmpJv 0x12345678#32),
  ([0xEA#8, 0x78#8, 0x56#8, 0x34#8, 0x12#8, 0x23#8, 0x00#8], .jmpFarAp 0x12345678#32 0x23#16),
  ([0xEB#8, 0x9C#8], .jmpJb 0x9C#8),
  ([0xF6#8, 0x43#8, 0x10#8, 0x9C#8], .testEbIb (.mem (.a32 (some .bx) none 0x10#32)) 0x9C#8),
  ([0xF7#8, 0x43#8, 0x10#8, 0x78#8, 0x56#8, 0x34#8, 0x12#8], .testEvIv (.mem (.a32 (some .bx) none 0x10#32)) 0x12345678#32),
  ([0xF6#8, 0x53#8, 0x10#8], .notEb (.mem (.a32 (some .bx) none 0x10#32))),
  ([0xF7#8, 0x53#8, 0x10#8], .notEv (.mem (.a32 (some .bx) none 0x10#32))),
  ([0xF6#8, 0x5B#8, 0x10#8], .negEb (.mem (.a32 (some .bx) none 0x10#32))),
  ([0xF7#8, 0x5B#8, 0x10#8], .negEv (.mem (.a32 (some .bx) none 0x10#32))),
  ([0xF6#8, 0x63#8, 0x10#8], .mulEb (.mem (.a32 (some .bx) none 0x10#32))),
  ([0xF7#8, 0x63#8, 0x10#8], .mulEv (.mem (.a32 (some .bx) none 0x10#32))),
  ([0xF6#8, 0x6B#8, 0x10#8], .imulEb (.mem (.a32 (some .bx) none 0x10#32))),
  ([0xF7#8, 0x6B#8, 0x10#8], .imulEv (.mem (.a32 (some .bx) none 0x10#32))),
  ([0xF6#8, 0x73#8, 0x10#8], .divEb (.mem (.a32 (some .bx) none 0x10#32))),
  ([0xF7#8, 0x73#8, 0x10#8], .divEv (.mem (.a32 (some .bx) none 0x10#32)))]
theorem test_decode_words7 : ∀ p ∈ words7, decode ⟨true, true⟩ p.1 = .ok p.2 [] := by decide

/-- Opcode-table words, part 8: written out from the encoding columns, `[EBX + 10H]` where a form takes memory. -/
def words8 : List (List Byte × Instr) := [
  ([0xF6#8, 0x7B#8, 0x10#8], .idivEb (.mem (.a32 (some .bx) none 0x10#32))),
  ([0xF7#8, 0x7B#8, 0x10#8], .idivEv (.mem (.a32 (some .bx) none 0x10#32))),
  ([0xFE#8, 0x43#8, 0x10#8], .incEb (.mem (.a32 (some .bx) none 0x10#32))),
  ([0xFE#8, 0x4B#8, 0x10#8], .decEb (.mem (.a32 (some .bx) none 0x10#32))),
  ([0xFF#8, 0x43#8, 0x10#8], .incEv (.mem (.a32 (some .bx) none 0x10#32))),
  ([0xFF#8, 0x4B#8, 0x10#8], .decEv (.mem (.a32 (some .bx) none 0x10#32))),
  ([0xFF#8, 0x53#8, 0x10#8], .callNearEv (.mem (.a32 (some .bx) none 0x10#32))),
  ([0xFF#8, 0x5B#8, 0x10#8], .callFarMp (.mem (.a32 (some .bx) none 0x10#32))),
  ([0xFF#8, 0x63#8, 0x10#8], .jmpNearEv (.mem (.a32 (some .bx) none 0x10#32))),
  ([0xFF#8, 0x6B#8, 0x10#8], .jmpFarMp (.mem (.a32 (some .bx) none 0x10#32))),
  ([0xFF#8, 0x73#8, 0x10#8], .pushEv (.mem (.a32 (some .bx) none 0x10#32))),
  ([0x0F#8, 0x00#8, 0x43#8, 0x10#8], .sldtEw (.mem (.a32 (some .bx) none 0x10#32))),
  ([0x0F#8, 0x00#8, 0x4B#8, 0x10#8], .strEw (.mem (.a32 (some .bx) none 0x10#32))),
  ([0x0F#8, 0x00#8, 0x53#8, 0x10#8], .lldtEw (.mem (.a32 (some .bx) none 0x10#32))),
  ([0x0F#8, 0x00#8, 0x5B#8, 0x10#8], .ltrEw (.mem (.a32 (some .bx) none 0x10#32))),
  ([0x0F#8, 0x00#8, 0x63#8, 0x10#8], .verrEw (.mem (.a32 (some .bx) none 0x10#32))),
  ([0x0F#8, 0x00#8, 0x6B#8, 0x10#8], .verwEw (.mem (.a32 (some .bx) none 0x10#32))),
  ([0x0F#8, 0x01#8, 0x43#8, 0x10#8], .sgdtMs (.mem (.a32 (some .bx) none 0x10#32))),
  ([0x0F#8, 0x01#8, 0x4B#8, 0x10#8], .sidtMs (.mem (.a32 (some .bx) none 0x10#32))),
  ([0x0F#8, 0x01#8, 0x53#8, 0x10#8], .lgdtMs (.mem (.a32 (some .bx) none 0x10#32))),
  ([0x0F#8, 0x01#8, 0x5B#8, 0x10#8], .lidtMs (.mem (.a32 (some .bx) none 0x10#32))),
  ([0x0F#8, 0x01#8, 0x63#8, 0x10#8], .smswEw (.mem (.a32 (some .bx) none 0x10#32))),
  ([0x0F#8, 0x01#8, 0x73#8, 0x10#8], .lmswEw (.mem (.a32 (some .bx) none 0x10#32))),
  ([0x0F#8, 0x02#8, 0x73#8, 0x10#8], .larGvEw .si (.mem (.a32 (some .bx) none 0x10#32))),
  ([0x0F#8, 0x03#8, 0x73#8, 0x10#8], .lslGvEw .si (.mem (.a32 (some .bx) none 0x10#32))),
  ([0x0F#8, 0x20#8, 0xDE#8], .movRdCd .si 3#3)]
theorem test_decode_words8 : ∀ p ∈ words8, decode ⟨true, true⟩ p.1 = .ok p.2 [] := by decide

/-- Opcode-table words, part 9: written out from the encoding columns, `[EBX + 10H]` where a form takes memory. -/
def words9 : List (List Byte × Instr) := [
  ([0x0F#8, 0x21#8, 0xDE#8], .movRdDd .si 3#3),
  ([0x0F#8, 0x22#8, 0xDE#8], .movCdRd 3#3 .si),
  ([0x0F#8, 0x23#8, 0xDE#8], .movDdRd 3#3 .si),
  ([0x0F#8, 0x24#8, 0xDE#8], .movRdTd .si 3#3),
  ([0x0F#8, 0x26#8, 0xDE#8], .movTdRd 3#3 .si),
  ([0x0F#8, 0x8C#8, 0x78#8, 0x56#8, 0x34#8, 0x12#8], .jccJv .l 0x12345678#32),
  ([0x0F#8, 0x9C#8, 0x43#8, 0x10#8], .setccEb .l (.mem (.a32 (some .bx) none 0x10#32))),
  ([0x0F#8, 0xA3#8, 0x73#8, 0x10#8], .btEvGv (.mem (.a32 (some .bx) none 0x10#32)) .si),
  ([0x0F#8, 0xA4#8, 0x73#8, 0x10#8, 0x9C#8], .shldEvGvIb (.mem (.a32 (some .bx) none 0x10#32)) .si 0x9C#8),
  ([0x0F#8, 0xA5#8, 0x73#8, 0x10#8], .shldEvGvCl (.mem (.a32 (some .bx) none 0x10#32)) .si),
  ([0x0F#8, 0xAB#8, 0x73#8, 0x10#8], .btsEvGv (.mem (.a32 (some .bx) none 0x10#32)) .si),
  ([0x0F#8, 0xAC#8, 0x73#8, 0x10#8, 0x9C#8], .shrdEvGvIb (.mem (.a32 (some .bx) none 0x10#32)) .si 0x9C#8),
  ([0x0F#8, 0xAD#8, 0x73#8, 0x10#8], .shrdEvGvCl (.mem (.a32 (some .bx) none 0x10#32)) .si),
  ([0x0F#8, 0xAF#8, 0x73#8, 0x10#8], .imulGvEv .si (.mem (.a32 (some .bx) none 0x10#32))),
  ([0x0F#8, 0xB2#8, 0x73#8, 0x10#8], .lssGvMp .si (.mem (.a32 (some .bx) none 0x10#32))),
  ([0x0F#8, 0xB3#8, 0x73#8, 0x10#8], .btrEvGv (.mem (.a32 (some .bx) none 0x10#32)) .si),
  ([0x0F#8, 0xB4#8, 0x73#8, 0x10#8], .lfsGvMp .si (.mem (.a32 (some .bx) none 0x10#32))),
  ([0x0F#8, 0xB5#8, 0x73#8, 0x10#8], .lgsGvMp .si (.mem (.a32 (some .bx) none 0x10#32))),
  ([0x0F#8, 0xB6#8, 0x73#8, 0x10#8], .movzxGvEb .si (.mem (.a32 (some .bx) none 0x10#32))),
  ([0x0F#8, 0xB7#8, 0x73#8, 0x10#8], .movzxGdEw .si (.mem (.a32 (some .bx) none 0x10#32))),
  ([0x0F#8, 0xBA#8, 0x63#8, 0x10#8, 0x9C#8], .btEvIb (.mem (.a32 (some .bx) none 0x10#32)) 0x9C#8),
  ([0x0F#8, 0xBA#8, 0x6B#8, 0x10#8, 0x9C#8], .btsEvIb (.mem (.a32 (some .bx) none 0x10#32)) 0x9C#8),
  ([0x0F#8, 0xBA#8, 0x73#8, 0x10#8, 0x9C#8], .btrEvIb (.mem (.a32 (some .bx) none 0x10#32)) 0x9C#8),
  ([0x0F#8, 0xBA#8, 0x7B#8, 0x10#8, 0x9C#8], .btcEvIb (.mem (.a32 (some .bx) none 0x10#32)) 0x9C#8),
  ([0x0F#8, 0xBB#8, 0x73#8, 0x10#8], .btcEvGv (.mem (.a32 (some .bx) none 0x10#32)) .si),
  ([0x0F#8, 0xBC#8, 0x73#8, 0x10#8], .bsfGvEv .si (.mem (.a32 (some .bx) none 0x10#32)))]
theorem test_decode_words9 : ∀ p ∈ words9, decode ⟨true, true⟩ p.1 = .ok p.2 [] := by decide

/-- Opcode-table words, part 10: written out from the encoding columns, `[EBX + 10H]` where a form takes memory. -/
def words10 : List (List Byte × Instr) := [
  ([0x0F#8, 0xBD#8, 0x73#8, 0x10#8], .bsrGvEv .si (.mem (.a32 (some .bx) none 0x10#32))),
  ([0x0F#8, 0xBE#8, 0x73#8, 0x10#8], .movsxGvEb .si (.mem (.a32 (some .bx) none 0x10#32))),
  ([0x0F#8, 0xBF#8, 0x73#8, 0x10#8], .movsxGdEw .si (.mem (.a32 (some .bx) none 0x10#32))),
  ([0x06#8], .pushEs),
  ([0x07#8], .popEs),
  ([0x0E#8], .pushCs),
  ([0x16#8], .pushSs),
  ([0x17#8], .popSs),
  ([0x1E#8], .pushDs),
  ([0x1F#8], .popDs),
  ([0x0F#8, 0xA0#8], .pushFs),
  ([0x0F#8, 0xA1#8], .popFs),
  ([0x0F#8, 0xA8#8], .pushGs),
  ([0x0F#8, 0xA9#8], .popGs),
  ([0x26#8], .prefixEs),
  ([0x2E#8], .prefixCs),
  ([0x36#8], .prefixSs),
  ([0x3E#8], .prefixDs),
  ([0x64#8], .prefixFs),
  ([0x65#8], .prefixGs),
  ([0x66#8], .prefixOpsize),
  ([0x67#8], .prefixAdsize),
  ([0xF0#8], .prefixLock),
  ([0xF2#8], .prefixRepne),
  ([0xF3#8], .prefixRep),
  ([0x27#8], .daa)]
theorem test_decode_words10 : ∀ p ∈ words10, decode ⟨true, true⟩ p.1 = .ok p.2 [] := by decide

/-- Opcode-table words, part 11: written out from the encoding columns, `[EBX + 10H]` where a form takes memory. -/
def words11 : List (List Byte × Instr) := [
  ([0x2F#8], .das),
  ([0x37#8], .aaa),
  ([0x3F#8], .aas),
  ([0x60#8], .pusha),
  ([0x61#8], .popa),
  ([0x6C#8], .insb),
  ([0x6D#8], .insv),
  ([0x6E#8], .outsb),
  ([0x6F#8], .outsv),
  ([0x90#8], .nop),
  ([0x98#8], .cbwCwde),
  ([0x99#8], .cwdCdq),
  ([0x9B#8], .wait),
  ([0x9C#8], .pushf),
  ([0x9D#8], .popf),
  ([0x9E#8], .sahf),
  ([0x9F#8], .lahf),
  ([0xA4#8], .movsb),
  ([0xA5#8], .movsv),
  ([0xA6#8], .cmpsb),
  ([0xA7#8], .cmpsv),
  ([0xAA#8], .stosb),
  ([0xAB#8], .stosv),
  ([0xAC#8], .lodsb),
  ([0xAD#8], .lodsv),
  ([0xAE#8], .scasb)]
theorem test_decode_words11 : ∀ p ∈ words11, decode ⟨true, true⟩ p.1 = .ok p.2 [] := by decide

/-- Opcode-table words, part 12: written out from the encoding columns, `[EBX + 10H]` where a form takes memory. -/
def words12 : List (List Byte × Instr) := [
  ([0xAF#8], .scasv),
  ([0xC3#8], .retNear),
  ([0xC9#8], .leave),
  ([0xCB#8], .retFar),
  ([0xCC#8], .int3),
  ([0xCE#8], .into),
  ([0xCF#8], .iret),
  ([0xD7#8], .xlat),
  ([0xEC#8], .inAlDx),
  ([0xED#8], .inEaxDx),
  ([0xEE#8], .outDxAl),
  ([0xEF#8], .outDxEax),
  ([0xF4#8], .hlt),
  ([0xF5#8], .cmc),
  ([0xF8#8], .clc),
  ([0xF9#8], .stc),
  ([0xFA#8], .cli),
  ([0xFB#8], .sti),
  ([0xFC#8], .cld),
  ([0xFD#8], .std),
  ([0x0F#8, 0x06#8], .clts),
  ([0x82#8], .undef82),
  ([0xD6#8], .undefD6),
  ([0xF1#8], .undefF1)]
theorem test_decode_words12 : ∀ p ∈ words12, decode ⟨true, true⟩ p.1 = .ok p.2 [] := by decide


/-- ModR/M forms under 16-bit addressing (30_encoding.md R215), all with opcode 8B and AX. -/
theorem test_decode_modrm16 :
    let d (l : List Byte) (m : Mem) : Bool := decode ⟨false, false⟩ (0x8B#8 :: l) = .ok (.movGvEv .ax (.mem m)) []
    (d [0x00#8] (.a16 .bxsi 0#16) && d [0x41#8, 0xFF#8] (.a16 .bxdi 0xFFFF#16) && d [0x82#8, 0x34#8, 0x12#8] (.a16 .bpsi 0x1234#16) &&
     d [0x03#8] (.a16 .bpdi 0#16) && d [0x04#8] (.a16 .si 0#16) && d [0x05#8] (.a16 .di 0#16) &&
     d [0x06#8, 0x34#8, 0x12#8] (.a16 .none 0x1234#16) && d [0x46#8, 0x00#8] (.a16 .bp 0#16) && d [0x07#8] (.a16 .bx 0#16)) = true := by decide

/-- ModR/M and SIB forms under 32-bit addressing (30_encoding.md R213, R214). -/
theorem test_decode_modrm32 :
    let d (l : List Byte) (m : Mem) : Bool := decode ⟨true, true⟩ (0x8B#8 :: l) = .ok (.movGvEv .ax (.mem m)) []
    (d [0x00#8] (.a32 (some .ax) none 0#32) && d [0x05#8, 0x78#8, 0x56#8, 0x34#8, 0x12#8] (.a32 none none 0x12345678#32) &&
     d [0x45#8, 0x80#8] (.a32 (some .bp) none 0xFFFFFF80#32) && d [0x04#8, 0x24#8] (.a32 (some .sp) none 0#32) &&
     d [0x04#8, 0x8D#8, 1#8, 0#8, 0#8, 0#8] (.a32 none (some (.cx, .x4)) 1#32) &&
     d [0x44#8, 0xF7#8, 0xFE#8] (.a32 (some .di) (some (.si, .x8)) 0xFFFFFFFE#32) &&
     d [0x84#8, 0x50#8, 0#8, 1#8, 0#8, 0#8] (.a32 (some .ax) (some (.dx, .x2)) 0x100#32)) = true := by decide

/-- Reserved encodings are stopped by name, and a short instruction says that bytes are missing. -/
theorem test_decode_stops :
    decode ⟨true, true⟩ [0x0F#8, 0x04#8] = .stop .undefinedOpcode ∧ decode ⟨true, true⟩ [0xFF#8, 0xF8#8] = .stop .undefinedGroupCell ∧
    decode ⟨true, true⟩ [0x0F#8] = .stop .needMore ∧ decode ⟨true, true⟩ [] = .stop .needMore := by decide

/-- The table's numbering: the first byte is the low byte of the word. -/
theorem test_decode_table_word : decodeTableWord 16 0xC889 = some (.movEvGv (.reg .ax) .cx) := by decide

/-! ## Worked examples of the spec (95_test_vectors.md and the rules named) -/

theorem test_byte_order : -- V1: bytes 06, FE at B, C are the word FE06H
    ((State.reset.store [0xB#32] 0x06#8).store [0xC#32] 0xFE#8).load 16 (Loc.from 0xB#32 2) = 0xFE06#16 := by decide +kernel

theorem test_xchg : -- V3: 93 exchanges EAX and EBX
    next (step (withCode (flat 0#2) [0x93#8])) (fun t => t.gpr.eax == 0x200#32 && t.gpr.ebx == 0x11223344#32 && t.eip == 0x101#32) = true := by
  decide +kernel

theorem test_push_memory : -- V3: FF 35 00 30 00 00 with [3000H] = 7, ESP = 8000H
    next (step (withCode (put (esp (flat 0#2) 0x8000#32) 0x3000 7#32) [0xFF#8, 0x35#8, 0#8, 0x30#8, 0#8, 0#8]))
      (fun t => t.gpr.esp == 0x7FFC#32 && t.phys32 0x7FFC#32 == 7#32) = true := by decide +kernel

theorem test_idiv : -- V4: -9 / 4 is -2, remainder -1
    next (step (withCode { flat 0#2 with gpr := { gprs with edx := 0xFFFFFFFF#32, eax := 0xFFFFFFF7#32, ecx := 4#32 } } [0xF7#8, 0xF9#8]))
      (fun t => t.gpr.eax == 0xFFFFFFFE#32 && t.gpr.edx == 0xFFFFFFFF#32) = true := by decide +kernel

theorem test_sar : -- V4: SAR of -9 by 2 is -3 with CF = 1
    next (step (withCode (eax (flat 0#2) 0xFFFFFFF7#32) [0xC1#8, 0xF8#8, 2#8]))
      (fun t => t.gpr.eax == 0xFFFFFFFD#32 && t.flags.CF && t.flags.SF && !t.flags.ZF && !t.flags.PF) = true := by decide +kernel

theorem test_loop_zero_count : -- V9: a zero count becomes FFFFFFFFH and the branch is taken
    next (step (withCode (ecx (flat 0#2) 0#32) [0xE2#8, 0xFE#8])) (fun t => t.gpr.ecx == 0xFFFFFFFF#32 && t.eip == 0x100#32) = true := by decide +kernel

theorem test_cmp_conditions : -- V8: 5 compared with 7 leaves CF PF AF ZF SF OF = 1 0 1 0 1 0
    (subFlags 5#32 7#32 false).2 = ⟨true, false, true, false, true, false⟩ := by decide +kernel

theorem test_inc_keeps_cf : -- R293
    next (step (withCode { eax (flat 0#2) 0xFFFFFFFF#32 with flags := { Eflags.afterReset with CF := true } } [0x40#8]))
      (fun t => t.gpr.eax == 0#32 && t.flags.CF && t.flags.ZF && t.flags.AF) = true := by decide +kernel

theorem test_sahf : -- R431: AH = D5H sets the five flags
    next (step (withCode (eax (flat 0#2) 0xD500#32) [0x9E#8]))
      (fun t => t.flags.SF && t.flags.ZF && t.flags.AF && t.flags.PF && t.flags.CF && !t.flags.OF) = true := by decide +kernel

theorem test_cli_traps : -- R526: CPL = 3, IOPL = 0 is #GP(0)
    raises (ioplCheck { tables with cpl := 3#2 }) ⟨13#8, .sel 0#16⟩ = true := by decide +kernel

theorem test_sidt_after_reset : -- R493: FF 03 00 00 00 00
    next (step (withCode { flat 0#2 with idtr := State.reset.idtr } [0x0F#8, 0x01#8, 0x0D#8, 0x00#8, 0x02#8, 0#8, 0#8]))
      (fun t => t.phys32 0x200#32 == 0x3FF#32 && t.phys32 0x202#32 == 0#32) = true := by decide +kernel

theorem test_shutdown : -- R589: IDTR.limit = 0 and a fault
    next (step (withCode { flat 0#2 with idtr := ⟨0#32, 0#16⟩ } [0x0F#8, 0xFF#8])) (fun t => t.run == .shutdown) = true := by decide +kernel

theorem test_int3_gate : -- R600: through an interrupt gate to the same level; IF, TF, NT, RF cleared
    next (step (withCode { tables with flags := { Eflags.afterReset with IF := true, TF := false, NT := true } } [0xCC#8]))
      (fun t => t.eip == 0x180#32 && !t.flags.IF && !t.flags.NT && t.gpr.esp == 0x7F4#32) = true := by decide +kernel

theorem test_real_int : -- R706: INT 20H through the real-mode table
    next (step (withCode (put real 0x80 0x20001234#32) [0xCD#8, 0x20#8]))
      (fun t => t.eip == 0x1234#32 && t.seg.cs.sel == 0x2000#16 && t.seg.cs.base == 0x20000#32 && t.gpr.esp == 0x7FA#32) = true := by decide +kernel

theorem test_rep_movs : -- R401: one element a step, the count going down
    next (exec .movsb (put (rep (flat 0#2) .rep 2#32) 0x300 0xAB#32))
      (fun t => t.phys32 0x400#32 == 0xAB#32 && t.gpr.ecx == 1#32 && t.gpr.esi == 0x301#32 && t.gpr.edi == 0x401#32 && t.eip == 0x100#32) = true := by
  decide +kernel

theorem test_enter : -- R420: ENTER 2048,0
    next (exec (.enter 0x800#16 0#8) { esp (flat 0#2) 0x2000#32 with gpr := { gprs with esp := 0x2000#32, ebp := 0x55#32 } })
      (fun t => t.gpr.ebp == 0x1FFC#32 && t.gpr.esp == 0x17FC#32 && t.phys32 0x1FFC#32 == 0x55#32) = true := by decide +kernel

theorem test_bt_memory : -- R336: bit -1 of a bit string at 200H is bit 31 of the doubleword before it
    next (exec (.btEvGv (.mem m32) .ax) (put (eax (flat 0#2) 0xFFFFFFFF#32) 0x1FC 0x80000000#32)) (fun t => t.flags.CF) = true := by decide +kernel

theorem test_lldt_ltr : -- R494, R496
    next (exec (.lldtEw (.reg .cx)) (ecx tables 0x18#32)) (fun t => t.ldtr == ⟨0x18#16, 0x3000#32, 0x7F#32, true, 0#2, false, 2#4, true⟩) = true ∧
    next (exec (.ltrEw (.reg .cx)) (ecx tables 0x20#32)) (fun t => t.tr == ⟨0x20#16, 0x5000#32, 0x67#32, true⟩ && t.phys32 0x1024#32 == 0x8B00#32) = true := by
  decide +kernel

theorem test_far_jump_limit : -- R461: offset 1FFH is the last of segment 6, 200H is #GP(0)
    next (exec (.jmpFarAp 0x1FF#32 0x30#16) tables) (fun t => t.eip == 0x1FF#32 && t.seg.cs.limit == 0x1FF#32) = true := by decide +kernel

/-- Level 0 with DS a read-only data segment and ES a readable code segment. -/
def readOnly : State :=
  { flat 0#2 with seg := { (flat 0#2).seg with ds := flatSeg 0x10#16 1#4 0#2, es := flatSeg 8#16 11#4 0#2 } }

theorem test_leaving_protected_mode : -- R713, R709: the read-only attributes stay, and stay over a load of DS; writes through CS pass
    next (exec (.movCdRd 0#3 .ax) readOnly) (fun t => !t.protectedMode && t.cpl == 0#2 && t.seg == readOnly.seg &&
      raises (locate .ds 0x200#32 1 true t) ⟨13#8, .sel 0#16⟩ && ok (locate .ds 0x200#32 1 false t) (fun l _ => l == [0x200#32]) &&
      ok (locate .cs 0x200#32 1 true t) (fun l _ => l == [0x200#32]) &&
      ok (loadSeg .ds 0x20#16 t) (fun _ u => raises (locate .ds 0#32 1 true u) ⟨13#8, .sel 0#16⟩ &&
        ok (locate .ds 0#32 1 false u) (fun l _ => l == [0x200#32]))) = true := by decide +kernel

theorem test_decode_at_reset : -- the first instruction after reset runs at FFFFFFF0H
    next (step (State.reset.withFetchWord 40 0xF000E05BEA)) (fun t => t.eip == 0xE05B#32 && t.seg.cs.sel == 0xF000#16 && t.seg.cs.base == 0xF0000#32) = true := by
  decide +kernel

/-! ## Witnesses: concrete states and operands that meet the hypotheses of each statement -/

theorem witness_LocatingAnOperandInAPlainState : -- both outcomes of the segment check, at a segment's last byte and just past it; a device
    let io := { flat 0#2 with plat := { (flat 0#2).plat with memMap := [⟨0x300#32, 0x30F#32, .device⟩] } }
    (real.plain && (flat 3#2).plain && real.segOk .ds 0xFFFF#32 1 .read && !real.segOk .ds 0xFFFF#32 2 .write &&
     !(flat 0#2).segOk .cs 0x200#32 4 .write && io.direct && !io.plain && io.kindAt 0x30F#32 == .device && io.kindAt 0x310#32 == .ram &&
     (locked (flat 0#2)).direct) = true ∧
    (let s := { readOnly with cr0 := { readOnly.cr0 with PE := false } } -- real-address mode, read-only attributes left
     (!s.protectedMode && !real.protectedMode && !s.segOk .ds 0#32 1 .write && s.segOk .ds 0#32 1 .read && !s.segOk .es 0#32 1 .write &&
      s.segOk .cs 0#32 1 .write && s.segOk .ss 0xFFFFFFFF#32 1 .write && real.segOk .ds 0xFFFF#32 1 .write &&
      !real.segOk .cs 0x10000#32 1 .fetch)) = true := by decide +kernel

/-- Paging on: directory at 6000H, table at 7000H, linear page 0 to frame 5; nothing is cached. -/
def paged : State :=
  let s := put (put (flat 0#2) 0x6000 0x7007#32) 0x7000 0x5007#32
  { s with cr3 := 6#20, cr0 := { s.cr0 with PG := true }, plat := { s.plat with tlbFills := false } }

theorem witness_PageTranslation : -- success, an absent page, a protected page, and a cached one
    let s := put (put paged 0x7004 0x5000#32) 0x7008 0x5001#32
    let e : TlbEntry := ⟨true, 0#20, false, true, true, 0x55#20, true⟩
    let c := { paged with tlb := paged.tlb.set (tlbIndex 2 0#20) e }
    let rom := { paged with plat := { paged.plat with memMap := [⟨0x6000#32, 0x6003#32, .rom⟩] } }
    let ram (la : BitVec 32) : Bool :=
      (Loc.from (s.pdeAddr la) 4 ++ Loc.from (pteAddr (s.phys32 (s.pdeAddr la)) la) 4).all fun a => s.kindAt a == .ram
    ((flat 0#2).cr0.PG == false && ok (translate 0x123#32 true false paged) (fun pa t => pa == 0x5123#32 && t.phys32 0x7000#32 == 0x5067#32) &&
     s.cr0.PG && Memory.wf s.mem && s.tlbMatches 0#20 == [] && ram 0x123#32 && ram 0x1000#32 && ram 0x2FFF#32 &&
     !(s.phys32 0x7004#32).getLsbD 0 && raises (translate 0x1000#32 false true s) ⟨14#8, .page false false true⟩ &&
     (s.phys32 0x7008#32).getLsbD 0 && raises (translate 0x2FFF#32 true true s) ⟨14#8, .page true true true⟩ &&
     c.tlbMatches 0#20 == [(2, e)] && (Loc.from (rom.pdeAddr 0x123#32) 4).all (fun a => rom.kindAt a == .rom) &&
     ok (translate 0x123#32 true false rom) (fun pa t => pa == 0x5123#32 && t.phys32 0x6000#32 == 0x7007#32)) = true := by decide +kernel

theorem witness_StoreThenLoad : -- across the end of the address space; and every kind of address
    let s := { flat 0#2 with plat := { (flat 0#2).plat with memMap := [⟨0x300#32, 0x300#32, .device⟩, ⟨0x301#32, 0x301#32, .rom⟩, ⟨0x302#32, 0x302#32, .nothing⟩] } }
    (Memory.wf (flat 0#2).mem && Loc.from 0xFFFFFFFE#32 4 == [0xFFFFFFFE#32, 0xFFFFFFFF#32, 0#32, 1#32] &&
     (Loc.from 0xFFFFFFFE#32 4).all (fun a => (flat 0#2).kindAt a == .ram) && s.kindAt 0x300#32 == .device && s.kindAt 0x301#32 == .rom &&
     s.kindAt 0x302#32 == .nothing && s.kindAt 0x303#32 == .ram && real.plat.memMap.isEmpty) = true ∧ (Loc.from 0xFFFFFFFE#32 4).Nodup := by
  decide +kernel

theorem witness_RegisterAliases :
    (7 / 8 ≠ (if (byteHome .sp).2 then 1 else 0)) ∧ (0 / 8 ≠ (if (byteHome .di).2 then 1 else 0)) ∧
    (31 / 8 ≠ (if (byteHome .ax).2 then 1 else 0)) ∧ Reg.cx ≠ (if Size.w = .b then (byteHome .sp).1 else .sp) := by decide +kernel

/-- An `E` form whose destination locates. -/
def locates (s : State) (sz : Size) (rm : Rm) (w : Bool) : Bool := ok (place sz rm w s) fun _ _ => true

theorem witness_AluOperations : -- memory under LOCK, and a register; then a register destination
    ((aluToForm (locked (flat 0#2)) (.addEvGv (.mem m32) .cx)).any (fun f =>
      (locked (flat 0#2)).lockOk f.rm && locates (locked (flat 0#2)) f.sz f.rm true) &&
     (aluToForm real (.sbbAlIb 0xFF#8)).any (fun f => real.lockOk f.rm && locates real f.sz f.rm true) &&
     (aluFromForm (flat 0#2) (.xorGvEv .cx (.mem m32))).any (fun f => locates (flat 0#2) f.sz f.rm false) &&
     done (exec (.addEvGv (.mem m32) .cx) (locked (flat 0#2)))) = true := by decide +kernel

theorem witness_ComparisonsAndUnaryOperations :
    ((cmpForm real (.cmpEvIb (.mem m16) 0x80#8)).any (fun f => locates real f.sz f.rm false) &&
     (cmpForm (flat 0#2) (.cmpGbEb .sp (.reg .ax))).any (fun f => locates (flat 0#2) f.sz f.rm false) &&
     (testForm (flat 0#2) (.testEvIv (.mem m32) 1#32)).any (fun f => locates (flat 0#2) f.sz f.rm false) &&
     (unaryForm (locked (flat 0#2)) (.incEv (.mem m32))).any (fun f => (locked (flat 0#2)).lockOk f.rm && locates (locked (flat 0#2)) f.sz f.rm true) &&
     (unaryForm real (.notEb (.reg .di))).any (fun f => real.lockOk f.rm && locates real f.sz f.rm true)) = true := by decide +kernel

theorem witness_Multiplications :
    ((mulForm (flat 0#2) (.imulEv (.mem m32))).any (fun f => locates (flat 0#2) f.sz f.rm false) &&
     (imulToForm (flat 0#2) (.imulGvEvIb .cx (.reg .dx) 0x80#8)).any (fun f => locates (flat 0#2) f.sz f.rm false)) = true := by decide +kernel

theorem witness_DivisionAndItsError : -- a quotient of -128 fits a byte, one of 128 does not, and a divisor of 0 never does
    ((divForm (flat 0#2) (.idivEb (.reg .cx))).any (fun f => locates (flat 0#2) f.sz f.rm false && f.fits (-128) && !f.fits 128 && !f.fits (-129)) &&
     (divForm (flat 0#2) (.divEb (.mem m32))).any (fun f => locates (flat 0#2) f.sz f.rm false && f.fits 255 && !f.fits 256) &&
     done (exec (.divEb (.reg .cx)) (eax (flat 0#2) 9#32)) && done (exec (.divEb (.reg .dx)) { flat 0#2 with idtr := ⟨0#32, 0#16⟩ })) = true := by
  decide +kernel

theorem witness_DecimalInstructions :
    ((flat 0#2).pfx.lock == false && done (exec .daa (flat 0#2)) && done (exec (.aam 10#8) (flat 0#2)) && done (exec (.aad 10#8) (flat 0#2)) &&
     done (exec (.aam 0#8) (flat 0#2)) && done (exec .aaa (flat 0#2)) && done (exec .aas (flat 0#2)) && done (exec .das (flat 0#2))) = true := by
  decide +kernel

theorem witness_MovesExchangesAndSetcc :
    ((storeForm (flat 0#2) (.movObAl 0x200#32)).any (fun f => locates (flat 0#2) f.sz f.rm true) &&
     (storeForm real (.setccEb .e (.mem m16))).any (fun f => locates real f.sz f.rm true) &&
     (loadForm (flat 0#2) (.movsxGdEw .cx (.mem m32))).any (fun f => locates (flat 0#2) f.src f.rm false) &&
     (xchgForm (locked real) (.xchgEbGb (.mem m16) .cx)).any (fun f => (locked real).lockOk f.rm && locates (locked real) f.sz f.rm true) &&
     (xchgForm (flat 0#2) (.xchgEaxReg .sp)).any (fun f => (flat 0#2).lockOk f.rm && locates (flat 0#2) f.sz f.rm true)) = true := by decide +kernel

theorem witness_PushesStoreBelowTheStackPointer : -- the last stack slot, and a wrap of the stack pointer
    ((pushForm (esp (flat 0#2) 4#32) (.pushReg .sp)).isSome &&
     ok (locate .ss ((esp (flat 0#2) 4#32).below 4) 4 true (esp (flat 0#2) 4#32)) (fun _ _ => true) &&
     ok (locate .ss ((esp real 0#32).below 2) 2 true (esp real 0#32)) (fun l _ => l == [0xFFFE#32, 0xFFFF#32]) &&
     ok (place (flat 0#2).osz (.mem m32) false (flat 0#2)) (fun _ s1 => ok (locate .ss ((flat 0#2).below 4) 4 true s1) fun _ _ => true)) = true := by
  decide +kernel

theorem witness_PopsReadAtTheStackPointer :
    (ok (locate .ss (esp real 0xFFFE#32).stackPtr 2 false (esp real 0xFFFE#32)) (fun _ s1 =>
      ok (place .w (.mem m16) true (s1.setStackPtr ((esp real 0xFFFE#32).above 2))) fun _ _ => true) &&
     real.osz == .w && done (exec .popf real) && done (exec (.popReg .sp) real)) = true := by decide +kernel

theorem witness_PushAllAndPopAll : -- the lowest and the highest place; SP = 5 (shutdown), 7 and 15 (interrupt 13), 14 and 2
  -- (a frame that wraps: interrupt 12), 16 (fits); POPA past the end
    let a := esp (flat 0#2) 32#32
    let b := esp (flat 0#2) 0xFFFFFFE0#32
    let fits (s : State) : Bool := s.segOk .ss (s.below (8 * s.osz.bytes)) (8 * s.osz.bytes) .write
    let holds (s : State) : Bool := s.segOk .ss s.stackPtr (8 * s.osz.bytes) .read
    let wide := { esp real 2#32 with pfx := { real.pfx with opsize := true } }
    (a.plain && a.protectedMode && b.plain && fits a && holds b && !holds (esp real 0xFFF1#32) && holds (esp real 0xFFF0#32) &&
     a.osz == .d && done (exec .pusha a) && done (exec .popa b) && real.osz == .w && !real.protectedMode && (esp real 5#32).plain &&
     next (exec .pusha (esp real 5#32)) (fun t => t.run == .shutdown) && !fits (esp real 14#32) && !fits (esp real 7#32) &&
     wide.osz == .d && wide.plain && !fits wide && fits (esp real 16#32) && done (exec .pusha (esp real 7#32)) && done (exec .pusha (esp real 15#32)) &&
     done (exec .pusha wide) && !fits (esp wide 17#32)) = true := by decide +kernel

theorem witness_AccumulatorAndTableForms :
    ((flat 0#2).attrs.o32 && !real.attrs.o32 && done (exec .lahf real) && done (exec (.leaGvM .cx (.mem m32)) (flat 0#2)) &&
     done (exec (.leaGvM .cx (.reg .ax)) tables) &&
     ok (locate ((flat 0#2).segFor .ds) ((flat 0#2).gpr.ebx + ((flat 0#2).reg .b .ax).setWidth 32) 1 false (flat 0#2)) (fun _ _ => true) &&
     ok (locate (real.segFor .ds) (((real.reg .w .bx) + (real.reg .b .ax).setWidth 16).setWidth 32) 1 false real) (fun _ _ => true)) = true := by
  decide +kernel

theorem witness_FlagControlInstructions : real.pfx.lock = false ∧ (flat 3#2).pfx.lock = false ∧ (locked real).pfx.lock = true ∧
    .cmc ∈ [Instr.stc, .clc, .cmc, .cld, .std] := by decide +kernel

theorem witness_ShiftsAndRotates : -- counts 0 and 32, then 1 and 31
    ((shiftForm (flat 0#2) (.shlEvIb (.mem m32) 32#8)).any (fun f => f.count.toNat % 32 == 0) &&
     (shiftForm real (.rclEb1 (.reg .sp))).any (fun f => f.count.toNat % 32 == 1 && locates real f.sz f.rm true) &&
     (shiftForm (flat 0#2) (.sarEvIb (.mem m32) 0x1F#8)).any (fun f => f.count.toNat % 32 == 31 && locates (flat 0#2) f.sz f.rm true)) = true := by
  decide +kernel

theorem witness_ShiftsInClosedForm : 0 < 1 ∧ 32 ≤ Size.d.bits ∧ ¬ 33 ≤ Size.d.bits := by decide

theorem witness_DoubleShifts : -- counts 0, the width, and above it
    ((doubleForm real (.shldEvGvIb (.reg .ax) .cx 0x20#8)).any (fun f => f.count.toNat % 32 == 0) &&
     (doubleForm real (.shrdEvGvIb (.mem m16) .cx 16#8)).any (fun f => f.count.toNat % 32 == real.osz.bits && locates real real.osz f.rm true) &&
     (doubleForm (ecx real 17#32) (.shldEvGvCl (.mem m16) .cx)).any (fun f => decide (real.osz.bits < f.count.toNat % 32) && locates real real.osz f.rm true)) = true := by
  decide +kernel

theorem witness_BitTestsAndScans :
    ((bitForm (flat 0#2) (.btEvIb (.mem m32) 31#8)).any (fun f => f.op == .test && f.bitNo == 31 && locates (flat 0#2) .d f.rm false) &&
     (bitForm (locked (flat 0#2)) (.btcEvIb (.mem m32) 32#8)).any (fun f => f.bitNo == 0 && (locked (flat 0#2)).lockOk f.rm && locates (flat 0#2) .d f.rm true) &&
     (bitForm real (.btsEvGv (.reg .ax) .cx)).any (fun f => real.lockOk f.rm && locates real .w f.rm true) &&
     (bitStringForm (.btrEvGv (.mem m32) .ax)).isSome &&
     ok (locate .ds 0x1FC#32 4 true (flat 0#2)) (fun _ _ => true) && done (exec (.btrEvGv (.mem m32) .ax) (eax (flat 0#2) 0xFFFFFFFF#32)) &&
     locates (flat 0#2) .d (.mem m32) false && done (exec (.bsfGvEv .cx (.mem m32)) (flat 0#2)) &&
     next (exec (.bsrGvEv .cx (.reg .ax)) (eax (flat 0#2) 0x80000000#32)) (fun t => t.gpr.ecx == 31#32)) = true := by
  decide +kernel

/-- The code segment ends at 1FFH. -/
def shortCode (s : State) : State := { s with seg := { s.seg with cs := { s.seg.cs with limit := 0x1FF#32 } } }

theorem witness_NearJumpsAndLoops : -- not taken; the last offset of the segment; one past it; and the same for loops
    ((jumpForm (flat 0#2) (.jccJb .e 0#8)).any (fun f => !f.taken) &&
     (jumpForm (shortCode (flat 0#2)) (.jmpJv 0xFD#32)).any (fun f => f.taken && (shortCode (flat 0#2)).inCode ((flat 0#2).nearOffset f.target)) &&
     (jumpForm (shortCode (flat 0#2)) (.jmpJv 0xFE#32)).any (fun f => f.taken && !(shortCode (flat 0#2)).inCode ((flat 0#2).nearOffset f.target)) &&
     (loopForm (ecx (flat 0#2) 1#32) (.loop 0xFE#8)).isSome && (loopForm (ecx (flat 0#2) 2#32) (.loope 0#8)).any (fun x => !x.2) &&
     (loopForm (ecx (flat 0#2) 2#32) (.loopne 0#8)).any (fun x => x.2) && locates (flat 0#2) .d (.mem m32) false) = true := by decide +kernel

theorem witness_NearCallsAndReturns :
    ((flat 0#2).inCode ((flat 0#2).nearOffset ((flat 0#2).eipNext + 0x10#32)) &&
     ok (locate .ss ((flat 0#2).below 4) 4 true (flat 0#2)) (fun _ _ => true) &&
     ok (place .d (.mem m32) false (flat 0#2)) (fun p s1 => (flat 0#2).inCode ((flat 0#2).nearOffset ((s1.valueAt .d p).setWidth 32)) &&
       ok (locate .ss ((flat 0#2).below 4) 4 true s1) fun _ _ => true) &&
     ok (locate .ss ((flat 0#2).above 0) 4 false (flat 0#2)) (fun l s1 => (flat 0#2).inCode ((flat 0#2).nearOffset ((s1.load 32 l).setWidth 32)))) = true := by
  decide +kernel

theorem witness_SoftwareInterruptsAndBound :
    let o := { real with flags := { real.flags with OF := true } }
    ((interruptForm o .into).isSome && ok (deliverOnce ⟨4#8, .software, .none, o.eipNext, false⟩ o) (fun _ _ => true) &&
     (interruptForm real .int3).isSome && (interruptForm real (.intIb 0x20#8)).isSome && (interruptForm real .into).isNone &&
     ok (locate (real.memSeg m16) (memEa real.gpr m16) (2 * real.osz.bytes) false real) (fun _ _ => true) &&
     done (exec (.boundGvMa .dx (.mem m16)) real) && done (exec (.boundGvMa .ax (.mem m16)) real) && done (exec (.boundGvMa .ax (.reg .ax)) real)) = true := by
  decide +kernel

theorem witness_StringRepetition : -- no prefix; a count of 0; of 1; of 2; and a comparison that ends it
    let s := flat 0#2
    ((stringForm s .movsb).any (fun f => ok (f.element s) fun _ _ => true) &&
     (stringForm (rep s .rep 0#32) .stosv).isSome && (rep s .rep 0#32).reg .d .cx == 0#32 &&
     (stringForm (rep s .rep 1#32) .lodsb).any (fun f => ok (f.element (rep s .rep 1#32)) fun _ _ => true) &&
     (stringForm (rep s .repne 2#32) .scasb).any (fun f => f.compares && ok (f.element (rep s .repne 2#32)) fun _ t => !t.flags.ZF) &&
     (stringForm (rep s .rep 2#32) .cmpsv).any (fun f => f.compares && ok (f.element (rep s .rep 2#32)) fun _ t => t.flags.ZF) &&
     (stringForm s .insb).any (fun f => ok (f.element s) fun _ _ => true) && (stringForm s .outsv).any (fun f => ok (f.element s) fun _ _ => true)) = true := by
  decide +kernel

theorem witness_StringElementEffects : -- the last byte of a segment passes its check
    let top := { real with gpr := { real.gpr with esi := 0xFFFF#32, edi := 0xFFFF#32 } }
    ((stringForm (flat 0#2) .movsv).isSome && (stringResult (flat 0#2) .movsv).isSome && (flat 0#2).plain && stringAccess (flat 0#2) .movsv &&
     (stringResult top .cmpsb).isSome && stringAccess top .cmpsb && top.plain &&
     top.segOk .es (top.index .di) 1 .write && top.segOk (top.segFor .ds) (top.index .si) 1 .read &&
     decide ((flat 0#2).cpl.toNat ≤ (flat 0#2).flags.IOPL.toNat)) = true := by decide +kernel

theorem witness_StackFrames : -- level 0 (from 32), level 1, and level 31
    let s := flat 0#2
    let e (k : Nat) : Bool :=
      (List.range (k + 1)).all (fun j => s.segOk .ss (s.below ((j + 1) * 4)) 4 .write) &&
      (List.range k).all fun j => s.segOk .ss (wrapOff s.ssz32 (s.gpr.ebp - BitVec.ofNat 32 (j * 4))) 4 .read
    (ok (locate .ss (s.below 4) 4 true s) (fun l s1 =>
      let t := (s1.store l (s.reg .d .bp)).setStackPtr (s.below 4)
      let u := (t.setReg .d .bp (t.stackPtr.setWidth 32)).setStackPtr (t.below 0x7FC)
      u.seg.ss.inLimit u.stackPtr 0x7FC) &&
     ok (locate .ss (s.setStackPtr (wrapOff s.ssz32 s.gpr.ebp)).stackPtr 4 false (s.setStackPtr (wrapOff s.ssz32 s.gpr.ebp))) (fun _ _ => true) &&
     (0x20#8).toNat % 32 == 0 && done (exec (.enter 0x7FC#16 0x20#8) s) && done (exec .leave s) && s.plain && e 1 && e 31 &&
     next (exec (.enter 8#16 1#8) s) (fun t => t.gpr.ebp == 0x7FC#32 && t.gpr.esp == 0x7F0#32 && t.phys32 0x7F8#32 == 0x7FC#32) &&
     next (exec (.enter 0#16 0xFF#8) s) (fun t => t.gpr.esp == 0x780#32)) = true := by decide +kernel

theorem witness_CoprocessorInstructions :
    let em := { tables with cr0 := { tables.cr0 with EM := true } }
    let there := { tables with plat := { tables.plat with coprocessor := .i387 } }
    let ts := { tables with cr0 := { tables.cr0 with TS := true, MP := true } }
    let busy := { tables with pins := { tables.pins with busy := true } }
    let err := { tables with pins := { tables.pins with error := true } }
    (done (exec (.esc 0#3 0#3 (.mem m32)) em) && done (exec (.esc 0#3 0#3 (.mem m32)) ts) && !there.pins.error && there.plat.coprocessor != .absent &&
     !there.cr0.EM && !there.cr0.TS && there.plain && there.segOk .ds 0x200#32 108 .read && there.segOk .ds 0x200#32 108 .write &&
     refuses (exec (.esc 0#3 0#3 (.mem m32)) tables) .coprocessorAbsent && done (exec .wait ts) && done (exec .wait busy) && done (exec .wait err) &&
     done (exec .wait tables) &&
     -- an operand below the limit, one whose first byte is past it, one that wraps in real mode, and one that wraps round 4 gigabytes
     real.plain && ok (copOperand .ds 0xFFF2#32 14 false real) (fun l _ => l == Loc.from 0xFFF2#32 14) &&
     raises (copOperand .ds 0x10000#32 2 false real) ⟨13#8, .sel 0#16⟩ &&
     (match copOperand .ds 0xFFFF#32 2 false real with | .error (.abort _) _ => true | _ => false) &&
     raises (copOperand .ds 0xFFFFFFFF#32 2 false (flat 0#2)) ⟨13#8, .sel 0#16⟩) = true := by decide +kernel

theorem witness_NopPrefixesAndUndefinedOpcodes : -- LOCK before a form it may not precede, a register destination, and one it may
    ((flat 0#2).pfx.lock == false && (locked (flat 0#2)).pfx.lock && (prefixForm .prefixLock).isSome && (prefixForm .prefixRepne).isSome &&
     done (exec .nop (flat 0#2)) && (prefixForm .nop).isNone && !lockableForm .nop && !lockableForm (.addEvGv (.reg .ax) .cx) &&
     lockableForm (.addEvGv (.mem m32) .cx) && !lockableForm (.btEvGv (.mem m32) .cx) && done (exec .nop (locked tables)) &&
     done (exec .undef82 tables)) = true := by decide +kernel

theorem witness_SegmentRegisterMovesAndFarPointers :
    let s := put tables 0x204 0x10#32
    (SReg.ofCode? 5#3 == some .gs && SReg.ofCode? 1#3 == some .cs && SReg.ofCode? 6#3 == none &&
     ok (place .w (.mem m32) true tables) (fun _ _ => true) &&
     ok (place .w (.reg .cx) false (ecx tables 0x10#32)) (fun p s1 => ok (loadSeg .ss (s1.valueAt .w p) s1) fun _ _ => true) &&
     (pushSegForm .pushGs).isSome && ok (locate .ss (tables.below 4) 4 true (tables.drawn 1)) (fun _ _ => true) &&
     (popSegForm .popSs).isSome && ok (locate .ss (tables.above 0) 4 false (put tables 0x800 0x10#32)) (fun l s1 =>
       ok (loadSeg .ss ((s1.load 32 l).setWidth 16) s1) fun _ _ => true) &&
     s.farPtrOk m32 && !s.farPtrOk (.a32 none none 0xFFFFFFFC#32) && real.farPtrOk (.a16 .none 0xFFFE#16) && !real.farPtrOk (.a16 .none 0xFFFD#16) &&
     (farPtrForm (.lssGvMp .cx (.mem m32))).isSome && (farPtrForm (.ldsGvMp .cx (.reg .ax))).isSome &&
     ok (locate .ds (memEa s.gpr m32) 4 false s) (fun _ s1 => ok (locate .ds (memEaPlus s.gpr m32 4) 2 false s1) fun l1 s2 =>
       ok (loadSeg .ss (s2.load 16 l1) s2) fun _ _ => true)) = true := by decide +kernel

theorem witness_SegmentLoads : -- real mode; a null selector; the last entry of the GDT and the first beyond it; data and stack loads
    (real.plain && !real.protectedMode && tables.plain && tables.protectedMode && nullSel 3#16 && !nullSel 4#16 &&
     tables.entryAddr 0x38#16 == some 0x1038#32 && tables.entryAddr 0x40#16 == none &&
     (tables.descAt 0x1010#32).isReadable && (tables.descAt 0x1010#32).isWritableData && (tables.descAt 0x1010#32).dpl == 0#2 &&
     (tables.descAt 0x1010#32).p && (tables.descAt 0x1010#32).hi.getLsbD 8 && rplOf 0x10#16 == 0#2) = true := by decide +kernel

theorem witness_FailingSegmentLoads : -- a system segment, an absent one, a more privileged one; for SS code, an absent one; MOV, POP, LDS
    let s := tables
    let absent := put tables 0x1014 0x00CF1300#32
    let p := put tables 0x204 0x18#32
    (!(s.descAt 0x1018#32).isReadable && raises (loadSeg .ds 0x18#16 s) ⟨13#8, .sel 0x18#16⟩ &&
     (s.descAt 0x1028#32).isReadable && (s.descAt 0x1028#32).dpl == 0#2 && !(s.descAt 0x1028#32).p &&
     raises (loadSeg .gs 0x28#16 s) ⟨11#8, .sel 0x28#16⟩ && levels.plain && (levels.descAt 0x1010#32).dpl == 0#2 &&
     raises (loadSeg .es 0x13#16 levels) ⟨13#8, .sel 0x10#16⟩ && !(s.descAt 0x1008#32).isWritableData &&
     raises (loadSeg .ss 8#16 s) ⟨13#8, .sel 8#16⟩ && absent.plain && (absent.descAt 0x1010#32).isWritableData &&
     !(absent.descAt 0x1010#32).p && raises (loadSeg .ss 0x10#16 absent) ⟨12#8, .sel 0x10#16⟩ &&
     raises (loadSeg .ds ((ecx s 0x18#32).valueAt .w (.reg .cx)) (ecx s 0x18#32)) ⟨13#8, .sel 0x18#16⟩ &&
     done (exec (.movSwEw 3#3 (.reg .cx)) (ecx s 0x18#32)) &&
     ok (locate .ss (s.above 0) 4 false (put s 0x800 8#32)) (fun l s1 => raises (loadSeg .ss ((s1.load 32 l).setWidth 16) s1) ⟨13#8, .sel 8#16⟩) &&
     ok (locate .ds (memEa p.gpr m32) 4 false p) (fun _ s1 => ok (locate .ds (memEaPlus p.gpr m32 4) 2 false s1) fun l1 s2 =>
       raises (loadSeg .ds (s2.load 16 l1) s2) ⟨13#8, .sel 0x18#16⟩)) = true := by decide +kernel

theorem witness_FarTransfersInRealMode : -- the last offset of the code segment, and one past it; a stack that wraps at 64K
    let n := real.osz.bytes
    let r := esp real 0xFFFE#32
    let pushes (s : State) : Bool := ok (locate .ss (s.below n) n true s) fun l t =>
      ok (locate .ss (s.below (2 * n)) n true ((t.store l 0x1000#16).setStackPtr (s.below n))) fun _ _ => true
    (!real.protectedMode && real.segOk .ds 0x200#32 (n + 2) .read && !real.segOk .ds 0xFFFD#32 (n + 2) .read && n == 2 && real.inCode 0xFFFF#32 && !real.inCode 0x10000#32 && pushes (real.drawn 1) && pushes (esp real 2#32) &&
     ok (locate .ds (memEa real.gpr m16) n false real) (fun l0 u0 => real.inCode ((u0.load 16 l0).setWidth 32) &&
       ok (locate .ds (memEa real.gpr m16 + BitVec.ofNat 32 n) 2 false u0) fun _ u => pushes (u.drawn 1)) &&
     ok (locate .ss (r.above 0) n false r) (fun _ t0 => ok (locate .ss (r.above n) n false t0) fun l1 _ => l1 == [0#32, 1#32]) &&
     done (exec .retFar r) && done (exec (.callFarAp 0xFFFF#32 0x1000#16) (esp real 2#32)) && done (exec (.jmpFarMp (.mem m16)) real) &&
     done (exec (.callFarMp (.reg .ax)) real)) = true := by decide +kernel

theorem witness_FarTransfersInProtectedMode : -- present and in the limit, absent, past the limit, conforming; no room; both kinds of RET
    let s := tables
    let c := put levels 0x204 0x2B#32
    let back := put s 0x804 8#32
    let out := put (put (put (put { levels with cpl := 0#2 } 0x800 0x180#32) 0x804 0x1B#32) 0x808 0x700#32) 0x80C 0x23#32
    (s.protectedMode && s.plain && nullSel 2#16 && !nullSel 8#16 && s.entryAddr 0x30#16 == some 0x1030#32 &&
     (s.descAt 0x1030#32).isCode && !(s.descAt 0x1030#32).isConforming && (s.descAt 0x1030#32).dpl == s.cpl &&
     (s.descAt 0x1030#32).p && (s.descAt 0x1030#32).limit == 0x1FF#32 && s.entryAddr 0x28#16 == some 0x1028#32 && (s.descAt 0x1028#32).isCode &&
     !(s.descAt 0x1028#32).p && s.segOk .ss (s.below 8) 8 .write && done (exec (.callFarAp 0x1FF#32 0x30#16) s) &&
     !({ s with seg := { s.seg with ss := { s.seg.ss with limit := 0x7F7#32 } } }).room 8 && c.plain && c.entryAddr 0x2B#16 == some 0x1028#32 &&
     (c.descAt 0x1028#32).isConforming && c.segOk .ds 0x200#32 6 .read && !c.segOk .ds 0xFFFFFFFC#32 6 .read &&
     next (exec (.jmpFarMp (.mem m32)) c) (fun t => t.seg.cs.sel == 0x2B#16 && t.cpl == 3#2) &&
     back.segOk .ss back.stackPtr 8 .read && next (exec (.retFarIw 8#16) back) (fun t => t.gpr.esp == 0x810#32) &&
     out.plain && out.segOk .ss out.stackPtr 16 .read && rplOf 0x1B#16 == 3#2 && out.entryAddr 0x1B#16 == some 0x1018#32 &&
     out.entryAddr 0x23#16 == some 0x1020#32 && (out.descAt 0x1020#32).isWritableData && (out.descAt 0x1020#32).dpl == 3#2 &&
     next (exec .retFar out) (fun t => t.cpl == 3#2 && t.gpr.esp == 0x700#32 && t.seg.ss.sel == 0x23#16 && t.eip == 0x180#32)) = true := by
  decide +kernel

theorem witness_FailingFarTransfers : -- out of table, privilege, data, system; RET: no room, inner, null, wrong type, outer failures
    let s := tables
    let ret (v : BitVec 32) : State := put s 0x804 v
    let out := put (put (put (put { levels with cpl := 0#2 } 0x800 0x180#32) 0x804 0x1B#32) 0x808 0x700#32) 0x80C 0x23#32
    let cut := { out with seg := { out.seg with ss := { out.seg.ss with limit := 0x80B#32 } } }
    let selOf (t : State) : BitVec 16 := t.load 16 (t.bytesAt .ss (t.above 4) 2)
    (!nullSel 0x40#16 && s.entryAddr 0x40#16 == none && levels.entryAddr 8#16 == some 0x1008#32 && (levels.descAt 0x1008#32).isCode &&
     !(levels.descAt 0x1008#32).isConforming && (levels.descAt 0x1008#32).dpl != levels.cpl && (s.descAt 0x1010#32).s &&
     !(s.descAt 0x1010#32).isCode && !(s.descAt 0x1018#32).s && (s.descAt 0x1018#32).typ == 2#4 &&
     done (exec (.jmpFarAp 0#32 0x40#16) s) && done (exec (.callFarAp 0#32 0x18#16) s) &&
     !(esp s 0xFFFFFFFC#32).segOk .ss 0xFFFFFFFC#32 8 .read && (rplOf (selOf (put levels 0x804 8#32))).toNat < levels.cpl.toNat &&
     nullSel (selOf (ret 0#32)) && s.entryAddr (selOf (ret 0x40#32)) == none && !(s.descAt 0x1010#32).isCode && selOf (ret 0x10#32) == 0x10#16 &&
     done (exec .retFar (ret 0x10#32)) && out.plain && (out.descAt 0x1018#32).isCode && (out.descAt 0x1018#32).dpl == 3#2 && out.cpl == 0#2 &&
     !((put out 0x101C 0x00CF7B00#32).descAt 0x1018#32).p && cut.segOk .ss cut.stackPtr 8 .read && !cut.segOk .ss cut.stackPtr 16 .read &&
     nullSel ((put out 0x80C 0#32).load 16 (out.bytesAt .ss (out.above 12) 2)) && (out.descAt 0x1010#32).dpl != 3#2 &&
     !((put out 0x1024 0x00CF7300#32).descAt 0x1020#32).p && ((put (put out 0x1018 0x17F#32) 0x101C 0x0040FB00#32).descAt 0x1018#32).limit == 0x17F#32 &&
     done (exec (.retFarIw 0#16) (put out 0x80C 0x13#32))) = true := by decide +kernel

theorem witness_CallGates : -- a gate to an inner level with a parameter, and one to the same level
    let s := levels
    (s.protectedMode && s.plain && !nullSel 0x33#16 && s.entryAddr 0x33#16 == some 0x1030#32 && (s.descAt 0x1030#32).isSystem 0xC#4 &&
     (s.descAt 0x1030#32).dpl == 3#2 && (s.descAt 0x1030#32).p && (s.descAt 0x1030#32).gateSel == 8#16 && s.entryAddr 8#16 == some 0x1008#32 &&
     (s.descAt 0x1008#32).isCode && (s.descAt 0x1008#32).p && (s.descAt 0x1008#32).dpl == 0#2 && decide (11 ≤ s.tr.limit.toNat) &&
     s.load 16 (Loc.from 0x3008#32 2) == 0x10#16 && s.entryAddr 0x10#16 == some 0x1010#32 && (s.descAt 0x1010#32).isWritableData &&
     ((s.descAt 0x1010#32).toSeg 0x10#16).inLimit 0x8EC#32 20 && s.segOk .ss s.stackPtr 4 .read &&
     next (exec (.callFarAp 0#32 0x33#16) s) (fun t => t.cpl == 0#2 && t.gpr.esp == 0x8EC#32 && t.eip == 0x180#32 && t.seg.cs.sel == 8#16) &&
     s.entryAddr 0x3B#16 == some 0x1038#32 && (s.descAt 0x1038#32).isSystem 0xC#4 && s.segOk .ss (s.below 8) 8 .write &&
     next (exec (.callFarAp 0#32 0x3B#16) s) (fun t => t.cpl == 3#2 && t.gpr.esp == 0x7F8#32) && done (exec (.jmpFarAp 0#32 0x3B#16) s)) = true := by
  decide +kernel

theorem witness_TableRegisterInstructions :
    (ok (locate .ds (memEa gprs m32) 2 false tables) (fun _ s1 => ok (locate .ds (memEa gprs m32 + 2#32) 4 false s1) fun _ _ => true) &&
     ok (locate .ds (memEa gprs m32) 2 true tables) (fun _ s1 => ok (locate .ds (memEa gprs m32 + 2#32) 4 true s1) fun _ _ => true) &&
     tables.segOk .ds 0x200#32 6 .read && !tables.segOk .ds 0xFFFFFFFB#32 6 .read && tables.segOk .ds 0xFFFFFFFA#32 6 .write &&
     tables.cpl == 0#2 && done (exec (.lgdtMs (.mem m32)) tables) && done (exec (.sidtMs (.mem m16)) real) && done (exec (.sgdtMs (.reg .ax)) real)) = true := by
  decide +kernel

theorem witness_SystemRegisterAndTaskRegisterInstructions :
    (tables.protectedMode && !real.protectedMode && tables.plain && tables.cpl == 0#2 && locates tables .w (.mem m32) true &&
     ok (place .w (.reg .cx) false tables) (fun _ t => t == tables) && locates (tables.drawn 1) .w (.mem m32) true &&
     !nullSel 0x18#16 && !tiOf 0x18#16 && tables.entryAddr 0x18#16 == some 0x1018#32 && (tables.descAt 0x1018#32).isSystem 2#4 && (tables.descAt 0x1018#32).p &&
     tables.entryAddr 0x20#16 == some 0x1020#32 && (tables.descAt 0x1020#32).isSystem 9#4 && (tables.descAt 0x1020#32).p &&
     done (exec (.smswEw (.reg .ax)) real) && done (exec (.lmswEw (.reg .cx)) real) && done (exec .clts real)) = true := by decide +kernel

theorem witness_SelectorTests : -- null, beyond the table, failing, passing, an accessed bit to set; ARPL with equal and rising RPLs
    let s := tables
    let u := put s 0x1014 0x00CF9200#32
    ((selectorForm (.lslGvEw .cx (.reg .dx))).isSome && locates s .w (.reg .dx) false && nullSel 0#16 && s.entryAddr 0x40#16 == none &&
     ok (fetchDesc 0x10#16 s) (fun d _ => d.any fun d => SelectorTest.verw.passes s.cpl 0#2 d.hi && SelectorTest.lar.passes s.cpl 0#2 d.hi && d.hi.getLsbD 8) &&
     ok (fetchDesc 8#16 s) (fun d _ => d.any fun d => !SelectorTest.verw.passes s.cpl 0#2 d.hi && SelectorTest.verr.passes s.cpl 0#2 d.hi &&
       SelectorTest.lsl.passes s.cpl 0#2 d.hi) &&
     u.plain && u.plat.seltestSetsAccessed && next (exec (.verwEw (.reg .cx)) (ecx u 0x10#32)) (fun t => t.flags.ZF && t.phys32 0x1014#32 == 0x00CF9300#32) &&
     done (exec (.arplEwGw (.reg .ax) .cx) s) && done (exec (.arplEwGw (.mem m32) .cx) (ecx s 3#32)) &&
     ok (place .w (.mem m32) false s) (fun _ s1 => ok (place .w (.mem m32) true s1) fun _ _ => true)) = true := by decide +kernel

theorem witness_ControlRegisterMoves : -- PG and PE both, PG alone, neither
    ((tables.reg .d .ax).getLsbD 31 == false && (eax tables 0x80000001#32).gpr.eax.getLsbD 0 && done (exec (.movCdRd 0#3 .ax) tables) &&
     (eax tables 0x80000000#32).gpr.eax.getLsbD 31 && !(eax tables 0x80000000#32).gpr.eax.getLsbD 0 && done (exec (.movCdRd 0#3 .ax) (eax tables 0x80000000#32)) &&
     done (exec (.movRdCd .cx 0#3) real) && done (exec (.movCdRd 3#3 .cx) real) && done (exec (.movCdRd 7#3 .cx) tables)) = true := by decide +kernel

theorem witness_DebugAndTestRegisterMoves :
    (tables.cpl == 0#2 && !tables.plat.iceInUse && done (exec (.movDdRd 7#3 .ax) tables) && done (exec (.movRdDd .ax 6#3) tables) &&
     done (exec (.movDdRd 4#3 .ax) tables) && done (exec (.movRdTd .ax 6#3) tables) && done (exec (.movTdRd 7#3 .ax) tables) &&
     (ecx tables 1#32).gpr.ecx.getLsbD 0 && !tables.gpr.eax.getLsbD 0 && done (exec (.movRdTd .ax 5#3) tables)) = true := by decide +kernel

theorem witness_TlbWriteThenLookup :
    let c : BitVec 32 := 0x12345#20 ++ 1#1 ++ bit true ++ bit (!true) ++ bit true ++ bit (!true) ++ bit false ++ bit (!false) ++ 0#5
    let s := { tables with tr7 := 0x54321#20 ++ 0#7 ++ 1#1 ++ 3#2 ++ 0#2 }
    s.tlb.length = 32 ∧ (∀ k < 4, k ≠ (3#2).toNat → (s.tlb.getD (tlbIndex k 0x12345#20) TlbEntry.empty).v = false) ∧
    ok (tlbWrite c s) (fun _ t => ok (tlbLookup (c ||| 1#32) t) fun _ u => u.tr7 == s.tr7) = true := by decide +kernel

theorem witness_HaltAndInterruptFlag : -- CPL equal to IOPL, and one above it
    let s (c i : BitVec 2) := { flat c with flags := { Eflags.afterReset with IOPL := i } }
    ((flat 0#2).cpl == 0#2 && decide ((s 3#2 3#2).cpl.toNat ≤ (s 3#2 3#2).flags.IOPL.toNat) && (s 3#2 2#2).protectedMode &&
     decide ((s 3#2 2#2).flags.IOPL.toNat < (s 3#2 2#2).cpl.toNat) && done (exec .sti (s 3#2 3#2)) && done (exec .hlt (flat 0#2))) = true := by
  decide +kernel

theorem witness_PortInstructions : -- without the map; a port the map grants, its last one, and one past the limit
    let s := put (put levels 0x3064 0x00660000#32) 0x3068 0#32
    ((portForm real (.inAlIb 0xFF#8)).any (fun f => ok (ioCheck f.port f.sz.bytes real) fun _ _ => true) &&
     (portForm (flat 0#2) .outDxEax).any (fun f => !f.input && ok (ioCheck f.port f.sz.bytes (flat 0#2)) fun _ _ => true) &&
     done (exec .inEaxDx real) && done (exec .outDxEax (flat 0#2)) && s.plain && s.protectedMode && decide (s.flags.IOPL.toNat < s.cpl.toNat) &&
     raises (ioCheck 1#16 1 s) ⟨13#8, .sel 0#16⟩ && ok (ioCheck 0#16 1 s) (fun _ _ => true) && (portForm s (.inAlIb 1#8)).isSome && raises (ioCheck 16#16 1 s) ⟨13#8, .sel 0#16⟩ &&
     ok (ioCheck 8#16 1 { s with tr := { s.tr with limit := 0x68#32 } }) (fun _ _ => true) &&
     ok (ioCheck 23#16 1 { s with tr := { s.tr with limit := 0x68#32 } }) (fun _ _ => true) &&
     raises (ioCheck 23#16 2 { s with tr := { s.tr with limit := 0x68#32 } }) ⟨13#8, .sel 0#16⟩) = true := by decide +kernel

theorem witness_PrivilegedInstructionsTrap :
    (privilegedForm (flat 3#2) .hlt && privilegedForm (flat 3#2) (.movCdRd 3#3 .ax) && privilegedForm (flat 1#2) (.lldtEw (.reg .ax)) &&
     (flat 3#2).cpl != 0#2 && (flat 1#2).cpl != 0#2) = true := by decide +kernel

theorem witness_DeliveryInRealMode : -- the last vector of a table, and the first beyond it
    let s := { real with idtr := ⟨0#32, 0x83#16⟩ }
    (!s.protectedMode && s.plain && decide (4 * (0x20#8).toNat + 3 ≤ s.idtr.limit.toNat) && !decide (4 * (0x21#8).toNat + 3 ≤ s.idtr.limit.toNat) &&
     ok ((do pushQuiet .w 0#16; pushQuiet .w 0#16; pushQuiet .w 0#16 : M Unit) s) (fun _ _ => true)) = true := by decide +kernel

theorem witness_DeliveryToTheSameLevel :
    let s := tables
    let gate := s.descAt 0x2018#32
    let trap := s.descAt 0x2020#32
    let code := s.descAt 0x1008#32
    (s.protectedMode && s.plain && decide (15 * 8 + 7 ≤ s.idtr.limit.toNat) && !decide (16 * 8 + 7 ≤ s.idtr.limit.toNat) && gate.isSystem 0xE#4 && gate.p &&
     trap.isSystem 0xF#4 && trap.p && trap.dpl == 3#2 && gate.gateSel == 8#16 && s.entryAddr 8#16 == some 0x1008#32 && code.isCode && code.dpl == s.cpl &&
     code.p && decide (gate.gateOff.toNat ≤ code.limit.toNat) && s.segOk .ss (s.below 16) 16 .write &&
     ok (deliverOnce ⟨3#8, .exception, .sel 0x10#16, 0#32, true⟩ s) (fun _ t => t.eip == 0x180#32 && t.gpr.esp == 0x7F0#32) &&
     ok (deliverOnce ⟨4#8, .software, .none, 0#32, false⟩ s) (fun _ t => t.gpr.esp == 0x7F4#32)) = true := by decide +kernel

theorem witness_DeliveryToAnInnerLevelOrTask :
    let s := levels
    let gate := s.descAt 0x2018#32
    let code := s.descAt 0x1008#32
    let task := s.descAt 0x2028#32
    (s.protectedMode && s.plain && gate.isSystem 0xE#4 && gate.dpl == 3#2 && gate.p && gate.gateSel == 8#16 && s.entryAddr 8#16 == some 0x1008#32 &&
     code.isCode && !code.isConforming && code.dpl == 0#2 && code.p && decide (11 ≤ s.tr.limit.toNat) && s.entryAddr 0x10#16 == some 0x1010#32 &&
     ((s.descAt 0x1010#32).toSeg 0x10#16).inLimit 0x8E8#32 24 &&
     ok (deliverOnce ⟨3#8, .exception, .sel 0x10#16, 0#32, true⟩ s) (fun _ t => t.cpl == 0#2 && t.gpr.esp == 0x8E8#32) &&
     task.isSystem 5#4 && task.p && task.gateSel == 0x40#16 && !tiOf 0x40#16 && s.entryAddr 0x40#16 == some 0x1040#32 &&
     (s.descAt 0x1040#32).isSystem 9#4 && (s.descAt 0x1040#32).p &&
     ok (taskSwitchCore .int 0x40#16 (s.descAt 0x1040#32) false 0#32 { s.flags with RF := true } s) (fun _ t =>
       t.tr.sel == 0x40#16 && t.cpl == 0#2 && t.plain && t.segOk .ss (t.below 4) 4 .write)) = true := by
  decide +kernel

theorem witness_NestedExceptions : -- the three outcomes
    let s := { flat 0#2 with idtr := ⟨0#32, 0#16⟩ }
    (raises (deliverOnce ⟨8#8, .exception, .sel 0#16, 0#32, false⟩ s) ⟨13#8, .sel 0x42#16⟩ &&
     raises (deliverOnce ⟨13#8, .exception, .sel 0#16, 0#32, true⟩ s) ⟨13#8, .sel 0x6A#16⟩ &&
     raises (deliverOnce ⟨6#8, .exception, .none, 0#32, true⟩ s) ⟨13#8, .sel 0x32#16⟩) = true := by decide +kernel

theorem witness_TaskSwitches : -- saving, the commit of a CALL, loading, and a whole switch
    let s := levels
    let nd := s.descAt 0x1040#32
    (s.plain && Memory.wf s.mem && (Eflags.ofBits (s.phys32 0x5024#32)).VM == false && decide (103 ≤ nd.limit.toNat) &&
     ok (saveTask 0x3000#32 1#32 s.flags.toBits s) (fun _ t => t.phys32 0x3020#32 == 1#32) && ok (loadTask .iret 0x5000#32 s) (fun _ _ => true) &&
     ok (taskSwitchCore .call 0x40#16 nd false 0x102#32 s.flags s) (fun _ t => t.flags.NT && t.eip == 0x100#32 && t.cr0.TS &&
       t.phys32 0x1044#32 == 0x8B00#32 && t.load 16 (Loc.from 0x5000#32 2) == 0x48#16)) = true := by decide +kernel

/-- `levels` with GDT 7 made a task gate of DPL 3. -/
def gated (lo hi : BitVec 32) : State := put (put levels 0x1038 lo) 0x103C hi

theorem witness_TaskTransfers : -- a JMP to the TSS, through a gate from level 3, and every failure
    let s := { levels with cpl := 0#2 }
    let bad := put s 0x504C 0#32
    let g := gated 0x00400000#32 0x0000E500#32
    let at40 (s : State) : Desc := s.descAt 0x1040#32
    (s.protectedMode && s.plain && !nullSel 0x40#16 && s.entryAddr 0x40#16 == some 0x1040#32 && (at40 s).isSystem 9#4 && (at40 s).p &&
     (at40 s).limit == 103#32 && !tiOf 0x40#16 && (at40 s).dpl == 0#2 && (at40 s).dpl.toNat < levels.cpl.toNat && (s.descAt 0x1048#32).isSystem 0xB#4 &&
     s.entryAddr 0x48#16 == some 0x1048#32 && ok (taskSwitchCore .jmp 0x40#16 (at40 s) false s.eipNext s.flags s) (fun _ t => t.plain) &&
     next (exec (.jmpFarAp 0#32 0x40#16) s) (fun t => t.tr.sel == 0x40#16 && t.eip == 0x100#32 && !t.flags.NT && t.phys32 0x3020#32 == 0x102#32) &&
     (match taskSwitchCore .call 0x40#16 (at40 bad) false bad.eipNext bad.flags bad with | .error (.late y) _ => y.vec == 10#8 | _ => false) &&
     next (exec (.callFarAp 0#32 0x40#16) bad) (fun t => t.tr.sel == 0x40#16 && t.pendingExc.isSome) &&
     !(at40 (put s 0x1044 0x00000900#32)).p && decide ((at40 (put s 0x1040 0x50000066#32)).limit.toNat < 103) &&
     g.plain && g.entryAddr 0x3B#16 == some 0x1038#32 && (g.descAt 0x1038#32).isSystem 5#4 && (g.descAt 0x1038#32).p &&
     (g.descAt 0x1038#32).dpl == 3#2 && (g.descAt 0x1038#32).gateSel == 0x40#16 &&
     next (exec (.callFarAp 0#32 0x3B#16) g) (fun t => t.tr.sel == 0x40#16 && t.cpl == 0#2 && t.flags.NT) &&
     ((gated 0x00400000#32 0x00008500#32).descAt 0x1038#32).dpl == 0#2 && !((gated 0x00400000#32 0x00006500#32).descAt 0x1038#32).p &&
     tiOf ((gated 0x00440000#32 0x0000E500#32).descAt 0x1038#32).gateSel && g.entryAddr 0x60#16 == none &&
     indexOf ((gated 0#32 0x0000E500#32).descAt 0x1038#32).gateSel == 0#13 && !(g.descAt 0x1008#32).isSystem 9#4 &&
     !(g.descAt 0x1008#32).isSystem 1#4 && !(g.descAt 0x1008#32).isSystem 3#4) = true := by decide +kernel

theorem witness_ReturnFromInterrupt : -- real mode, the same level, an outer level, and the nesting task
    let s := put tables 0x804 8#32
    let out := put (put (put (put { levels with cpl := 0#2 } 0x800 0x180#32) 0x804 0x1B#32) 0x80C 0x700#32) 0x810 0x23#32
    let nest := { levels with flags := { levels.flags with NT := true } }
    (real.stackHas (3 * real.osz.bytes) && ok (peek 0 .w real) (fun _ s1 => ok (peek 2 .w s1) fun _ s2 => ok (peek 4 .w s2) fun _ _ => true) &&
     s.stackHas (3 * s.osz.bytes) && s.protectedMode && !s.flags.NT &&
     ok (peek 0 .d s) (fun v s1 => ok (peek 4 .w s1) fun ncs s2 => ok (peek 8 .d s2) fun fl s3 => !fl.getLsbD 17 && ok (checkReturnCs ncs s3) fun d s4 =>
       rplOf ncs == s.cpl && decide (v.toNat ≤ d.limit.toNat) && ok (setAccessed d s4) fun _ _ => true) &&
     out.plain && out.segOk .ss out.stackPtr 20 .read && out.entryAddr 0x1B#16 == some 0x1018#32 && out.entryAddr 0x23#16 == some 0x1020#32 &&
     next (exec .iret out) (fun t => t.cpl == 3#2 && t.gpr.esp == 0x700#32 && t.eip == 0x180#32) &&
     nest.plain && nest.load 16 (Loc.from 0x3000#32 2) == 0x50#16 && nest.entryAddr 0x50#16 == some 0x1050#32 &&
     (nest.descAt 0x1050#32).isSystem 0xB#4 && (nest.descAt 0x1050#32).p &&
     next (exec .iret nest) (fun t => t.tr.sel == 0x50#16 && t.eip == 0x100#32 && t.cpl == 0#2)) = true := by decide +kernel

theorem witness_DebugExceptions : -- a data write breakpoint of four bytes at 200H, met by its last byte and missed by the next; BD
    let s := { tables with dbg := { tables.dbg with dr0 := 0x200#32, dr7 := 0x000D0001#32 } }
    let ice := { tables with plat := { tables.plat with iceInUse := true } }
    (!s.cr0.PG && s.plat.memMap.isEmpty && s.dbg.enabled 0 && s.dbg.rw 0 == 1#2 && s.dbg.len 0 == 3#2 && s.segOk .ds 0x203#32 1 .write &&
     ok (locate .ds 0x203#32 1 true s) (fun _ t => t.dbg.matched.get 0) && ok (locate .ds 0x204#32 1 true s) (fun _ t => !t.dbg.matched.get 0) &&
     ok (locate .ds 0x203#32 1 false s) (fun _ t => !t.dbg.matched.get 0) && ice.plat.iceInUse && ice.cpl == 0#2 &&
     done (exec (.movDdRd 7#3 .ax) ice)) = true := by decide +kernel

theorem witness_EventsAtABoundary : -- the SS shadow; a trap before NMI; NMI before INTR; INTR; none
    let s := { levels with flags := { levels.flags with IF := true }, nmiPending := true, pins := { levels.pins with intr := some 3#8 } }
    let bs := { s with dbg := { s.dbg with pendingBS := true } }
    let none' := { s with nmiPending := false, pins := { s.pins with intr := none } }
    (!s.pins.reset && s.run == .running && !s.flags.VM && s.pendingExc.isNone && s.pfx.count == 0 && !s.ssShadow && !s.nmiInService &&
     ([0, 1, 2, 3] : List (Fin 4)).all (fun k => !s.dbg.enabled k) && Hits.none.get 0 == false && s.dbg.addr 0 != s.codeAddr &&
     next (step { bs with ssShadow := true }) (fun t => t.nmiPending && !t.dbg.pendingBS) && next (step bs) (fun t => t.nmiPending) &&
     next (step s) (fun t => !t.nmiPending && t.pins.intr == some 3#8) &&
     next (step { s with nmiPending := false }) (fun t => t.pins.intr == none && t.eip == 0x180#32) &&
     done (step none')) = true := by decide +kernel

theorem witness_EveryStepKeepsTheInvariant : -- the first step after reset, and one of a protected-mode state
    State.reset.invariant ∧ done (step State.reset) = true ∧ tables.invariant ∧ done (step tables) = true := by
  refine ⟨⟨⟨?_, ?_⟩, ⟨?_, ?_, ?_, ?_⟩, ⟨?_, ?_⟩, ⟨?_, ?_⟩⟩, ?_, ⟨⟨?_, ?_⟩, ⟨?_, ?_, ?_, ?_⟩, ⟨?_, ?_⟩, ⟨?_, ?_⟩⟩, ?_⟩ <;> decide +kernel

theorem witness_UserStepsLeaveSystemRegisters :
    (flat 3#2).cpl ≠ 0#2 ∧ (flat 3#2).cr0.PE = true ∧ (flat 3#2).pins.reset = false ∧ done (step (flat 3#2)) = true := by decide +kernel

theorem witness_ShutdownHaltAndReset :
    let h := { tables with run := .halted }
    ((tables.shutDown).run == .shutdown && !tables.shutDown.pins.reset && { h with run := .running }.quiet && h.run == .halted &&
     { tables with pins := { tables.pins with reset := true } }.pins.reset &&
     refuses (step { tables with flags := { tables.flags with VM := true } }) .virtual8086) = true := by decide +kernel

theorem witness_StepRunsTheDecodedInstruction :
    let s := withCode (flat 0#2) [0x93#8]
    (s.quiet && s.queue == [] && !s.cr0.PG && (Instr.xchgEaxReg .bx).wf s.attrs && encode s.attrs (.xchgEaxReg .bx) == [0x93#8] &&
     !s.pastEnd && s.segOk .cs s.eip 1 .fetch && s.kindAt 0x100#32 == .ram && s.byteAt 0x100#32 == 0x93#8 && s.plat.prefetchDepth == 0 &&
     done (step s)) = true := by decide +kernel

theorem witness_DecodingUndoesEncoding :
    Instr.wf ⟨true, true⟩ (.enter 0xFFFF#16 0xFF#8) = true ∧ Instr.wf ⟨false, false⟩ (.movGvEv .di (.mem (.a16 .bpdi 0xFFFF#16))) = true := by decide

end Sys2Proof.Tests
end

section
/-! What a computation keeps: the system registers, the prefixes read, and the invariant's clauses on memory, the TLB, the
reserved bits and the mode. The frame says which fields an ordinary computation never changes, the implications which parts of the
invariant it preserves. -/
namespace Sys2Proof.Machine

/-! ## The frame -/

theorem prefixesOk_of_empty {s : State} (h : s.pfx = Prefixes.empty) : s.prefixesOk := by
  simp [State.prefixesOk, h, Prefixes.empty]

/-- Every field of the state on which the invariant or the frame of an ordinary computation depends. -/
structure Guarded where
  gdtr : TableReg
  idtr : TableReg
  cr0 : Cr0
  dr0 : BitVec 32
  dr1 : BitVec 32
  dr2 : BitVec 32
  dr3 : BitVec 32
  dr6 : BitVec 32
  dr7 : BitVec 32
  tr6 : BitVec 32
  tr7 : BitVec 32
  pfx : Prefixes
  cpl : BitVec 2
  mem : List Host.Cell
  tlb : List TlbEntry

/-- The guarded fields of a state. -/
def State.guarded (s : State) : Guarded :=
  { gdtr := s.gdtr, idtr := s.idtr, cr0 := s.cr0, dr0 := s.dbg.dr0, dr1 := s.dbg.dr1, dr2 := s.dbg.dr2, dr3 := s.dbg.dr3,
    dr6 := s.dbg.dr6, dr7 := s.dbg.dr7, tr6 := s.tr6, tr7 := s.tr7, pfx := s.pfx, cpl := s.cpl, mem := s.mem, tlb := s.tlb }

/-- What an ordinary computation keeps from `s` to `t`: GDTR, IDTR, CR0 but for TS, the breakpoint addresses, the test registers
and the prefixes read are as they were, and each clause of the invariant still holds if it held. -/
structure Kept (s t : State) : Prop where
  gdtr : t.gdtr = s.gdtr
  idtr : t.idtr = s.idtr
  cr0 : t.cr0 = { s.cr0 with TS := t.cr0.TS }
  dr0 : t.dbg.dr0 = s.dbg.dr0
  dr1 : t.dbg.dr1 = s.dbg.dr1
  dr2 : t.dbg.dr2 = s.dbg.dr2
  dr3 : t.dbg.dr3 = s.dbg.dr3
  tr6 : t.tr6 = s.tr6
  tr7 : t.tr7 = s.tr7
  pfx : t.pfx = s.pfx
  storage : s.storageOk → t.storageOk
  reserved : s.reservedOk → t.reservedOk
  mode : s.modeOk → t.modeOk

theorem Kept.PE {s t : State} (h : Kept s t) : t.cr0.PE = s.cr0.PE := by rw [h.cr0]

theorem Kept.invariant {s t : State} (h : Kept s t) : s.invariant → t.invariant := fun ⟨hst, hres, hmode, hpfx⟩ =>
  ⟨h.storage hst, h.reserved hres, h.mode hmode, by rwa [State.prefixesOk, h.pfx]⟩

theorem Kept.trans {s t u : State} (h : Kept s t) (k : Kept t u) : Kept s u where
  gdtr := k.gdtr.trans h.gdtr
  idtr := k.idtr.trans h.idtr
  cr0 := by rw [k.cr0, h.cr0]
  dr0 := k.dr0.trans h.dr0
  dr1 := k.dr1.trans h.dr1
  dr2 := k.dr2.trans h.dr2
  dr3 := k.dr3.trans h.dr3
  tr6 := k.tr6.trans h.tr6
  tr7 := k.tr7.trans h.tr7
  pfx := k.pfx.trans h.pfx
  storage := k.storage ∘ h.storage
  reserved := k.reserved ∘ h.reserved
  mode := k.mode ∘ h.mode

/-! ## What each update of the state keeps -/

/-- An update that leaves every guarded field alone keeps everything. -/
theorem Kept.same {s t : State} (h : t.guarded = s.guarded) : Kept s t := by
  simp only [State.guarded, Guarded.mk.injEq] at h
  obtain ⟨hg, hi, hc, h0, h1, h2, h3, h6, h7, ht6, ht7, hp, hl, hm, hb⟩ := h
  constructor <;> simp only [State.storageOk, State.reservedOk, State.modeOk, hg, hi, hc, h0, h1, h2, h3, h6, h7, ht6, ht7, hp, hl, hm, hb,
    imp_self]

theorem Kept.refl (s : State) : Kept s s := .same rfl

/-- A store keeps memory canonical (20_memory.md R100). -/
theorem kept_store (s : State) {w : Nat} (l : Loc) (v : BitVec w) : Kept s (s.store l v) :=
  { Kept.same (s := s) rfl with storage := fun h => ⟨State.wf_store l v h.1, h.2⟩ }

/-- A change of the TLB that keeps its number of entries (10_state.md R85). -/
theorem kept_tlb (s : State) {b : List TlbEntry} (h : b.length = s.tlb.length) : Kept s { s with tlb := b } :=
  { Kept.same (s := s) rfl with storage := fun k => ⟨k.1, h.trans k.2⟩ }

theorem Kept.flushTlb {s t : State} (h : Kept s t) : Kept s t.flushTlb := h.trans (kept_tlb t (List.length_map _))

/-- CR0.TS may change. -/
theorem kept_ts (s : State) (b : Bool) : Kept s { s with cr0 := { s.cr0 with TS := b } } :=
  { Kept.same (s := s) rfl with cr0 := rfl, mode := id }

/-- In protected mode any privilege level is allowed (10_state.md R84). -/
theorem kept_cpl {s : State} (h : s.cr0.PE = true) (c : BitVec 2) : Kept s { s with cpl := c } :=
  { Kept.same (s := s) rfl with mode := fun k => ⟨k.1, fun hf => absurd (h.symm.trans hf) (by decide)⟩ }

/-- Bits that DR6 implements may be set (10_state.md R79). -/
theorem kept_dr6 (s : State) {v : BitVec 32} (h : v &&& 0xFFFF1FF0#32 = 0#32) :
    Kept s { s with dbg := { s.dbg with dr6 := s.dbg.dr6 ||| v } } :=
  { Kept.same (s := s) rfl with
    reserved := fun ⟨h6, h7⟩ => ⟨by rw [BitVec.and_or_distrib_right, h6, h, BitVec.or_zero], h7⟩ }

/-- Bits of DR7 may be cleared (10_state.md R78). -/
theorem kept_dr7 (s : State) (v : BitVec 32) : Kept s { s with dbg := { s.dbg with dr7 := s.dbg.dr7 &&& v } } :=
  { Kept.same (s := s) rfl with
    reserved := fun ⟨h6, h7, ht⟩ =>
      have h : s.dbg.dr7 &&& v &&& 0x0000FC00#32 = 0#32 := by
        rw [BitVec.and_assoc, BitVec.and_comm v, ← BitVec.and_assoc, h7, BitVec.zero_and]
      ⟨h6, h, ht⟩ }

/-- A debug exception sets only bits that DR6 implements (61_debug_coproc_multiproc.md R676). -/
theorem kept_report (s : State) (h : Hits) (bs bt : Bool) : Kept s { s with dbg := s.dbg.report h bs bt } := by
  have hv : ∀ b0 b1 b2 b3 bs bt : Bool,
      (0#16 ++ bit bt ++ bit bs ++ 0#10 ++ bit b3 ++ bit b2 ++ bit b1 ++ bit b0) &&& 0xFFFF1FF0#32 = 0#32 := by decide
  exact (kept_dr6 s (hv h.b0 h.b1 h.b2 h.b3 bs bt)).trans (.same rfl)

end Sys2Proof.Machine
end

section
/-! Which computations keep what `Kept` says: the combinators, and every shared operation of memory access, descriptors, the task
switch and delivery, in the order of their definitions. An operation that sets the privilege level keeps the mode clause only in
protected mode: that is what the index `true` of `Keeping` says; `false` asks for nothing, and an operation that keeps everything
in every mode is stated for both. -/
namespace Sys2Proof.Machine

/-- `Kept`, under the premise that the machine is in protected mode where `p` says so. -/
def Keeps (p : Bool) (s t : State) : Prop := (p = true → s.cr0.PE = true) → Kept s t

/-- A computation that keeps what `Kept` says, whether it answers or stops. -/
structure Keeping (p : Bool) {α : Type} (x : M α) : Prop where
  within : Within (Keeps p) x

section
variable {p : Bool} {α β : Type}

/-! ## Combinators -/

theorem Keeping.ret (a : α) : Keeping p (pure a : M α) := ⟨within_pure (fun s _ => .refl s) a⟩
theorem Keeping.stop (e : Halt) : Keeping p (halt e : M α) := ⟨within_halt (fun s _ => .refl s) e⟩
theorem Keeping.exc (v : BitVec 8) (e : ErrCode) : Keeping p (raise v e : M α) := .stop _
theorem Keeping.upd {f : State → State} (h : ∀ s, Kept s (f s)) : Keeping p (modS f) := ⟨within_modS fun s _ => h s⟩
theorem Keeping.same {f : State → State} (h : ∀ s, (f s).guarded = s.guarded) : Keeping p (modS f) := .upd fun s => .same (h s)
theorem Keeping.ite {c : Prop} [Decidable c] {x y : M α} (hx : Keeping p x) (hy : Keeping p y) :
    Keeping p (if c then x else y) := ⟨within_if hx.within hy.within⟩

theorem Keeps.trans {s t u : State} (h : Keeps p s t) (k : Keeps p t u) : Keeps p s u := fun g =>
  (h g).trans (k fun hp => (h g).PE.trans (g hp))

/-- A computation that begins where another one left the machine. -/
theorem Keeping.after {x : M α} (hx : Keeping p x) {s t : State} (h : Keeps p s t) :
    match x t with
    | .ok _ u => Keeps p s u
    | .error _ u => Keeps p s u := by
  have := hx.within t
  split <;> rename_i hu <;> rw [hu] at this <;> exact h.trans this

theorem Keeping.bind {x : M α} {f : α → M β} (hx : Keeping p x) (hf : ∀ a, Keeping p (f a)) : Keeping p (x >>= f) :=
  ⟨within_bind (fun _ _ _ h k => h.trans k) hx.within fun a => (hf a).within⟩

/-- Reading the state, then going on. -/
theorem Keeping.get {f : State → M β} (h : ∀ s, Keeping p (f s)) : Keeping p (getS >>= f) :=
  .bind ⟨within_getS fun s _ => .refl s⟩ h

theorem keeping_require (c : Bool) (v : BitVec 8) (e : ErrCode) : Keeping p (require c v e) := .ite (.ret _) (.exc _ _)

/-- A check, then going on. -/
theorem Keeping.req {c : Bool} {v : BitVec 8} {e : ErrCode} {f : Unit → M β} (h : Keeping p (f ())) :
    Keeping p (require c v e >>= f) := (keeping_require c v e).bind fun _ => h

/-- A branch that does something first, or does not, before both go on alike. -/
theorem Keeping.join {c : Prop} [Decidable c] {x : M Unit} {k : Unit → M β} (hx : Keeping p x) (hk : ∀ u, Keeping p (k u)) :
    Keeping p (if c then x >>= k else k ()) := .ite (hx.bind hk) (hk ())

theorem Keeping.joinTwo {c : Prop} [Decidable c] {x : M α} {y : α → M Unit} {k : Unit → M β} (hx : Keeping p x)
    (hy : ∀ a, Keeping p (y a)) (hk : ∀ u, Keeping p (k u)) : Keeping p (if c then x >>= fun a => y a >>= k else k ()) :=
  .ite (hx.bind fun a => (hy a).bind hk) (hk ())

theorem Keeping.joinElse {c : Prop} [Decidable c] {x : M Unit} {k : Unit → M β} (hx : Keeping p x) (hk : ∀ u, Keeping p (k u)) :
    Keeping p (if c then k () else x >>= k) := .ite (hk ()) (hx.bind hk)

/-- An update that leaves every guarded field alone, then going on. -/
theorem Keeping.sameThen {f : State → State} {k : Unit → M β} (h : ∀ s, (f s).guarded = s.guarded) (hk : Keeping p (k ())) :
    Keeping p (modS f >>= k) := (Keeping.same h).bind fun _ => hk

/-- A computation that always answers and leaves every guarded field alone. -/
theorem Keeping.answers {x : M α} (h : ∀ s, ∃ a t, x s = .ok a t ∧ t.guarded = s.guarded) : Keeping p x where
  within s := by
    obtain ⟨a, t, hx, ht⟩ := h s
    rw [hx]
    exact fun _ => .same ht

/-- An operation that begins by asking for the mode: each branch has to keep what it must in its own mode. -/
theorem Keeping.modes {f : State → M α} (hp : ∀ s, s.protectedMode = true → Keeping true (f s))
    (hr : ∀ s, s.protectedMode = false → Keeping false (f s)) : Keeping p (getS >>= f) where
  within s := by
    rw [bind_of_ok (getS_apply s)]
    cases h : s.protectedMode with
    | true =>
      have := (hp s h).within s
      split at this <;> exact fun _ => this fun _ => h
    | false =>
      have := (hr s h).within s
      split at this <;> exact fun _ => this nofun

theorem keeping_draw (w : Nat) : Keeping p (draw w) := .answers fun _ => ⟨_, _, rfl, rfl⟩
theorem keeping_drawBool : Keeping p drawBool := .answers fun _ => ⟨_, _, rfl, rfl⟩
theorem keeping_getReg (sz : Size) (r : Reg) : Keeping p (getReg sz r) := .answers fun _ => ⟨_, _, rfl, rfl⟩
theorem keeping_putReg (sz : Size) (r : Reg) (v : BitVec sz.bits) : Keeping p (putReg sz r v) := .same fun _ => rfl
theorem keeping_putSeg (r : SReg) (v : SegReg) : Keeping p (putSeg r v) := .same fun _ => rfl
theorem keeping_modFlags (f : Eflags → Eflags) : Keeping p (modFlags f) := .same fun _ => rfl
theorem keeping_setStackPtr (f : State → BitVec 32) : Keeping p (modS fun s => s.setStackPtr (f s)) := .same fun _ => rfl
theorem keeping_jump (f : State → BitVec 32) : Keeping p (modS fun s => s.jump (f s)) := .same fun _ => rfl
theorem keeping_asserting (c : LockCause) (l : Loc) : Keeping p (modS fun s => s.asserting c l) := .same fun _ => rfl
theorem keeping_loadLoc (w : Nat) (l : Loc) : Keeping p (loadLoc w l) := .answers fun _ => ⟨_, _, rfl, rfl⟩
theorem keeping_storeLoc {w : Nat} (l : Loc) (v : BitVec w) : Keeping p (storeLoc l v) := .upd fun s => kept_store s l v

/-! ## Page translation -/

theorem keeping_settled (l : Loc) : Keeping p (modS fun s => s.settled l) := .same fun s => by
  unfold State.settled
  split <;> rfl

theorem keeping_pageFault (la : BitVec 32) (a b c : Bool) : Keeping p (pageFault la a b c : M α) :=
  Keeping.sameThen (fun _ => rfl) (.exc _ _)

theorem keeping_readEntry (pa : BitVec 32) : Keeping p (readEntry pa) := (keeping_settled _).bind fun _ => .get fun _ => .ret _

theorem keeping_updateEntry (pa old new : BitVec 32) : Keeping p (updateEntry pa old new) :=
  .ite (.ret _) (.upd fun s => (kept_store s _ new).trans (.same rfl))

/-- Invalidating entries keeps the number of TLB entries. -/
theorem length_foldl_invalidate (page : BitVec 20) (l : List (Nat × TlbEntry)) (b : List TlbEntry) :
    (l.foldl (fun t m => t.set (tlbIndex m.1 page) { m.2 with v := false }) b).length = b.length := by
  induction l generalizing b with
  | nil => rfl
  | cons m l ih => rw [List.foldl_cons, ih, List.length_set]

theorem keeping_tlbFill (e : TlbEntry) : Keeping p (tlbFill e) :=
  .get fun _ => .ite (keeping_drawBool.bind fun _ => .ite ((keeping_draw _).bind fun _ =>
    .upd fun s => kept_tlb s (by rw [List.length_set, length_foldl_invalidate])) (.ret _)) (.ret _)

theorem keeping_walk (la : BitVec 32) (w u : Bool) : Keeping p (walk la w u) :=
  .get fun _ => (keeping_readEntry _).bind fun _ => .ite (keeping_pageFault ..) <|
    (keeping_readEntry _).bind fun _ => .ite (keeping_pageFault ..) <| .ite (keeping_pageFault ..) <|
    (keeping_updateEntry ..).bind fun _ => .get fun _ => (keeping_updateEntry ..).bind fun _ => (keeping_tlbFill _).bind fun _ => .ret _

theorem keeping_frameOf (la : BitVec 32) (w u : Bool) : Keeping p (frameOf la w u) := .get fun s => by
  split
  · exact keeping_walk ..
  · exact keeping_drawBool.bind fun _ => .ite (.ite (.ret _) (keeping_pageFault ..)) (keeping_walk ..)
  · exact keeping_draw _

theorem keeping_translate (la : BitVec 32) (w u : Bool) : Keeping p (translate la w u) :=
  .get fun _ => .ite ((keeping_frameOf ..).bind fun _ => .ret _) (.ret _)

theorem keeping_physBytes (la : BitVec 32) (n : Nat) (w u : Bool) : Keeping p (physBytes la n w u) :=
  .get fun _ => .ite ((keeping_translate ..).bind fun _ => .ite (.ret _) ((keeping_translate ..).bind fun _ => .ret _)) (.ret _)

theorem keeping_resolve (la : BitVec 32) (n : Nat) (w u : Bool) : Keeping p (resolve la n w u) :=
  (keeping_physBytes ..).bind fun _ => (keeping_settled _).bind fun _ => .ret _

theorem keeping_sysRead (la : BitVec 32) (n w : Nat) : Keeping p (sysRead la n w) :=
  (keeping_resolve ..).bind fun _ => keeping_loadLoc ..

theorem keeping_sysWrite {w : Nat} (la : BitVec 32) (n : Nat) (v : BitVec w) : Keeping p (sysWrite la n v) :=
  (keeping_resolve ..).bind fun _ => keeping_storeLoc ..

/-! ## Operand access and the stack -/

theorem keeping_noteOne (la : BitVec 32) (n : Nat) (w : Bool) (k : Fin 4) : Keeping p (noteOne la n w k) := by
  have hm : ∀ b : Bool, Keeping p (if b then modS fun s => { s with dbg := { s.dbg with matched := s.dbg.matched.add k } } else pure ()) :=
    fun _ => .ite (.same fun _ => rfl) (.ret _)
  exact .get fun _ => .ite ((Keeping.ite keeping_drawBool (.ret _)).bind hm) ((Keeping.ret _).bind hm)

theorem keeping_noteAccess (la : BitVec 32) (n : Nat) (w : Bool) : Keeping p (noteAccess la n w) :=
  .get fun _ => .ite ((keeping_noteOne ..).bind fun _ => (keeping_noteOne ..).bind fun _ => (keeping_noteOne ..).bind fun _ =>
    keeping_noteOne ..) (.ret _)

theorem keeping_segFault (r : SReg) : Keeping p (segFault r : M α) := .ite (.exc _ _) (.exc _ _)

theorem keeping_locking (w : Bool) (l : Loc) : Keeping p (modS fun s => s.locking w l) := .same fun s => by
  unfold State.locking
  split <;> rfl

theorem keeping_locate (r : SReg) (off : BitVec 32) (n : Nat) (w : Bool) : Keeping p (locate r off n w) :=
  .get fun _ => .ite ((keeping_noteAccess ..).bind fun _ => (keeping_resolve ..).bind fun _ => (keeping_locking ..).bind fun _ => .ret _)
    (keeping_segFault _)

theorem keeping_lread (r : SReg) (off : BitVec 32) (sz : Size) : Keeping p (lread r off sz) :=
  (keeping_locate ..).bind fun _ => keeping_loadLoc ..

theorem keeping_lwrite (r : SReg) (off : BitVec 32) (sz : Size) (v : BitVec sz.bits) : Keeping p (lwrite r off sz v) :=
  (keeping_locate ..).bind fun _ => keeping_storeLoc ..

theorem keeping_push (sz : Size) (v : BitVec sz.bits) : Keeping p (push sz v) :=
  .get fun _ => (keeping_lwrite ..).bind fun _ => keeping_setStackPtr _

theorem keeping_pop (sz : Size) : Keeping p (pop sz) :=
  .get fun _ => (keeping_lread ..).bind fun _ => (keeping_setStackPtr _).bind fun _ => .ret _

theorem keeping_peek (n : Nat) (sz : Size) : Keeping p (peek n sz) := .get fun _ => keeping_lread ..

theorem keeping_padSel (sz : Size) (sel : BitVec 16) : Keeping p (padSel sz sel) := by
  cases sz with
  | b => exact .ret _
  | w => exact .ret _
  | d => exact (keeping_draw _).bind fun _ => .ret _

theorem keeping_pushSel (sz : Size) (sel : BitVec 16) : Keeping p (pushSel sz sel) :=
  (keeping_padSel ..).bind fun _ => keeping_push ..

/-! ## Descriptors and segment registers -/

theorem keeping_readDesc (la : BitVec 32) : Keeping p (readDesc la) :=
  (keeping_sysRead ..).bind fun _ => (keeping_sysRead ..).bind fun _ => .ret _

theorem keeping_fetchDesc (sel : BitVec 16) : Keeping p (fetchDesc sel) := .get fun _ => by
  split
  · exact .ret _
  · exact (keeping_readDesc _).bind fun _ => .ret _

theorem keeping_fetchDescOr (sel : BitVec 16) (v : BitVec 8) (e : ErrCode) : Keeping p (fetchDescOr sel v e) :=
  (keeping_fetchDesc _).bind fun _ => by
    split
    · exact .exc _ _
    · exact .ret _

theorem keeping_setAccessed (d : Desc) : Keeping p (setAccessed d) :=
  (keeping_asserting ..).bind fun _ => .ite (.ret _) (keeping_sysWrite ..)

theorem keeping_putLdt (d : Desc) (sel : BitVec 16) : Keeping p (putLdt d sel) := .same fun _ => rfl

theorem keeping_checkDataSeg (d : Desc) (sel : BitVec 16) (cpl : BitVec 2) (bad : BitVec 8) (ext : Bool) :
    Keeping p (checkDataSeg d sel cpl bad ext) := .req <| .req <| keeping_require ..

theorem keeping_loadDataSeg (r : SReg) (sel : BitVec 16) : Keeping p (loadDataSeg r sel) :=
  .get fun _ => .ite (keeping_putSeg ..) <| (keeping_fetchDescOr ..).bind fun _ => (keeping_checkDataSeg ..).bind fun _ =>
    (keeping_setAccessed _).bind fun _ => keeping_putSeg ..

theorem keeping_loadStackSeg (sel : BitVec 16) : Keeping p (loadStackSeg sel) :=
  .get fun _ => .req <| (keeping_fetchDescOr ..).bind fun _ => .req <| .req <| .req <| .req <|
    (keeping_setAccessed _).bind fun _ => keeping_putSeg ..

theorem keeping_loadSeg (r : SReg) (sel : BitVec 16) : Keeping p (loadSeg r sel) :=
  .get fun _ => .ite (.ite (keeping_loadStackSeg _) (keeping_loadDataSeg ..)) (keeping_putSeg ..)

/-- Writing CS sets the privilege level: protected mode only (21_protection.md R176). -/
theorem keeping_putCode (d : Desc) (sel : BitVec 16) (cpl : BitVec 2) : Keeping true (putCode d sel cpl) :=
  (keeping_putSeg ..).bind fun _ => ⟨within_modS fun _ h => (kept_cpl (h rfl) cpl).trans (.same rfl)⟩

theorem keeping_loadCode (d : Desc) (sel : BitVec 16) (cpl : BitVec 2) : Keeping true (loadCode d sel cpl) :=
  (keeping_setAccessed _).bind fun _ => keeping_putCode ..

theorem keeping_loadCodeReal (sel : BitVec 16) : Keeping p (loadCodeReal sel) := .same fun _ => rfl

theorem keeping_innerStack (c : BitVec 2) (ext : Bool) : Keeping p (innerStack c ext) :=
  .get fun _ => .req <| (keeping_sysRead ..).bind fun _ => (keeping_sysRead ..).bind fun _ => .req <|
    (keeping_fetchDescOr ..).bind fun _ => .req <| .req <| .req <| .req <| .ret _

theorem keeping_innerWrite (note : Bool) (g : SegReg) (off v : BitVec 32) : Keeping p (innerWrite note g off v) :=
  .join (keeping_noteAccess ..) fun _ => keeping_sysWrite ..

theorem keeping_innerPushAll (note : Bool) (g : SegReg) (off : BitVec 32) (l : List (BitVec 32)) :
    Keeping p (innerPushAll note g off l) := by
  induction l generalizing off with
  | nil => exact .ret _
  | cons v l ih => exact (keeping_innerWrite ..).bind fun _ => ih _

theorem keeping_pushQuiet (sz : Size) (v : BitVec sz.bits) : Keeping p (pushQuiet sz v) :=
  .get fun _ => .ite ((keeping_resolve ..).bind fun _ => (keeping_storeLoc ..).bind fun _ => keeping_setStackPtr _) (keeping_segFault _)

/-! ## The task switch -/

theorem keeping_inNewTask {x : M α} (h : Keeping p x) : Keeping p (inNewTask x) where
  within s := by
    have := h.within s
    unfold inNewTask
    cases hx : x s with
    | ok a t => rw [hx] at this; exact this
    | error e t =>
      rw [hx] at this
      cases e <;> exact this

theorem keeping_writeFields {w : Nat} (n step : Nat) (la : BitVec 32) (l : List (BitVec w)) : Keeping p (writeFields n step la l) := by
  induction l generalizing la with
  | nil => exact .ret _
  | cons v l ih => exact (keeping_sysWrite ..).bind fun _ => ih _

theorem keeping_saveTask (base eipSave fl : BitVec 32) : Keeping p (saveTask base eipSave fl) :=
  .get fun _ => (keeping_writeFields ..).bind fun _ => keeping_writeFields ..

theorem keeping_loadGpr (nb : BitVec 32) (off : Nat) (r : Reg) : Keeping p (loadGpr nb off r) :=
  (keeping_sysRead ..).bind fun _ => keeping_putReg ..

theorem keeping_loadTssSel (nb : BitVec 32) (off : Nat) (r : SReg) : Keeping p (loadTssSel nb off r) :=
  (keeping_sysRead ..).bind fun _ => .same fun _ => rfl

theorem keeping_readTask (cause : SwitchCause) (nb : BitVec 32) : Keeping true (readTask cause nb) :=
  (keeping_draw _).bind fun _ => .sameThen (fun _ => rfl) <| .get fun _ => .joinTwo (keeping_sysRead ..)
    (fun _ => .upd fun _ => .flushTlb (.same rfl)) fun _ =>
    (keeping_sysRead ..).bind fun _ => (keeping_sysRead ..).bind fun _ => .sameThen (fun _ => rfl) <|
    (keeping_sysRead ..).bind fun _ => .sameThen (fun _ => rfl) <|
    (keeping_loadGpr ..).bind fun _ => (keeping_loadGpr ..).bind fun _ => (keeping_loadGpr ..).bind fun _ =>
    (keeping_loadGpr ..).bind fun _ => (keeping_loadGpr ..).bind fun _ => (keeping_loadGpr ..).bind fun _ =>
    (keeping_loadGpr ..).bind fun _ => (keeping_loadGpr ..).bind fun _ =>
    (keeping_loadTssSel ..).bind fun _ => (keeping_loadTssSel ..).bind fun _ => (keeping_loadTssSel ..).bind fun _ =>
    (keeping_loadTssSel ..).bind fun _ => (keeping_loadTssSel ..).bind fun _ => (keeping_loadTssSel ..).bind fun _ =>
    .bind ⟨within_modS fun s h =>
      ((kept_cpl (h rfl) (rplOf s.seg.cs.sel)).trans (kept_dr7 _ (~~~ 0x155#32))).trans (.same rfl)⟩ fun _ => .ite (.stop _) (.ret _)

theorem keeping_keepReg (old : Gpr) (r : Reg) : Keeping p (keepReg old r) :=
  keeping_drawBool.bind fun _ => .ite (keeping_putReg ..) (.ret _)

theorem keeping_keepSome (old : Gpr) : Keeping p (keepSome old) :=
  (keeping_keepReg ..).bind fun _ => (keeping_keepReg ..).bind fun _ => (keeping_keepReg ..).bind fun _ => (keeping_keepReg ..).bind fun _ =>
    (keeping_keepReg ..).bind fun _ => (keeping_keepReg ..).bind fun _ => (keeping_keepReg ..).bind fun _ => keeping_keepReg ..

/-- Step D of the task switch, the general registers chosen freely after a page fault in it. -/
theorem keeping_loadTask (cause : SwitchCause) (nb : BitVec 32) : Keeping true (loadTask cause nb) where
  within s := by
    have h := (keeping_readTask cause nb).within s
    have hk (e : Exc) : Keeping true (do keepSome s.gpr; halt (.exc e) : M Unit) := (keeping_keepSome _).bind fun _ => .stop _
    unfold loadTask
    cases hx : readTask cause nb s with
    | ok a t => rw [hx] at h; exact h
    | error e t =>
      rw [hx] at h
      cases e with
      | exc e => exact (hk e).after h
      | late | shutdown | abort | refuse => exact h

theorem keeping_switchLdt (ext : Bool) : Keeping p (switchLdt ext) :=
  .get fun _ => .ite (.ret _) <| .req <| (keeping_fetchDescOr ..).bind fun _ => .req <| keeping_putLdt ..

theorem keeping_switchCs (ext : Bool) : Keeping p (switchCs ext) :=
  .get fun _ => .req <| (keeping_fetchDescOr ..).bind fun _ => .req <| .req <| .req <|
    (keeping_setAccessed _).bind fun _ => keeping_putSeg ..

theorem keeping_switchSs (ext : Bool) : Keeping p (switchSs ext) :=
  .get fun _ => .req <| (keeping_fetchDescOr ..).bind fun _ => .req <| .req <| .req <|
    (keeping_setAccessed _).bind fun _ => keeping_putSeg ..

theorem keeping_switchData (ext : Bool) (r : SReg) : Keeping p (switchData ext r) :=
  .get fun _ => .ite (.ret _) <| (keeping_fetchDescOr ..).bind fun _ => (keeping_checkDataSeg ..).bind fun _ =>
    (keeping_setAccessed _).bind fun _ => keeping_putSeg ..

theorem keeping_switchSegments (ext : Bool) : Keeping p (switchSegments ext) :=
  (keeping_switchLdt _).bind fun _ => (keeping_switchCs _).bind fun _ => (keeping_switchSs _).bind fun _ =>
    (keeping_switchData ..).bind fun _ => (keeping_switchData ..).bind fun _ => (keeping_switchData ..).bind fun _ =>
    (keeping_switchData ..).bind fun _ => .get fun _ => keeping_require ..

theorem keeping_writeBusy (l : Loc) (f : BitVec 32 → BitVec 32) : Keeping p (writeBusy l f) :=
  (keeping_loadLoc ..).bind fun h => .upd fun s => (kept_store s l (f h)).trans (.same rfl)

theorem keeping_resolveIf (c : Bool) (la : BitVec 32) (n : Nat) : Keeping p (resolveIf c la n) := .ite (keeping_resolve ..) (.ret _)

theorem keeping_taskSwitchCore (cause : SwitchCause) (nsel : BitVec 16) (nd : Desc) (ext : Bool) (eipSave : BitVec 32) (fl : Eflags) :
    Keeping true (taskSwitchCore cause nsel nd ext eipSave fl) :=
  .req <| .get fun _ => (keeping_saveTask ..).bind fun _ => (keeping_resolveIf ..).bind fun _ => (keeping_resolveIf ..).bind fun _ =>
    (keeping_resolveIf ..).bind fun _ => .join (keeping_writeBusy ..) fun _ => .joinElse (keeping_writeBusy ..) fun _ =>
    .bind (.upd fun s => (kept_ts s true).trans (.same rfl)) fun _ => .join (keeping_storeLoc ..) fun _ =>
    keeping_inNewTask <| (keeping_loadTask ..).bind fun _ => (keeping_switchSegments _).bind fun _ => .same fun _ => rfl

theorem keeping_taskTrapBit : Keeping p taskTrapBit :=
  .get fun _ => (keeping_sysRead ..).bind fun _ => .ite (.same fun _ => rfl) (.ret _)

theorem keeping_taskSwitch (cause : SwitchCause) (nsel : BitVec 16) (nd : Desc) : Keeping true (taskSwitch cause nsel nd) :=
  .get fun _ => (keeping_taskSwitchCore ..).bind fun _ => keeping_inNewTask keeping_taskTrapBit

theorem keeping_gateTss (tsel : BitVec 16) (ext : Bool) : Keeping p (gateTss tsel ext) :=
  .req <| (keeping_fetchDescOr ..).bind fun _ => .ite (.stop _) <| .req <| .req <| .ret _

theorem keeping_viaTaskGate (cause : SwitchCause) (gsel : BitVec 16) (gate : Desc) : Keeping true (viaTaskGate cause gsel gate) :=
  .get fun _ => .req <| .req <| (keeping_gateTss ..).bind fun _ => keeping_taskSwitch ..

theorem keeping_viaTss (cause : SwitchCause) (sel : BitVec 16) (d : Desc) : Keeping true (viaTss cause sel d) :=
  .get fun _ => .req <| .req <| .req <| .req <| keeping_taskSwitch ..

theorem keeping_iretTask : Keeping true iretTask :=
  .get fun _ => (keeping_sysRead ..).bind fun _ => .req <| (keeping_fetchDescOr ..).bind fun _ => .ite (.stop _) <|
    .req <| .req <| keeping_taskSwitch ..

/-! ## Delivery -/

theorem keeping_errDword (e : ErrCode) : Keeping p (errDword e) := by
  cases e with
  | none => exact .ret _
  | sel c => exact (keeping_draw _).bind fun _ => .ret _
  | page a w u => exact (keeping_draw _).bind fun _ => .ret _

theorem keeping_readIdt (v : BitVec 8) (ext : Bool) : Keeping p (readIdt v ext) :=
  .get fun _ => .req <| (keeping_readDesc _).bind fun _ => .ite (.stop _) <| .req <| .ret _

theorem keeping_delivered (ev : Event) : Keeping p (modS fun s => s.delivered ev) := .same fun _ => rfl

theorem keeping_enterHandler (gate target : Desc) (c : BitVec 2) : Keeping true (enterHandler gate target c) :=
  (keeping_loadCode ..).bind fun _ => .same fun _ => rfl

theorem keeping_pushAllQuiet (l : List (BitVec 32)) : Keeping p (pushAllQuiet l) := by
  induction l with
  | nil => exact .ret _
  | cons v l ih => exact (keeping_pushQuiet ..).bind fun _ => ih

theorem keeping_deliverSame (ev : Event) (gate target : Desc) : Keeping true (deliverSame ev gate target) :=
  .get fun _ => (keeping_errDword _).bind fun _ => .req <| .req <| (keeping_padSel ..).bind fun _ =>
    (keeping_pushAllQuiet _).bind fun _ => keeping_enterHandler ..

theorem keeping_deliverInner (ev : Event) (gate target : Desc) : Keeping true (deliverInner ev gate target) :=
  .get fun _ => (keeping_innerStack ..).bind fun _ => (keeping_errDword _).bind fun _ => .req <| .req <|
    (keeping_padSel ..).bind fun _ => (keeping_padSel ..).bind fun _ => (keeping_innerPushAll ..).bind fun _ =>
    (keeping_setAccessed _).bind fun _ => (keeping_putSeg ..).bind fun _ => .sameThen (fun _ => rfl) <| keeping_enterHandler ..

theorem keeping_deliverTask (ev : Event) (gate : Desc) : Keeping true (deliverTask ev gate) :=
  (keeping_gateTss ..).bind fun _ => .get fun _ => (keeping_delivered _).bind fun _ => (keeping_taskSwitchCore ..).bind fun _ =>
    keeping_inNewTask <| (keeping_errDword _).bind fun _ => (keeping_pushAllQuiet _).bind fun _ => keeping_taskTrapBit

theorem keeping_deliverProtected (ev : Event) : Keeping true (deliverProtected ev) :=
  .get fun _ => (keeping_readIdt ..).bind fun _ => .req <| .req <| .ite (keeping_deliverTask ..) <| .req <|
    (keeping_fetchDescOr ..).bind fun _ => .req <| .req <| .req <|
    .ite ((keeping_deliverInner ..).bind fun _ => keeping_delivered _) ((keeping_deliverSame ..).bind fun _ => keeping_delivered _)

theorem keeping_orShutdown {x : M α} (h : Keeping p x) : Keeping p (orShutdown x) where
  within s := by
    have := h.within s
    unfold orShutdown
    cases hx : x s with
    | ok a t => rw [hx] at this; exact this
    | error e t =>
      rw [hx] at this
      cases e <;> exact this

theorem keeping_deliverReal (ev : Event) : Keeping p (deliverReal ev) :=
  .get fun _ => .ite (.ite (.stop _) (.exc _ _)) <| (keeping_sysRead ..).bind fun _ => (keeping_sysRead ..).bind fun _ =>
    (keeping_orShutdown <| (keeping_pushQuiet ..).bind fun _ => (keeping_pushQuiet ..).bind fun _ => keeping_pushQuiet ..).bind fun _ =>
    (keeping_loadCodeReal _).bind fun _ => .sameThen (fun _ => rfl) <| keeping_delivered _

/-- One attempt at a delivery, in either mode. -/
theorem keeping_deliverOnce (ev : Event) : Keeping p (deliverOnce ev) :=
  .modes (fun s h => by rw [if_pos h]; exact keeping_deliverProtected ev) fun s h => by
    rw [if_neg (by simp [h])]
    exact keeping_deliverReal ev

/-! ## Completion, and the return from an interrupt -/

theorem keeping_reoffer (l : List Byte) : Keeping p (reoffer l) := by
  induction l with
  | nil => exact .ret _
  | cons b l ih => exact keeping_drawBool.bind fun _ => ih.bind fun _ => .ret _

theorem keeping_runAgain : Keeping p runAgain :=
  .get fun _ => .ite (.same fun _ => rfl) ((keeping_reoffer _).bind fun _ => .same fun _ => rfl)

theorem keeping_checkReturnCs (ncs : BitVec 16) : Keeping p (checkReturnCs ncs) :=
  .get fun _ => .req <| .req <| (keeping_fetchDescOr ..).bind fun _ => .req <| .req <| .req <| .ret _

theorem keeping_checkReturnSs (nss : BitVec 16) (rpl : BitVec 2) : Keeping p (checkReturnSs nss rpl) :=
  .req <| (keeping_fetchDescOr ..).bind fun _ => .req <| .req <| .req <| .req <| .ret _

theorem keeping_returnSame (d : Desc) (ncs : BitVec 16) (neip : BitVec 32) (n : Nat) : Keeping true (returnSame d ncs neip n) :=
  .get fun _ => .req <| (keeping_loadCode ..).bind fun _ => .same fun _ => rfl

theorem keeping_returnOuter (sz : Size) (d : Desc) (ncs : BitVec 16) (neip : BitVec 32) (skip release : Nat) :
    Keeping true (returnOuter sz d ncs neip skip release) :=
  .get fun _ => .req <| (keeping_peek ..).bind fun _ => (keeping_peek ..).bind fun _ => (keeping_checkReturnSs ..).bind fun _ => .req <|
    (keeping_loadCode ..).bind fun _ => (keeping_setAccessed _).bind fun _ => (keeping_putSeg ..).bind fun _ => .same fun _ => rfl

theorem keeping_iretReal (sz : Size) (neip : BitVec 32) (ncs : BitVec 16) (nfl : BitVec 32) : Keeping p (iretReal sz neip ncs nfl) := by
  unfold iretReal
  refine .join (.stop _) ?_
  exact fun _ => (keeping_loadCodeReal _).bind fun _ => .same fun _ => rfl

/-- IRET: the privilege level changes in protected mode only. -/
theorem keeping_interruptReturn : Keeping p interruptReturn :=
  .modes
    (fun _ _ => .ite (keeping_iretTask.bind fun _ => .ret _) <| .req <| (keeping_peek ..).bind fun _ => (keeping_peek ..).bind fun _ =>
      (keeping_peek ..).bind fun _ => .ite ((keeping_iretReal ..).bind fun _ => .ret _) <| .ite (.stop _) <|
      (keeping_checkReturnCs _).bind fun _ => .ite
        ((keeping_returnSame ..).bind fun _ => .sameThen (fun _ => rfl) (.ret _))
        ((keeping_returnOuter ..).bind fun _ => .sameThen (fun _ => rfl) (.ret _)))
    fun s h => by
      simp only [h, Bool.false_and, Bool.not_false, Bool.false_eq_true, if_false, if_true]
      exact .req <| (keeping_peek ..).bind fun _ => (keeping_peek ..).bind fun _ => (keeping_peek ..).bind fun _ =>
        (keeping_iretReal ..).bind fun _ => .ret _

end
end Sys2Proof.Machine
end

section
/-! The shared operations of the instructions keep what `Kept` says, in the order of their definitions; only the writers of the
system registers are missing here. -/
namespace Sys2Proof.Machine

section
variable {p : Bool} {α : Type}

/-! ## Flags and operands -/

theorem keeping_putStatus (st : Status) : Keeping p (putStatus st) := keeping_modFlags _

theorem keeping_putCarryOverflow (v : Bool) : Keeping p (putCarryOverflow v) := .answers fun _ => ⟨_, _, rfl, rfl⟩

theorem keeping_undefStatus : Keeping p undefStatus := .answers fun _ => ⟨_, _, rfl, rfl⟩

theorem keeping_putLogic {w : Nat} (r : BitVec w) : Keeping p (putLogic r) := .answers fun _ => ⟨_, _, rfl, rfl⟩

theorem keeping_place (sz : Size) (rm : Rm) (w : Bool) : Keeping p (place sz rm w) := by
  cases rm with
  | reg r => exact .ret _
  | mem m => exact .get fun _ => (keeping_locate ..).bind fun _ => .ret _

theorem keeping_readPlace (sz : Size) (q : Place) : Keeping p (readPlace sz q) := .answers fun _ => ⟨_, _, readPlace_apply .., rfl⟩

theorem keeping_writePlace (sz : Size) (q : Place) (v : BitVec sz.bits) : Keeping p (writePlace sz q v) := by
  cases q with
  | reg r => exact keeping_putReg ..
  | mem l => exact keeping_storeLoc ..

theorem keeping_readRm (sz : Size) (rm : Rm) : Keeping p (readRm sz rm) := (keeping_place ..).bind fun _ => keeping_readPlace ..

theorem keeping_writeRm (sz : Size) (rm : Rm) (v : BitVec sz.bits) : Keeping p (writeRm sz rm v) :=
  (keeping_place ..).bind fun _ => keeping_writePlace ..

theorem keeping_modifyRm (sz : Size) (rm : Rm) {f : BitVec sz.bits → M (BitVec sz.bits)} (h : ∀ v, Keeping p (f v)) :
    Keeping p (modifyRm sz rm f) :=
  (keeping_place ..).bind fun _ => (keeping_readPlace ..).bind fun _ => (h _).bind fun _ => keeping_writePlace ..

theorem keeping_onlyMem (rm : Rm) : Keeping p (onlyMem rm) := by
  cases rm with
  | reg r => exact .exc _ _
  | mem m => exact .ret _

theorem keeping_readPart (sz : Size) (m : Mem) (n : Nat) : Keeping p (readPart sz m n) := .get fun _ => keeping_lread ..

theorem keeping_checkWhole (m : Mem) (n : Nat) (k : AccessKind) : Keeping p (checkWhole m n k) :=
  .get fun _ => .ite (.ret _) (keeping_segFault _)

theorem keeping_readFarPtr (sz : Size) (rm : Rm) : Keeping p (readFarPtr sz rm) :=
  (keeping_onlyMem _).bind fun _ => (keeping_checkWhole ..).bind fun _ => (keeping_readPart ..).bind fun _ =>
    (keeping_readPart ..).bind fun _ => .ret _

/-! ## Arithmetic and logic -/

theorem keeping_alu (op : AluOp) {w : Nat} (a b : BitVec w) : Keeping p (alu op a b) := .get fun _ => by
  cases op with
  | add | adc | sub | cmp | sbb => exact (keeping_putStatus _).bind fun _ => .ret _
  | and | or | xor => exact (keeping_putLogic _).bind fun _ => .ret _

theorem keeping_aluTo (op : AluOp) (sz : Size) (rm : Rm) (b : BitVec sz.bits) : Keeping p (aluTo op sz rm b) :=
  keeping_modifyRm _ _ fun _ => keeping_alu ..

theorem keeping_aluEG (op : AluOp) (sz : Size) (rm : Rm) (r : Reg) : Keeping p (aluEG op sz rm r) :=
  (keeping_getReg ..).bind fun _ => keeping_aluTo ..

theorem keeping_aluGE (op : AluOp) (sz : Size) (r : Reg) (rm : Rm) : Keeping p (aluGE op sz r rm) :=
  (keeping_readRm ..).bind fun _ => keeping_aluTo ..

theorem keeping_cmpWith (sz : Size) (rm : Rm) (b : BitVec sz.bits) : Keeping p (cmpWith sz rm b) :=
  (keeping_readRm ..).bind fun _ => (keeping_alu ..).bind fun _ => .ret _

theorem keeping_cmpEG (sz : Size) (rm : Rm) (r : Reg) : Keeping p (cmpEG sz rm r) :=
  (keeping_getReg ..).bind fun _ => keeping_cmpWith ..

theorem keeping_cmpGE (sz : Size) (r : Reg) (rm : Rm) : Keeping p (cmpGE sz r rm) :=
  (keeping_readRm ..).bind fun _ => keeping_cmpWith ..

theorem keeping_testWith (sz : Size) (rm : Rm) (b : BitVec sz.bits) : Keeping p (testWith sz rm b) :=
  (keeping_readRm ..).bind fun _ => keeping_putLogic _

theorem keeping_testEG (sz : Size) (rm : Rm) (r : Reg) : Keeping p (testEG sz rm r) :=
  (keeping_getReg ..).bind fun _ => keeping_testWith ..

theorem keeping_incRm (sz : Size) (rm : Rm) : Keeping p (incRm sz rm) :=
  keeping_modifyRm _ _ fun _ => (keeping_modFlags _).bind fun _ => .ret _

theorem keeping_decRm (sz : Size) (rm : Rm) : Keeping p (decRm sz rm) :=
  keeping_modifyRm _ _ fun _ => (keeping_modFlags _).bind fun _ => .ret _

theorem keeping_negRm (sz : Size) (rm : Rm) : Keeping p (negRm sz rm) :=
  keeping_modifyRm _ _ fun _ => (keeping_putStatus _).bind fun _ => .ret _

theorem keeping_notRm (sz : Size) (rm : Rm) : Keeping p (notRm sz rm) := keeping_modifyRm _ _ fun _ => .ret _

theorem keeping_putWide (sz : Size) (v : Int) : Keeping p (putWide sz v) := (keeping_putReg ..).bind fun _ => keeping_putReg ..

theorem keeping_mulRm (sz : Size) (rm : Rm) : Keeping p (mulRm sz rm) :=
  (keeping_readRm ..).bind fun _ => (keeping_getReg ..).bind fun _ => (keeping_putWide ..).bind fun _ => keeping_putCarryOverflow _

theorem keeping_imulRm (sz : Size) (rm : Rm) : Keeping p (imulRm sz rm) :=
  (keeping_readRm ..).bind fun _ => (keeping_getReg ..).bind fun _ => (keeping_putWide ..).bind fun _ => keeping_putCarryOverflow _

theorem keeping_imulTo (sz : Size) (r : Reg) (a b : BitVec sz.bits) : Keeping p (imulTo sz r a b) :=
  (keeping_putReg ..).bind fun _ => keeping_putCarryOverflow _

theorem keeping_imulGE (sz : Size) (r : Reg) (rm : Rm) : Keeping p (imulGE sz r rm) :=
  (keeping_readRm ..).bind fun _ => (keeping_getReg ..).bind fun _ => keeping_imulTo ..

theorem keeping_imulGEI (sz : Size) (r : Reg) (rm : Rm) (i : BitVec sz.bits) : Keeping p (imulGEI sz r rm i) :=
  (keeping_readRm ..).bind fun _ => keeping_imulTo ..

theorem keeping_divRm (sz : Size) (rm : Rm) : Keeping p (divRm sz rm) :=
  (keeping_readRm ..).bind fun _ => (keeping_getReg ..).bind fun _ => (keeping_getReg ..).bind fun _ => .req <| .req <|
    (keeping_putReg ..).bind fun _ => (keeping_putReg ..).bind fun _ => keeping_undefStatus

theorem keeping_idivRm (sz : Size) (rm : Rm) : Keeping p (idivRm sz rm) :=
  (keeping_readRm ..).bind fun _ => (keeping_getReg ..).bind fun _ => (keeping_getReg ..).bind fun _ => .req <| .req <|
    (keeping_putReg ..).bind fun _ => (keeping_putReg ..).bind fun _ => keeping_undefStatus

/-! ## Bits, shifts and decimal adjustment -/

theorem keeping_putBitFlags (v : Bool) : Keeping p (putBitFlags v) := .answers fun _ => ⟨_, _, rfl, rfl⟩

theorem keeping_bitAt (op : BitOp) (sz : Size) (q : Place) (n : Nat) : Keeping p (bitAt op sz q n) :=
  (keeping_readPlace ..).bind fun _ => (keeping_putBitFlags _).bind fun _ => .ite (.ret _) (keeping_writePlace ..)

theorem keeping_bitImm (op : BitOp) (sz : Size) (rm : Rm) (i : BitVec 8) : Keeping p (bitImm op sz rm i) :=
  (keeping_place ..).bind fun _ => keeping_bitAt ..

theorem keeping_bitReg (op : BitOp) (sz : Size) (rm : Rm) (r : Reg) : Keeping p (bitReg op sz rm r) := .get fun _ => by
  cases rm with
  | reg e => exact keeping_bitAt ..
  | mem m => exact (keeping_locate ..).bind fun _ => keeping_bitAt ..

theorem keeping_putScanFlags (zf : Bool) : Keeping p (putScanFlags zf) := .answers fun _ => ⟨_, _, rfl, rfl⟩

theorem keeping_bitScan (index : {w : Nat} → BitVec w → Nat) (sz : Size) (r : Reg) (rm : Rm) : Keeping p (bitScan index sz r rm) :=
  (keeping_readRm ..).bind fun _ => .ite
    ((keeping_draw _).bind fun _ => (keeping_putReg ..).bind fun _ => keeping_putScanFlags _)
    ((keeping_putReg ..).bind fun _ => keeping_putScanFlags _)

theorem keeping_putShiftFlags (op : ShiftOp) {w : Nat} (c : Nat) (v : BitVec w) (r : BitVec w × Bool) :
    Keeping p (putShiftFlags op c v r) := by
  have h (o : Bool) : Keeping p (if op.isShift then (do
      let af ← drawBool
      putStatus { CF := r.2, PF := parityOf r.1, AF := af, ZF := zeroOf r.1, SF := signOf r.1, OF := o })
    else modFlags fun f => { f with CF := r.2, OF := o }) :=
    .ite (keeping_drawBool.bind fun _ => keeping_putStatus _) (keeping_modFlags _)
  exact .ite ((Keeping.ret _).bind h) (keeping_drawBool.bind h)

theorem keeping_shiftBy (op : ShiftOp) (sz : Size) (rm : Rm) (c : BitVec 8) : Keeping p (shiftBy op sz rm c) :=
  .ite (.ret _) <| keeping_modifyRm _ _ fun _ => .get fun _ => (keeping_putShiftFlags ..).bind fun _ => .ret _

theorem keeping_shiftCl (op : ShiftOp) (sz : Size) (rm : Rm) : Keeping p (shiftCl op sz rm) :=
  (keeping_getReg ..).bind fun _ => keeping_shiftBy ..

theorem keeping_doubleShift (f : {w : Nat} → BitVec w → BitVec w → Nat → BitVec w × Bool) (sz : Size) (rm : Rm) (r : Reg)
    (c : BitVec 8) : Keeping p (doubleShift f sz rm r c) :=
  .ite (.ret _) <| (keeping_getReg ..).bind fun _ => keeping_modifyRm _ _ fun _ => .ite
    ((keeping_draw _).bind fun _ => keeping_undefStatus.bind fun _ => .ret _)
    (keeping_drawBool.bind fun _ => keeping_drawBool.bind fun _ => (keeping_putStatus _).bind fun _ => .ret _)

theorem keeping_doubleShiftCl (f : {w : Nat} → BitVec w → BitVec w → Nat → BitVec w × Bool) (sz : Size) (rm : Rm) (r : Reg) :
    Keeping p (doubleShiftCl f sz rm r) := (keeping_getReg ..).bind fun _ => keeping_doubleShift ..

theorem keeping_setByte (cc : Cond) (rm : Rm) : Keeping p (setByte cc rm) := .get fun _ => keeping_writeRm ..

theorem keeping_putPacked (r : BitVec 8 × Bool × Bool) : Keeping p (putPacked r) := .answers fun _ => ⟨_, _, rfl, rfl⟩

theorem keeping_decAdjAdd : Keeping p decAdjAdd := .get fun _ => keeping_putPacked _

theorem keeping_decAdjSub : Keeping p decAdjSub := .get fun _ => keeping_putPacked _

theorem keeping_unpackedAdjust (a b : BitVec 8) : Keeping p (unpackedAdjust a b) := .answers fun _ => ⟨_, _, rfl, rfl⟩

theorem keeping_putAlFlags (al : BitVec 8) : Keeping p (putAlFlags al) := .answers fun _ => ⟨_, _, rfl, rfl⟩

theorem keeping_asciiAfterMul (i : BitVec 8) : Keeping p (asciiAfterMul i) :=
  .req <| (keeping_getReg ..).bind fun _ => (keeping_putReg ..).bind fun _ => (keeping_putReg ..).bind fun _ => keeping_putAlFlags _

theorem keeping_asciiBeforeDiv (i : BitVec 8) : Keeping p (asciiBeforeDiv i) :=
  (keeping_getReg ..).bind fun _ => (keeping_getReg ..).bind fun _ => (keeping_putReg ..).bind fun _ => (keeping_putReg ..).bind fun _ =>
    keeping_putAlFlags _

/-! ## Near control transfer -/

theorem keeping_nearTarget (t : BitVec 32) : Keeping p (nearTarget t) := .get fun _ => .req <| .ret _

theorem keeping_nearTransfer (t : BitVec 32) : Keeping p (nearTransfer t) := (keeping_nearTarget _).bind fun _ => keeping_jump _

theorem keeping_jmpRel8 (i : BitVec 8) : Keeping p (jmpRel8 i) := .get fun _ => keeping_nearTransfer _

theorem keeping_jmpRelV (i : BitVec 32) : Keeping p (jmpRelV i) := .get fun _ => keeping_nearTransfer _

theorem keeping_jmpRm (sz : Size) (rm : Rm) : Keeping p (jmpRm sz rm) := (keeping_readRm ..).bind fun _ => keeping_nearTransfer _

theorem keeping_callTo (t : BitVec 32) : Keeping p (callTo t) :=
  (keeping_nearTarget _).bind fun _ => .get fun _ => (keeping_push ..).bind fun _ => keeping_jump _

theorem keeping_callRel (i : BitVec 32) : Keeping p (callRel i) := .get fun _ => keeping_callTo _

theorem keeping_callRm (sz : Size) (rm : Rm) : Keeping p (callRm sz rm) := (keeping_readRm ..).bind fun _ => keeping_callTo _

theorem keeping_retNear (sz : Size) (n : Nat) : Keeping p (retNear sz n) :=
  (keeping_peek ..).bind fun _ => (keeping_nearTarget _).bind fun _ => .same fun _ => rfl

theorem keeping_jumpIf (c : Bool) (t : BitVec 32) : Keeping p (jumpIf c t) := .ite (keeping_nearTransfer _) (.ret _)

theorem keeping_jccRel8 (cc : Cond) (i : BitVec 8) : Keeping p (jccRel8 cc i) := .get fun _ => keeping_jumpIf ..

theorem keeping_jccRelV (cc : Cond) (i : BitVec 32) : Keeping p (jccRelV cc i) := .get fun _ => keeping_jumpIf ..

theorem keeping_loopWith (go : Eflags → Bool) (i : BitVec 8) : Keeping p (loopWith go i) :=
  .get fun _ => .ite ((keeping_nearTarget _).bind fun _ => (keeping_putReg ..).bind fun _ => keeping_jump _) (keeping_putReg ..)

theorem keeping_jumpCountZero (i : BitVec 8) : Keeping p (jumpCountZero i) := .get fun _ => keeping_jumpIf ..

theorem keeping_softInt (v : BitVec 8) : Keeping p (softInt v) := .get fun _ => keeping_deliverOnce _

theorem keeping_intOverflow : Keeping p intOverflow := .get fun _ => .ite ((keeping_softInt _).bind fun _ => .ret _) (.ret _)

theorem keeping_boundCheck (sz : Size) (r : Reg) (rm : Rm) : Keeping p (boundCheck sz r rm) :=
  (keeping_onlyMem _).bind fun _ => .get fun _ => (keeping_locate ..).bind fun _ => (keeping_loadLoc ..).bind fun _ =>
    (keeping_loadLoc ..).bind fun _ => (keeping_getReg ..).bind fun _ => keeping_require ..

/-! ## Data movement -/

theorem keeping_movEG (sz : Size) (rm : Rm) (r : Reg) : Keeping p (movEG sz rm r) := (keeping_getReg ..).bind fun _ => keeping_writeRm ..

theorem keeping_movGE (sz : Size) (r : Reg) (rm : Rm) : Keeping p (movGE sz r rm) := (keeping_readRm ..).bind fun _ => keeping_putReg ..

theorem keeping_movAccO (sz : Size) (off : BitVec 32) : Keeping p (movAccO sz off) :=
  .get fun _ => (keeping_lread ..).bind fun _ => keeping_putReg ..

theorem keeping_movOAcc (sz : Size) (off : BitVec 32) : Keeping p (movOAcc sz off) := .get fun _ => keeping_lwrite ..

theorem keeping_exchanging (q : Place) : Keeping p (modS fun s => s.exchanging q) := .same fun s => by
  cases q with
  | reg r => rfl
  | mem l =>
    unfold State.exchanging
    dsimp only
    split <;> rfl

theorem keeping_xchg (sz : Size) (rm : Rm) (r : Reg) : Keeping p (xchg sz rm r) :=
  (keeping_place ..).bind fun _ => (keeping_readPlace ..).bind fun _ => (keeping_getReg ..).bind fun _ => (keeping_exchanging _).bind fun _ =>
    (keeping_writePlace ..).bind fun _ => keeping_putReg ..

theorem keeping_pushReg (sz : Size) (r : Reg) : Keeping p (pushReg sz r) := (keeping_getReg ..).bind fun _ => keeping_push ..

theorem keeping_pushRm (sz : Size) (rm : Rm) : Keeping p (pushRm sz rm) := (keeping_readRm ..).bind fun _ => keeping_push ..

theorem keeping_popReg (sz : Size) (r : Reg) : Keeping p (popReg sz r) := (keeping_pop _).bind fun _ => keeping_putReg ..

theorem keeping_popRm (sz : Size) (rm : Rm) : Keeping p (popRm sz rm) := (keeping_pop _).bind fun _ => keeping_writeRm ..

theorem keeping_locateBelow (sz : Size) (b : Bool) (top : BitVec 32) (n : Nat) : Keeping p (locateBelow sz b top n) := by
  induction n generalizing top with
  | zero => exact .ret _
  | succ n ih => exact (keeping_locate ..).bind fun _ => (ih _).bind fun _ => .ret _

theorem keeping_storeAll {w : Nat} (ls : List Loc) (vs : List (BitVec w)) : Keeping p (storeAll ls vs) := by
  induction ls generalizing vs with
  | nil => exact .ret _
  | cons l ls ih =>
    cases vs with
    | nil => exact .ret _
    | cons v vs => exact (keeping_storeLoc ..).bind fun _ => ih _

theorem keeping_pushaRealCheck (sz : Size) : Keeping p (pushaRealCheck sz) :=
  .get fun _ => .ite (.ret _) <| .ite (.stop _) <| keeping_require ..

theorem keeping_pushAllRegs (sz : Size) : Keeping p (pushAllRegs sz) :=
  (keeping_pushaRealCheck _).bind fun _ => .get fun _ => .req <| (keeping_locateBelow ..).bind fun _ => (keeping_storeAll ..).bind fun _ =>
    keeping_setStackPtr _

theorem keeping_popAllRegs (sz : Size) : Keeping p (popAllRegs sz) :=
  .get fun _ => .req <| (keeping_peek ..).bind fun _ => (keeping_peek ..).bind fun _ => (keeping_peek ..).bind fun _ =>
    (keeping_peek ..).bind fun _ => (keeping_peek ..).bind fun _ => (keeping_peek ..).bind fun _ => (keeping_peek ..).bind fun _ =>
    (keeping_peek ..).bind fun _ => (keeping_putReg ..).bind fun _ => (keeping_putReg ..).bind fun _ => (keeping_putReg ..).bind fun _ =>
    (keeping_putReg ..).bind fun _ => (keeping_putReg ..).bind fun _ => (keeping_putReg ..).bind fun _ => (keeping_putReg ..).bind fun _ =>
    keeping_setStackPtr _

theorem keeping_signExtendAcc (o32 : Bool) : Keeping p (signExtendAcc o32) := .get fun _ => .ite (keeping_putReg ..) (keeping_putReg ..)

theorem keeping_signSpread (sz : Size) : Keeping p (signSpread sz) := .get fun _ => keeping_putReg ..

theorem keeping_movSx (src sz : Size) (r : Reg) (rm : Rm) : Keeping p (movSx src sz r rm) :=
  (keeping_readRm ..).bind fun _ => keeping_putReg ..

theorem keeping_movZx (src sz : Size) (r : Reg) (rm : Rm) : Keeping p (movZx src sz r rm) :=
  (keeping_readRm ..).bind fun _ => keeping_putReg ..

/-! ## Input and output -/

theorem keeping_ioMapBits (iobase a n : Nat) : Keeping p (ioMapBits iobase a n) := by
  induction n generalizing a with
  | zero => exact .ret _
  | succ n ih => exact .get fun _ => .req <| (keeping_sysRead ..).bind fun _ => .req <| ih _

theorem keeping_ioMapCheck (a : BitVec 16) (n : Nat) : Keeping p (ioMapCheck a n) :=
  .get fun _ => (keeping_sysRead ..).bind fun _ => .req <| keeping_ioMapBits ..

theorem keeping_ioCheck (a : BitVec 16) (n : Nat) : Keeping p (ioCheck a n) := .get fun _ => .ite (.ret _) (keeping_ioMapCheck ..)

theorem keeping_portRead (sz : Size) (a : BitVec 16) : Keeping p (portRead sz a) := .answers fun _ => ⟨_, _, rfl, rfl⟩

theorem keeping_portWrite (sz : Size) (a : BitVec 16) (v : BitVec sz.bits) : Keeping p (portWrite sz a v) := .same fun _ => rfl

theorem keeping_inPort (sz : Size) (a : BitVec 16) : Keeping p (inPort sz a) :=
  (keeping_ioCheck ..).bind fun _ => (keeping_portRead ..).bind fun _ => keeping_putReg ..

theorem keeping_outPort (sz : Size) (a : BitVec 16) : Keeping p (outPort sz a) :=
  (keeping_ioCheck ..).bind fun _ => (keeping_getReg ..).bind fun _ => keeping_portWrite ..

/-! ## Stack frames, flag transfers, the coprocessor -/

theorem keeping_copyDisplay (sz : Size) (n : Nat) (bp : BitVec 32) : Keeping p (copyDisplay sz n bp) := by
  induction n generalizing bp with
  | zero => exact .ret _
  | succ n ih => exact .get fun _ => (keeping_lread ..).bind fun _ => (keeping_push ..).bind fun _ => ih _

theorem keeping_enterFrame (sz : Size) (n : BitVec 16) (lvl : BitVec 8) : Keeping p (enterFrame sz n lvl) := by
  refine .get fun _ => (keeping_push ..).bind fun _ => .get fun s1 => ?_
  have h : ∀ u : Unit, Keeping p (do
      putReg sz .bp (s1.stackPtr.setWidth sz.bits)
      modS fun s => s.setStackPtr (s.below n.toNat)
      let s2 ← getS
      require (n == 0#16 || s2.seg.ss.inLimit s2.stackPtr n.toNat) vSS (zeroCode false)) := fun _ =>
    (keeping_putReg ..).bind fun _ => (keeping_setStackPtr _).bind fun _ => .get fun _ => keeping_require ..
  exact .ite (h ()) ((keeping_copyDisplay ..).bind fun _ => (keeping_push ..).bind h)

theorem keeping_leaveFrame (sz : Size) : Keeping p (leaveFrame sz) :=
  (keeping_setStackPtr _).bind fun _ => (keeping_pop _).bind fun _ => keeping_putReg ..

theorem keeping_loadAh : Keeping p loadAh := .answers fun _ => ⟨_, _, rfl, rfl⟩

theorem keeping_storeAh : Keeping p storeAh := .answers fun _ => ⟨_, _, rfl, rfl⟩

theorem keeping_pushFlags (sz : Size) : Keeping p (pushFlags sz) := .get fun _ => keeping_push ..

theorem keeping_popFlags (sz : Size) : Keeping p (popFlags sz) := (keeping_pop _).bind fun _ => .same fun _ => rfl

theorem keeping_copByteAt (r : SReg) (ea : BitVec 32) (w : Bool) (k : Nat) : Keeping p (copByteAt r ea w k) :=
  .get fun _ => keeping_locate ..

theorem keeping_copBytesAt (r : SReg) (ea : BitVec 32) (w : Bool) (k n : Nat) : Keeping p (copBytesAt r ea w k n) := by
  induction n generalizing k with
  | zero => exact .ret _
  | succ n ih => exact (keeping_copByteAt ..).bind fun _ => (ih _).bind fun _ => .ret _

theorem keeping_raiseOverrun : Keeping p (raiseOverrun : M α) := (keeping_draw _).bind fun _ => .stop _

theorem keeping_orOverrun (r : SReg) (wraps : Bool) {x : M Loc} (hx : Keeping p x) : Keeping p (orOverrun r wraps x) where
  within s := by
    have h := hx.within s
    unfold orOverrun
    by_cases hw : (wraps && !s.protectedMode) = true
    · rw [if_pos hw]
      exact (keeping_raiseOverrun (α := Loc)).within s
    · rw [if_neg hw]
      cases hr : x s with
      | ok l t =>
        rw [hr] at h
        cases wraps with
        | true => exact (keeping_segFault r).after h
        | false => exact h
      | error e t =>
        rw [hr] at h
        cases e with
        | exc e =>
          cases wraps with
          | true => exact (keeping_raiseOverrun (α := Loc)).after h
          | false => exact h
        | late | shutdown | abort | refuse => exact h

theorem keeping_copOperand (r : SReg) (ea : BitVec 32) (n : Nat) (w : Bool) : Keeping p (copOperand r ea n w) :=
  .get fun _ => .ite (.ret _) <| (keeping_copByteAt ..).bind fun _ => .ite (.ret _) <| (keeping_copByteAt ..).bind fun _ =>
    (keeping_orOverrun _ _ (keeping_copBytesAt ..)).bind fun _ => .ret _

theorem keeping_copExecute (op n : BitVec 3) (rm : Rm) : Keeping p (copExecute op n rm) :=
  .get fun s => .sameThen (fun _ => rfl) <| by
    cases rm with
    | reg r =>
      refine .sameThen (fun _ => rfl) ?_
      split
      · exact .ret _
      · exact keeping_putReg ..
    | mem m =>
      exact (keeping_copOperand ..).bind fun _ => .ite (.bind (.upd fun _ => kept_store ..) fun _ => .same fun _ => rfl)
        (.same fun _ => rfl)

theorem keeping_escape (op n : BitVec 3) (rm : Rm) : Keeping p (escape op n rm) :=
  .get fun _ => .req <| .req <| .req <| .ite (.stop _) (keeping_copExecute ..)

theorem keeping_waitCop : Keeping p waitCop :=
  .get fun _ => .req <| .ite (keeping_runAgain.bind fun _ => .ret _) <| .req <| .ret _

theorem keeping_loadEa (sz : Size) (r : Reg) (rm : Rm) : Keeping p (loadEa sz r rm) :=
  (keeping_onlyMem _).bind fun _ => .get fun _ => keeping_putReg ..

theorem keeping_translateAl : Keeping p translateAl := .get fun _ => (keeping_lread ..).bind fun _ => keeping_putReg ..

/-! ## Far control transfer and segment registers -/

theorem keeping_pushReturn (sz : Size) : Keeping p (pushReturn sz) := .get fun _ => (keeping_pushSel ..).bind fun _ => keeping_push ..

theorem keeping_pushReturnRoom (sz : Size) : Keeping p (pushReturnRoom sz) := .get fun _ => .req <| keeping_pushReturn _

theorem keeping_pushReturnReal (sz : Size) : Keeping p (pushReturnReal sz) := .get fun _ => .req <| keeping_pushReturn _

theorem keeping_farSame (kind : FarKind) (sz : Size) (d : Desc) (sel : BitVec 16) (t : BitVec 32) :
    Keeping true (farSame kind sz d sel t) :=
  .get fun _ => .req <| .join (keeping_pushReturnRoom _) fun _ => (keeping_loadCode ..).bind fun _ => keeping_jump _

theorem keeping_farCode (kind : FarKind) (d : Desc) (sel : BitVec 16) (off : BitVec 32) : Keeping true (farCode kind d sel off) :=
  .get fun _ => .req <| .req <| keeping_farSame ..

theorem keeping_copyParams (g : SegReg) (off : BitVec 32) (n : Nat) : Keeping p (copyParams g off n) := by
  induction n generalizing off with
  | zero => exact .ret _
  | succ n ih => exact (keeping_peek ..).bind fun _ => (keeping_innerPushAll ..).bind fun _ => ih _

theorem keeping_farInner (gate target : Desc) : Keeping true (farInner gate target) :=
  .get fun _ => (keeping_innerStack ..).bind fun _ => .req <| .req <| (keeping_setAccessed _).bind fun _ =>
    (keeping_setAccessed _).bind fun _ => (keeping_padSel ..).bind fun _ => (keeping_padSel ..).bind fun _ =>
    (keeping_innerPushAll ..).bind fun _ => (keeping_copyParams ..).bind fun _ => (keeping_innerPushAll ..).bind fun _ =>
    (keeping_putSeg ..).bind fun _ => .sameThen (fun _ => rfl) <| (keeping_putCode ..).bind fun _ => keeping_jump _

theorem keeping_farGate (kind : FarKind) (gate : Desc) (sel : BitVec 16) : Keeping true (farGate kind gate sel) :=
  .get fun _ => .req <| .req <| .req <| (keeping_fetchDescOr ..).bind fun _ => .req <| .req <| .req <|
    .ite (keeping_farInner ..) (keeping_farSame ..)

theorem keeping_farProtected (kind : FarKind) (sel : BitVec 16) (off : BitVec 32) : Keeping true (farProtected kind sel off) :=
  .req <| (keeping_fetchDescOr ..).bind fun _ => .ite ((keeping_farCode ..).bind fun _ => .ret _) <|
    .ite ((keeping_farGate ..).bind fun _ => .ret _) <| .ite ((keeping_viaTaskGate ..).bind fun _ => .ret _) <|
    .ite ((keeping_viaTss ..).bind fun _ => .ret _) <| .ite (.stop _) (.exc _ _)

theorem keeping_farReal (kind : FarKind) (sz : Size) (sel : BitVec 16) (off : BitVec 32) : Keeping p (farReal kind sz sel off) :=
  .get fun _ => .req <| .join (keeping_pushReturnReal _) fun _ => (keeping_loadCodeReal _).bind fun _ => keeping_jump _

theorem keeping_farTransfer (kind : FarKind) (sel : BitVec 16) (off : BitVec 32) : Keeping p (farTransfer kind sel off) :=
  .modes (fun s h => by rw [if_pos h]; exact keeping_farProtected ..) fun s h => by
    rw [if_neg (by simp [h])]
    exact (keeping_farReal ..).bind fun _ => .ret _

theorem keeping_farIndirect (kind : FarKind) (sz : Size) (rm : Rm) : Keeping p (farIndirect kind sz rm) :=
  (keeping_readFarPtr ..).bind fun _ => keeping_farTransfer ..

theorem keeping_retFarReal (sz : Size) (n : Nat) : Keeping p (retFarReal sz n) :=
  (keeping_peek ..).bind fun _ => (keeping_peek ..).bind fun _ => (keeping_loadCodeReal _).bind fun _ => .same fun _ => rfl

theorem keeping_retFar (sz : Size) (n : Nat) : Keeping p (retFar sz n) :=
  .modes
    (fun s h => by
      rw [if_neg (by simp [h])]
      exact .req <| (keeping_peek ..).bind fun _ => (keeping_peek ..).bind fun _ => (keeping_checkReturnCs _).bind fun _ =>
        .ite (keeping_returnSame ..) (keeping_returnOuter ..))
    fun s h => by
      rw [if_pos (by simp [h])]
      exact keeping_retFarReal ..

theorem keeping_storeWord (rm : Rm) (v : BitVec 16) : Keeping p (storeWord rm v) := .get fun _ => by
  cases rm with
  | mem m => exact keeping_writeRm ..
  | reg r => exact (keeping_padSel ..).bind fun _ => keeping_putReg ..

theorem keeping_movToSeg (n : BitVec 3) (rm : Rm) : Keeping p (movToSeg n rm) := by
  unfold movToSeg
  split
  · exact .exc _ _
  · exact .exc _ _
  · exact (keeping_readRm ..).bind fun _ => (keeping_loadSeg ..).bind fun _ => .ret _

theorem keeping_movFromSeg (rm : Rm) (n : BitVec 3) : Keeping p (movFromSeg rm n) := by
  unfold movFromSeg
  split
  · exact .exc _ _
  · exact .get fun _ => keeping_storeWord ..

theorem keeping_pushSeg (r : SReg) : Keeping p (pushSeg r) := .get fun _ => keeping_pushSel ..

theorem keeping_popSeg (sz : Size) (r : SReg) : Keeping p (popSeg sz r) :=
  (keeping_peek ..).bind fun _ => .get fun _ => (keeping_loadSeg ..).bind fun _ => .sameThen (fun _ => rfl) <| .ret _

theorem keeping_loadFarPtr (r : SReg) (sz : Size) (g : Reg) (rm : Rm) : Keeping p (loadFarPtr r sz g rm) :=
  (keeping_onlyMem _).bind fun _ => .get fun _ => .join (keeping_checkWhole ..) fun _ => (keeping_readPart ..).bind fun _ =>
    (keeping_lread ..).bind fun _ => (keeping_loadSeg ..).bind fun _ => keeping_putReg ..

/-! ## String instructions -/

theorem keeping_advance (sz : Size) (r : Reg) : Keeping p (advance sz r) := .get fun _ => keeping_putReg ..

theorem keeping_readSource (sz : Size) : Keeping p (readSource sz) := .get fun _ => keeping_lread ..

theorem keeping_stringStep (compares : Bool) {prim : M Unit} (h : Keeping p prim) : Keeping p (stringStep compares prim) :=
  .get fun _ => .ite (h.bind fun _ => .ret _) <| .ite (.ret _) <| h.bind fun _ => .get fun _ => (keeping_putReg ..).bind fun _ =>
    .ite (.ret _) <| .ite (.ret _) <| .ite (.ret _) <| keeping_runAgain.bind fun _ => .ret _

theorem keeping_movsElem (sz : Size) : Keeping p (movsElem sz) :=
  (keeping_readSource _).bind fun _ => .get fun _ => (keeping_lwrite ..).bind fun _ => (keeping_advance ..).bind fun _ => keeping_advance ..

theorem keeping_cmpsElem (sz : Size) : Keeping p (cmpsElem sz) :=
  (keeping_readSource _).bind fun _ => .get fun _ => (keeping_lread ..).bind fun _ => (keeping_putStatus _).bind fun _ =>
    (keeping_advance ..).bind fun _ => keeping_advance ..

theorem keeping_scasElem (sz : Size) : Keeping p (scasElem sz) :=
  .get fun _ => (keeping_lread ..).bind fun _ => (keeping_putStatus _).bind fun _ => keeping_advance ..

theorem keeping_lodsElem (sz : Size) : Keeping p (lodsElem sz) :=
  (keeping_readSource _).bind fun _ => (keeping_putReg ..).bind fun _ => keeping_advance ..

theorem keeping_stosElem (sz : Size) : Keeping p (stosElem sz) := .get fun _ => (keeping_lwrite ..).bind fun _ => keeping_advance ..

theorem keeping_insElem (sz : Size) : Keeping p (insElem sz) :=
  .get fun _ => (keeping_ioCheck ..).bind fun _ => (keeping_locate ..).bind fun _ => (keeping_portRead ..).bind fun _ =>
    (keeping_storeLoc ..).bind fun _ => keeping_advance ..

theorem keeping_outsElem (sz : Size) : Keeping p (outsElem sz) :=
  .get fun _ => (keeping_ioCheck ..).bind fun _ => (keeping_readSource _).bind fun _ => (keeping_portWrite ..).bind fun _ => keeping_advance ..

/-! ## System instructions that write no system register the frame speaks of -/

theorem keeping_privileged : Keeping p privileged := .get fun _ => keeping_require ..

theorem keeping_protectedOnly : Keeping p protectedOnly := .get fun _ => .ite (.ret _) (.exc _ _)

theorem keeping_readTable (rm : Rm) : Keeping p (readTable rm) :=
  (keeping_onlyMem _).bind fun _ => keeping_privileged.bind fun _ => (keeping_checkWhole ..).bind fun _ => (keeping_readPart ..).bind fun _ =>
    (keeping_readPart ..).bind fun _ => .get fun _ => .ret _

theorem keeping_storeTable (rm : Rm) (t : TableReg) : Keeping p (storeTable rm t) :=
  (keeping_onlyMem _).bind fun _ => (keeping_checkWhole ..).bind fun _ => .get fun _ => (keeping_locate ..).bind fun _ =>
    (keeping_locate ..).bind fun _ => (keeping_draw _).bind fun _ => (keeping_storeLoc ..).bind fun _ => keeping_storeLoc ..

theorem keeping_storeGdt (rm : Rm) : Keeping p (storeGdt rm) := .get fun _ => keeping_storeTable ..

theorem keeping_storeIdt (rm : Rm) : Keeping p (storeIdt rm) := .get fun _ => keeping_storeTable ..

theorem keeping_loadLdt (rm : Rm) : Keeping p (loadLdt rm) :=
  keeping_protectedOnly.bind fun _ => keeping_privileged.bind fun _ => (keeping_readRm ..).bind fun _ => .ite (.same fun _ => rfl) <|
    .req <| (keeping_fetchDescOr ..).bind fun _ => .req <| .req <| keeping_putLdt ..

theorem keeping_storeLdt (rm : Rm) : Keeping p (storeLdt rm) := keeping_protectedOnly.bind fun _ => .get fun _ => keeping_storeWord ..

theorem keeping_loadTr (rm : Rm) : Keeping p (loadTr rm) :=
  keeping_protectedOnly.bind fun _ => keeping_privileged.bind fun _ => (keeping_readRm ..).bind fun _ => .req <| .req <|
    (keeping_fetchDescOr ..).bind fun d => .ite (.stop _) <| .req <| .req <| (keeping_resolve ..).bind fun l =>
    .upd fun s => (kept_store s l (d.hi ||| 0x200#32)).trans (.same rfl)

theorem keeping_storeTask (rm : Rm) : Keeping p (storeTask rm) := keeping_protectedOnly.bind fun _ => .get fun _ => keeping_storeWord ..

theorem keeping_cr0Image : Keeping p cr0Image := (keeping_draw _).bind fun _ => .get fun _ => .ret _

theorem keeping_storeMsw (rm : Rm) : Keeping p (storeMsw rm) := keeping_cr0Image.bind fun _ => keeping_storeWord ..

theorem keeping_clearTs : Keeping p clearTs := keeping_privileged.bind fun _ => .upd fun s => kept_ts s false

theorem keeping_crImage (n : BitVec 3) : Keeping p (crImage n) :=
  .get fun _ => .ite keeping_cr0Image <| .ite (.ret _) <| (keeping_draw _).bind fun _ => .ret _

theorem keeping_movFromCr (r : Reg) (n : BitVec 3) : Keeping p (movFromCr r n) :=
  .joinElse (.exc _ _) fun _ => keeping_privileged.bind fun _ => (keeping_crImage _).bind fun _ => (keeping_putReg ..).bind fun _ =>
    keeping_undefStatus

theorem keeping_generalDetect : Keeping p generalDetect :=
  .get fun _ => .ite (.bind (.upd fun s => (kept_report s s.dbg.pending s.dbg.pendingBS s.dbg.pendingBT).trans
    (kept_dr6 _ (v := 0x2000#32) (by decide))) fun _ => .exc _ _) (.ret _)

theorem keeping_debugCheck (n : BitVec 3) : Keeping p (debugCheck n) :=
  .join (.exc _ _) fun _ => keeping_privileged.bind fun _ => keeping_generalDetect

theorem keeping_movFromDr (r : Reg) (n : BitVec 3) : Keeping p (movFromDr r n) :=
  (keeping_debugCheck _).bind fun _ => .get fun _ => (keeping_putReg ..).bind fun _ => keeping_undefStatus

theorem keeping_tlbPair (x nx : Bool) : Keeping p (tlbPair x nx) := .ite (.ret _) keeping_drawBool

theorem keeping_tlbPairMatches (x nx b : Bool) : Keeping p (tlbPairMatches x nx b) := .ite (.ret _) keeping_drawBool

theorem keeping_tlbProbe (c : BitVec 32) (block : Nat) : Keeping p (tlbProbe c block) :=
  .get fun _ => (keeping_tlbPairMatches ..).bind fun _ => (keeping_tlbPairMatches ..).bind fun _ => (keeping_tlbPairMatches ..).bind fun _ =>
    .ret _

theorem keeping_testCheck (n : BitVec 3) : Keeping p (testCheck n) := .joinElse (.exc _ _) fun _ => keeping_privileged

theorem keeping_movFromTr (r : Reg) (n : BitVec 3) : Keeping p (movFromTr r n) :=
  (keeping_testCheck _).bind fun _ => .get fun _ => (keeping_putReg ..).bind fun _ => keeping_undefStatus

theorem keeping_haltCpu : Keeping p haltCpu := keeping_privileged.bind fun _ => .same fun _ => rfl

theorem keeping_ioplCheck : Keeping p ioplCheck := .get fun _ => keeping_require ..

theorem keeping_clearIf : Keeping p clearIf := keeping_ioplCheck.bind fun _ => keeping_modFlags _

theorem keeping_setIf : Keeping p setIf := keeping_ioplCheck.bind fun _ => .get fun _ => (keeping_modFlags _).bind fun _ => .ret _

theorem keeping_adjustRpl (rm : Rm) (r : Reg) : Keeping p (adjustRpl rm r) :=
  keeping_protectedOnly.bind fun _ => (keeping_readRm ..).bind fun _ => (keeping_getReg ..).bind fun _ =>
    .ite ((keeping_writeRm ..).bind fun _ => keeping_modFlags _) (keeping_modFlags _)

theorem keeping_selectorTest (rm : Rm) (ok : BitVec 2 → BitVec 2 → Desc → Bool) : Keeping p (selectorTest rm ok) :=
  keeping_protectedOnly.bind fun _ => (keeping_readRm ..).bind fun _ => .ite (.ret _) <| (keeping_fetchDesc _).bind fun _ => .get fun _ => by
    split <;> exact .ret _

theorem keeping_testPassed (d : Desc) : Keeping p (testPassed d) :=
  .get fun _ => (keeping_modFlags _).bind fun _ => .ite (keeping_setAccessed _) (.ret _)

theorem keeping_testFailed : Keeping p testFailed := keeping_modFlags _

theorem keeping_loadRights (sz : Size) (r : Reg) (rm : Rm) : Keeping p (loadRights sz r rm) := (keeping_selectorTest ..).bind fun _ => by
  split
  · exact keeping_testFailed
  · exact (keeping_draw _).bind fun _ => (keeping_putReg ..).bind fun _ => keeping_testPassed _

theorem keeping_loadLimit (sz : Size) (r : Reg) (rm : Rm) : Keeping p (loadLimit sz r rm) := (keeping_selectorTest ..).bind fun _ => by
  split
  · exact keeping_testFailed
  · exact (keeping_putReg ..).bind fun _ => keeping_testPassed _

theorem keeping_verify (ok : BitVec 2 → BitVec 2 → Desc → Bool) (rm : Rm) : Keeping p (verify ok rm) :=
  (keeping_selectorTest ..).bind fun _ => by
    split
    · exact keeping_testFailed
    · exact keeping_testPassed _

/-! ## The boundary and the fetch -/

theorem keeping_instrHit (k : Fin 4) : Keeping p (instrHit k) := .get fun _ => .ite (.ite keeping_drawBool (.ret _)) (.ret _)

theorem keeping_instrBreakpoints : Keeping p instrBreakpoints :=
  .get fun _ => .ite ((keeping_instrHit _).bind fun _ => (keeping_instrHit _).bind fun _ => (keeping_instrHit _).bind fun _ =>
    (keeping_instrHit _).bind fun _ => .ret _) (.ret _)

theorem keeping_boundaryEvent : Keeping p boundaryEvent :=
  .get fun _ => .ite (.sameThen (fun _ => rfl) <| .ret _) <| keeping_instrBreakpoints.bind fun _ =>
    .ite (.bind (.upd fun _ => kept_report ..) fun _ => .ret _) <| .ite (.sameThen (fun _ => rfl) <| .ret _) <| .ite
    (by
      split
      · exact .sameThen (fun _ => rfl) <| .ret _
      · exact .ret _)
    (.ret _)

theorem keeping_codeByte (k : Nat) : Keeping p (codeByte k) := .get fun _ => (keeping_resolve ..).bind fun _ => keeping_loadLoc ..

theorem keeping_fetchByte (k : Nat) : Keeping p (fetchByte k) := by
  have h (b : Byte) : Keeping p (do modS fun s => { s with fetched := s.fetched ++ [b] }; pure b) := .sameThen (fun _ => rfl) <| .ret _
  refine .get fun _ => .ite (.sameThen (fun _ => rfl) ?_) (.exc _ _)
  dsimp only
  split
  · exact (Keeping.ret _).bind h
  · exact (keeping_codeByte _).bind h

theorem keeping_fetchFrom (fuel : Nat) (acc : List Byte) : Keeping p (fetchFrom fuel acc) := by
  induction fuel generalizing acc with
  | zero => exact .exc _ _
  | succ n ih =>
    refine .get fun _ => ?_
    split
    · exact .ret _
    · exact .ite ((keeping_fetchByte _).bind fun _ => ih _) (.exc _ _)
    · exact .exc _ _
    · exact .exc _ _

theorem keeping_readAhead (k : Nat) : Keeping p (readAhead k) where
  within s := by
    have h := (keeping_codeByte (p := p) k).within s
    unfold readAhead
    by_cases hk : s.mayFetch k = true
    · rw [if_pos hk]
      cases hx : codeByte k s with
      | ok b t => rw [hx] at h; exact h
      | error e t => exact fun _ => .same rfl
    · rw [if_neg hk]
      exact fun _ => .refl s

theorem keeping_refill (n k : Nat) (q : List (Option Byte)) : Keeping p (refill n k q) := by
  induction n generalizing k q with
  | zero => exact .ret _
  | succ n ih =>
    have h (b : Option Byte) : Keeping p (do let rest ← refill n (k + 1) q.tail; pure (b :: rest)) := (ih _ _).bind fun _ => .ret _
    unfold refill
    dsimp only
    split
    · exact (Keeping.ret _).bind h
    · exact keeping_drawBool.bind fun _ => .ite ((keeping_readAhead _).bind h) ((Keeping.ret _).bind h)

theorem keeping_prefetch (k : Nat) : Keeping p (prefetch k) := .get fun _ => (keeping_refill ..).bind fun _ => .same fun _ => rfl

theorem keeping_fetchInstr : Keeping p fetchInstr :=
  (keeping_fetchFrom ..).bind fun _ => .get fun _ => (keeping_prefetch _).bind fun _ => .sameThen (fun _ => rfl) <| .ret _

end
end Sys2Proof.Machine
end

section
/-! The writers of the system registers (LGDT, LIDT, LMSW, MOV to a control, debug or test register) keep the invariant: what they
write meets its clauses. MOV to CR0 may end protected mode, and keeps the mode clause because it runs at level 0. -/
namespace Sys2Proof.Machine

/-- The invariant still holds; where `z` says so, the computation begins at level 0 and stays there. -/
def Lasts (z : Bool) (s t : State) : Prop := (z = true → s.cpl = 0#2) → s.invariant → t.invariant ∧ (z = true → t.cpl = 0#2)

/-- A computation that keeps the invariant, whether it answers or stops. -/
structure Lasting (z : Bool) {α : Type} (x : M α) : Prop where
  within : Within (Lasts z) x

section
variable {z : Bool} {α β : Type}

/-! ## Combinators -/

theorem Lasts.refl (s : State) : Lasts z s s := fun hc hs => ⟨hs, hc⟩

theorem Lasts.of_kept {s t : State} (h : Kept s t) (hc : t.cpl = s.cpl) : Lasts z s t := fun h0 hs =>
  ⟨h.invariant hs, fun hz => hc.trans (h0 hz)⟩

theorem Lasting.ret (a : α) : Lasting z (pure a : M α) := ⟨within_pure .refl a⟩
theorem Lasting.exc (v : BitVec 8) (e : ErrCode) : Lasting z (raise v e : M α) := ⟨within_raise .refl v e⟩
theorem Lasting.upd {f : State → State} (h : ∀ s, Lasts z s (f s)) : Lasting z (modS f) := ⟨within_modS h⟩

theorem Lasting.ite {c : Prop} [Decidable c] {x y : M α} (hx : Lasting z x) (hy : Lasting z y) : Lasting z (if c then x else y) :=
  ⟨within_if hx.within hy.within⟩

theorem Lasting.bind {x : M α} {f : α → M β} (hx : Lasting z x) (hf : ∀ a, Lasting z (f a)) : Lasting z (x >>= f) :=
  ⟨within_bind (fun _ _ _ h k h0 hs => (h h0 hs).elim fun ht h0 => k h0 ht) hx.within fun a => (hf a).within⟩

theorem Lasting.get {f : State → M β} (h : ∀ s, Lasting z (f s)) : Lasting z (getS >>= f) := .bind ⟨within_getS .refl⟩ h

theorem Lasting.joinElse {c : Prop} [Decidable c] {x : M Unit} {k : Unit → M β} (hx : Lasting z x) (hk : ∀ u, Lasting z (k u)) :
    Lasting z (if c then k () else x >>= k) := .ite (hk ()) (hx.bind hk)

/-- A computation that always answers and leaves every guarded field alone. -/
theorem Lasting.answers {x : M α} (h : ∀ s, ∃ a t, x s = .ok a t ∧ t.guarded = s.guarded) : Lasting z x where
  within s := by
    obtain ⟨a, t, hx, ht⟩ := h s
    rw [hx]
    exact .of_kept (.same ht) (congrArg Guarded.cpl ht)

/-- What a computation keeps includes the invariant. -/
theorem Keeping.lasting {x : M α} (h : Keeping false x) : Lasting false x where
  within s := by
    have := h.within s
    split at this <;> exact fun _ hs => ⟨(this nofun).invariant hs, nofun⟩

/-- Past the check of a privileged instruction, the level is 0. -/
theorem Lasting.privileged {f : Unit → M β} (h : Lasting true (f ())) : Lasting false (privileged >>= f) where
  within s := by
    rw [bind_apply, Machine.privileged, bind_of_ok (getS_apply s), require_apply]
    by_cases hc : s.cpl = 0#2
    · have := h.within s
      simp only [hc, beq_self_eq_true, if_true]
      cases hf : f () s with
      | ok a t => rw [hf] at this; exact fun _ hs => ⟨(this (fun _ => hc) hs).1, nofun⟩
      | error e t => rw [hf] at this; exact fun _ hs => ⟨(this (fun _ => hc) hs).1, nofun⟩
    · simp only [hc, beq_iff_eq, if_false]
      exact .refl s

theorem lasting_getReg (sz : Size) (r : Reg) : Lasting z (getReg sz r) := .answers fun _ => ⟨_, _, rfl, rfl⟩

theorem lasting_undefStatus : Lasting z undefStatus := .answers fun _ => ⟨_, _, rfl, rfl⟩

/-! ## The writes -/

/-- What is masked with `a` has none of the bits of a disjoint mask. -/
theorem masked_disjoint {a b : BitVec 32} (h : a &&& b = 0#32) (v : BitVec 32) : v &&& a &&& b = 0#32 := by
  rw [BitVec.and_assoc, h, BitVec.and_zero]

theorem lasting_loadGdt (rm : Rm) : Lasting false (loadGdt rm) :=
  (keeping_readTable rm).lasting.bind fun _ => .upd fun _ _ hs => ⟨hs, nofun⟩

theorem lasting_loadIdt (rm : Rm) : Lasting false (loadIdt rm) :=
  (keeping_readTable rm).lasting.bind fun _ => .upd fun _ _ hs => ⟨hs, nofun⟩

/-- LMSW never clears PE. -/
theorem lasting_loadMsw (rm : Rm) : Lasting false (loadMsw rm) :=
  keeping_privileged.lasting.bind fun _ => (keeping_readRm ..).lasting.bind fun v => .upd fun s _ hs => by
    obtain ⟨hst, hres, ⟨hpg, hcpl⟩, hpfx⟩ := hs
    have hmode : (s.cr0.PG = true → (s.cr0.PE || v.getLsbD 0) = true) ∧ ((s.cr0.PE || v.getLsbD 0) = false → s.cpl = 0#2) :=
      ⟨fun h => by rw [hpg h, Bool.true_or], fun h => hcpl (Bool.or_eq_false_iff.1 h).1⟩
    exact ⟨⟨hst, hres, hmode, hpfx⟩, nofun⟩

/-- CR0 as MOV writes it at level 0: paging asks for protection. -/
theorem lasts_cr0 {c : Cr0} (h : c.PG = true → c.PE = true) (s : State) : Lasts true s { s with cr0 := c } :=
  fun h0 ⟨hst, hres, _, hpfx⟩ => ⟨⟨hst, hres, ⟨h, fun _ => h0 rfl⟩, hpfx⟩, h0⟩

theorem Lasts.flushTlb {s t : State} (h : Lasts z s t) : Lasts z s t.flushTlb := fun h0 hs =>
  (h h0 hs).imp_left (Kept.refl t).flushTlb.invariant

theorem lasting_writeCr0 (v : BitVec 32) : Lasting true (writeCr0 v) where
  within s := by
    rw [writeCr0, bind_apply, require_apply]
    cases hv : !v.getLsbD 31 || v.getLsbD 0 with
    | false => exact .refl s
    | true =>
      have hc : Lasts true s { s with cr0 := ⟨v.getLsbD 0, v.getLsbD 1, v.getLsbD 2, v.getLsbD 3, v.getLsbD 4, v.getLsbD 31⟩ } :=
        lasts_cr0 (fun (h : v.getLsbD 31 = true) => by rwa [h, Bool.not_true, Bool.false_or] at hv) s
      simp only [if_true, modS_apply]
      split
      · exact hc
      · exact hc.flushTlb

theorem lasting_movToCr (n : BitVec 3) (r : Reg) : Lasting false (movToCr n r) := by
  unfold movToCr
  refine .joinElse (.exc _ _) fun _ => .privileged ((lasting_getReg ..).bind fun v => ?_)
  have hcr2 (s : State) : Lasts true s { s with cr2 := v } := .of_kept (.same rfl) rfl
  have hcr3 (s : State) : Lasts true s { s with cr3 := v.extractLsb' 12 20 }.flushTlb := .flushTlb (.of_kept (.same rfl) rfl)
  exact .ite ((lasting_writeCr0 v).bind fun _ => lasting_undefStatus) <|
    .ite ((Lasting.upd hcr2).bind fun _ => lasting_undefStatus)
      ((Lasting.upd hcr3).bind fun _ => lasting_undefStatus)

/-- A debug register written keeps the unimplemented bits 0 (10_state.md R78, R79). -/
theorem reserved_debug_write (d : Debug) (n : BitVec 3) (v : BitVec 32) (h6 : d.dr6 &&& 0xFFFF1FF0#32 = 0#32)
    (h7 : d.dr7 &&& 0x0000FC00#32 = 0#32) :
    (d.write n v).dr6 &&& 0xFFFF1FF0#32 = 0#32 ∧ (d.write n v).dr7 &&& 0x0000FC00#32 = 0#32 := by
  unfold Debug.write
  split
  case h_5 => exact ⟨masked_disjoint (by decide) v, h7⟩
  case h_6 => exact ⟨h6, masked_disjoint (by decide) v⟩
  all_goals exact ⟨h6, h7⟩

theorem lasting_movToDr (n : BitVec 3) (r : Reg) : Lasting false (movToDr n r) :=
  (keeping_debugCheck n).lasting.bind fun _ => (lasting_getReg ..).bind fun v => .bind
    (.upd fun s _ hs => by
      obtain ⟨hst, ⟨h6, h7, ht⟩, hmode, hpfx⟩ := hs
      obtain ⟨h6, h7⟩ := reserved_debug_write s.dbg n v h6 h7
      exact ⟨⟨hst, ⟨h6, h7, ht⟩, hmode, hpfx⟩, nofun⟩)
    fun _ => lasting_undefStatus

/-! ## The TLB commands -/

theorem lasts_tlb (s : State) {b : List TlbEntry} (h : b.length = 32) : Lasts false s { s with tlb := b } :=
  fun _ hs => ⟨⟨⟨hs.1.1, h⟩, hs.2⟩, nofun⟩

theorem lasts_tr6 (s : State) {v : BitVec 32} (h : v &&& 0x1E#32 = 0#32) : Lasts false s { s with tr6 := v } :=
  fun _ ⟨hst, ⟨h6, h7, _, ht7⟩, hs⟩ => ⟨⟨hst, ⟨h6, h7, h, ht7⟩, hs⟩, nofun⟩

theorem lasts_tr7 (s : State) {v : BitVec 32} (h : v &&& 0xFE3#32 = 0#32) : Lasts false s { s with tr7 := v } :=
  fun _ ⟨hst, ⟨h6, h7, ht6, _⟩, hs⟩ => ⟨⟨hst, ⟨h6, h7, ht6, h⟩, hs⟩, nofun⟩

/-- TR6 as a lookup leaves it has bits 4 to 1 zero (10_state.md R82). -/
theorem tlbTag_reserved (e : TlbEntry) : tlbTag e &&& 0x1E#32 = 0#32 := by
  have h (x : BitVec 27) : (x ++ 0#4 ++ 1#1) &&& (0#27 ++ 15#4 ++ 0#1) = 0#32 := by
    simp only [BitVec.and_append, BitVec.and_zero, BitVec.zero_and]
    decide
  exact h _

/-- TR7 as a lookup leaves it has bits 11 to 5 and 1 to 0 zero (10_state.md R83). -/
theorem tr7_image_reserved (phys : BitVec 20) (ht : BitVec 1) (rep : BitVec 2) :
    (phys ++ 0#7 ++ ht ++ rep ++ 0#2) &&& 0xFE3#32 = 0#32 := by
  have h : (phys ++ 0#7 ++ ht ++ rep ++ 0#2) &&& (0#20 ++ 0x7F#7 ++ 0#1 ++ 0#2 ++ 3#2) = 0#32 := by
    simp only [BitVec.and_append, BitVec.and_zero, BitVec.zero_and]
    decide
  exact h

theorem drawTlb_length (n : Nat) (s : State) : ∃ b k, drawTlb n s = .ok b { s with draws := k } ∧ b.length = n := by
  induction n generalizing s with
  | zero => exact ⟨[], s.draws, rfl, rfl⟩
  | succ n ih =>
    obtain ⟨e, k, he⟩ : ∃ e k, drawEntry s = .ok e { s with draws := k } := ⟨_, _, rfl⟩
    obtain ⟨b, j, hb, hl⟩ := ih { s with draws := k }
    exact ⟨e :: b, j, by rw [drawTlb, bind_of_ok he, bind_of_ok hb]; rfl, congrArg (· + 1) hl⟩

/-- A TLB replaced by 32 other entries. -/
theorem lasting_newTlb {x : M (List TlbEntry)} (h : ∀ s, ∃ b k, x s = .ok b { s with draws := k } ∧ b.length = 32) :
    Lasting false (do let t ← x; modS fun s => { s with tlb := t }) where
  within s := by
    obtain ⟨b, k, hb, hl⟩ := h s
    rw [bind_of_ok hb, modS_apply]
    have hk : Lasts false s { s with draws := k } := .of_kept (.same rfl) rfl
    exact fun h0 hs => lasts_tlb _ hl nofun (hk h0 hs).1

theorem lasting_tlbWrite (c : BitVec 32) : Lasting false (tlbWrite c) :=
  (keeping_tlbPair ..).lasting.bind fun _ => (keeping_tlbPair ..).lasting.bind fun _ => (keeping_tlbPair ..).lasting.bind fun _ =>
    keeping_drawBool.lasting.bind fun _ => .get fun _ => .ite
      (.ite (lasting_newTlb (drawTlb_length 32)) (Keeping.upd fun s => kept_tlb s (List.length_set ..)).lasting) (.ret _)

theorem lasting_tlbLookup (c : BitVec 32) : Lasting false (tlbLookup c) := by
  refine (keeping_tlbProbe ..).lasting.bind fun _ => (keeping_tlbProbe ..).lasting.bind fun _ => (keeping_tlbProbe ..).lasting.bind fun _ =>
    (keeping_tlbProbe ..).lasting.bind fun _ => (keeping_draw _).lasting.bind fun _ => (keeping_draw _).lasting.bind fun _ =>
    keeping_drawBool.lasting.bind fun _ => .get fun _ => ?_
  have h (phys : BitVec 20) (ht : BitVec 1) (rep : BitVec 2) :
      Lasting false (modS fun s => { s with tr7 := phys ++ 0#7 ++ ht ++ rep ++ 0#2 }) :=
    .upd fun s => lasts_tr7 s (tr7_image_reserved ..)
  refine .ite (h ..) ?_
  split
  · exact .upd fun s h0 hs => (lasts_tr6 s (tlbTag_reserved _) h0 hs).elim fun hs h0 =>
      lasts_tr7 _ (tr7_image_reserved ..) h0 hs
  · exact h ..
  · exact h ..

theorem lasting_movToTr (n : BitVec 3) (r : Reg) : Lasting false (movToTr n r) :=
  (keeping_testCheck n).lasting.bind fun _ => (lasting_getReg ..).bind fun v => .ite
    (.bind (.upd fun s => lasts_tr6 s (masked_disjoint (by decide) v)) fun _ => .ite
      ((lasting_tlbLookup v).bind fun _ => lasting_undefStatus) ((lasting_tlbWrite v).bind fun _ => lasting_undefStatus))
    (.bind (.upd fun s => lasts_tr7 s (masked_disjoint (by decide) v)) fun _ => lasting_undefStatus)

end
end Sys2Proof.Machine
end

section
/-! Every step keeps the invariant. A predicate that survives whatever `Kept` allows, the completion of an instruction and the end of
a failed one survives every delivery and every instruction whose own body keeps it; the instructions are then the ordinary ones, the
writers of the system registers, and the prefixes. -/
namespace Sys2Proof.Machine

/-! ## Completion -/

/-- Reporting breakpoints changes no guarded field. -/
theorem guarded_reportBreakpoints : Within (fun s t => t.guarded = s.guarded) reportBreakpoints := by
  have same {f : State → State} (h : ∀ s, (f s).guarded = s.guarded) : Within (fun s t => t.guarded = s.guarded) (modS f) := within_modS h
  have seq {α β : Type} {x : M α} {f : α → M β} (hx : Within (fun s t => t.guarded = s.guarded) x)
      (hf : ∀ a, Within (fun s t => t.guarded = s.guarded) (f a)) : Within (fun s t => t.guarded = s.guarded) (x >>= f) :=
    within_bind (fun _ _ _ h k => k.trans h) hx hf
  exact seq (within_getS fun _ => rfl) fun _ => within_if
    (within_if (same fun _ => rfl) <| seq (fun _ => rfl) fun _ => seq (fun _ => rfl) fun _ =>
      within_if (same fun _ => rfl) <| within_if (same fun _ => rfl) fun _ => rfl)
    (same fun _ => rfl)

/-- Completion changes no guarded field but the prefixes read, which are forgotten. -/
theorem guarded_finished (s : State) (d : Done) : (s.finished d).guarded = { s.guarded with pfx := Prefixes.empty } := by
  have h := complete_ok d s
  rw [complete, bind_of_ok (modS_apply _ _)] at h
  obtain ⟨x, n, hx⟩ := reportBreakpoints_ok { s with dbg := { s.dbg with pending := s.dbg.pending.union s.dbg.late, late := Hits.none } }
  have hg := guarded_reportBreakpoints.ok hx
  rw [bind_of_ok hx, modS_apply] at h
  injection h with _ h
  rw [← h]
  exact congrArg (fun g : Guarded => { g with pfx := Prefixes.empty }) hg

/-- The invariant depends on the guarded fields only. -/
theorem invariant_of_guarded {s t : State} (h : t.guarded = { s.guarded with pfx := Prefixes.empty }) (hs : s.invariant) :
    t.invariant := by
  have hk : Kept { s with pfx := Prefixes.empty } t := .same h
  exact hk.invariant ⟨hs.1, hs.2.1, hs.2.2.1, prefixesOk_of_empty rfl⟩

/-! ## Predicates that survive deliveries and instructions -/

/-- A predicate on the machine that survives what `Kept` allows, completion, and the ways a failed attempt ends. -/
structure Stable (P : State → Prop) : Prop where
  kept : ∀ {s t : State}, Kept s t → P s → P t
  finished : ∀ {s : State} (d : Done), P s → P (s.finished d)
  rollback : ∀ {s t : State}, P s → P t → P (State.rollback s t)
  owing : ∀ {s : State} (e : Exc), P s → P (s.owing e)
  shutDown : ∀ {s : State}, P s → P s.shutDown

theorem stable_invariant : Stable State.invariant where
  kept h hs := h.invariant hs
  finished d hs := invariant_of_guarded (guarded_finished _ d) hs
  rollback := fun ⟨_, ⟨_, _, ht6, ht7⟩, hmode, _⟩ ⟨hmem, ⟨h6, h7, _, _⟩, _, _⟩ =>
    ⟨hmem, ⟨h6, h7, ht6, ht7⟩, hmode, prefixesOk_of_empty rfl⟩
  owing _ hs := invariant_of_guarded rfl hs
  shutDown hs := invariant_of_guarded rfl hs

section
variable {P : State → Prop}

/-- A delivery, with the nested exceptions it meets. -/
theorem Stable.of_deliver (hP : Stable P) {n : Nat} {ev : Event} {s t : State} (hs : P s) (h : deliver n ev s = .next t) : P t := by
  induction n generalizing ev s with
  | zero =>
    cases h
    exact hP.shutDown hs
  | succ n ih =>
    have hk := (keeping_deliverOnce (p := false) ev).within s
    rw [deliver] at h
    cases hx : deliverOnce ev s with
    | ok a u =>
      rw [hx] at h hk
      cases h
      exact hP.kept (hk nofun) hs
    | error e u =>
      rw [hx] at h hk
      have hu : P u := hP.kept (hk nofun) hs
      have hr : P (State.rollback s u) := hP.rollback hs hu
      cases e with
      | late e => cases h; exact hP.owing e hu
      | shutdown => cases h; exact hP.shutDown hr
      | refuse r => cases h
      | abort ret => exact ih hr h
      | exc y =>
        dsimp only at h
        split at h
        · cases h; exact hP.shutDown hr
        · split at h
          · exact ih hr h
          · exact ih hr h

/-- What an instruction's computation ends in. -/
theorem Stable.of_outcomeOf (hP : Stable P) {e : Halt} {s u t : State} (hs : P s) (hu : P u)
    (h : outcomeOf s (.error e u) = .next t) : P t := by
  have hr : P (State.rollback s u) := hP.rollback hs hu
  cases e with
  | exc e => exact hP.of_deliver hr h
  | late e => cases h; exact hP.owing e hu
  | shutdown => cases h; exact hP.shutDown hr
  | abort ret => exact hP.of_deliver hr h
  | refuse x => cases h

/-- An instruction whose body keeps the predicate keeps it, however it ends. -/
theorem Stable.of_runInstr (hP : Stable P) {lockable : Bool} {body : M Done} (hb : Within (fun s t => P s → P t) body) {s t : State}
    (hs : P s) (h : runInstr lockable body s = .next t) : P t := by
  by_cases hl : s.pfx.lock = false ∨ lockable = true
  · cases hx : body s with
    | ok d u =>
      rw [runInstr_of_ok hl hx] at h
      cases h
      exact hP.finished d (hb.ok hx hs)
    | error e u =>
      rw [runInstr_of_error hl hx] at h
      exact hP.of_outcomeOf hs (hb.error hx hs) h
  · obtain ⟨hlock, hable⟩ := not_or.1 hl
    rw [Bool.not_eq_false] at hlock
    rw [Bool.not_eq_true] at hable
    rw [hable, runInstr_locked hlock] at h
    exact hP.of_deliver (hP.rollback hs hs) h

/-- The body of an ordinary instruction keeps every stable predicate. -/
theorem Stable.of_keeping (hP : Stable P) {α : Type} {x : M α} (hx : Keeping false x) : Within (fun s t => P s → P t) x := fun s => by
  have := hx.within s
  split at this <;> exact hP.kept (this nofun)

end

/-! ## What every instruction runs -/

/-- The bodies that write a system register `Kept` speaks of. -/
inductive WritesSystem : M Unit → Prop where
  | loadGdt (rm : Rm) : WritesSystem (loadGdt rm)
  | loadIdt (rm : Rm) : WritesSystem (loadIdt rm)
  | loadMsw (rm : Rm) : WritesSystem (loadMsw rm)
  | movToCr (n : BitVec 3) (r : Reg) : WritesSystem (movToCr n r)
  | movToDr (n : BitVec 3) (r : Reg) : WritesSystem (movToDr n r)
  | movToTr (n : BitVec 3) (r : Reg) : WritesSystem (movToTr n r)

theorem WritesSystem.lasting {x : M Unit} (h : WritesSystem x) : Lasting false x := by
  cases h with
  | loadGdt rm => exact lasting_loadGdt rm
  | loadIdt rm => exact lasting_loadIdt rm
  | loadMsw rm => exact lasting_loadMsw rm
  | movToCr n r => exact lasting_movToCr n r
  | movToDr n r => exact lasting_movToDr n r
  | movToTr n r => exact lasting_movToTr n r

/-- What an instruction does in `s`: an ordinary body, a writer of the system registers, or a further prefix byte. -/
inductive Runs (s : State) : Host.Outcome State Fault Refusal → Prop where
  | ordinary {lockable : Bool} {body : M Done} (h : Keeping false body) : Runs s (runInstr lockable body s)
  | system {body : M Unit} (h : WritesSystem body) : Runs s (run body s)
  | prefixed (f : Prefixes → Prefixes) : Runs s (.next (s.withPrefix f))

theorem Runs.normal {s : State} {lockable : Bool} {x : M Unit} (h : Keeping false x) : Runs s (runNormal lockable x s) :=
  .ordinary (h.bind fun _ => .ret _)

/-- Every instruction, by the operation it shares with others. -/
theorem exec_runs (i : Instr) (s : State) : Runs s (exec i s) := by
  cases i with
  | addEbGb | addEvGv | orEbGb | orEvGv | adcEbGb | adcEvGv | sbbEbGb | sbbEvGv | andEbGb | andEvGv | subEbGb | subEvGv | xorEbGb
  | xorEvGv => exact .normal (keeping_aluEG ..)
  | addGbEb | addGvEv | orGbEb | orGvEv | adcGbEb | adcGvEv | sbbGbEb | sbbGvEv | andGbEb | andGvEv | subGbEb | subGvEv | xorGbEb
  | xorGvEv => exact .normal (keeping_aluGE ..)
  | addAlIb | addEaxIv | orAlIb | orEaxIv | adcAlIb | adcEaxIv | sbbAlIb | sbbEaxIv | andAlIb | andEaxIv | subAlIb | subEaxIv
  | xorAlIb | xorEaxIv | addEbIb | addEvIv | addEvIb | orEbIb | orEvIv | orEvIb | adcEbIb | adcEvIv | adcEvIb | sbbEbIb | sbbEvIv
  | sbbEvIb | andEbIb | andEvIv | andEvIb | subEbIb | subEvIv | subEvIb | xorEbIb | xorEvIv | xorEvIb =>
    exact .normal (keeping_aluTo ..)
  | cmpEbGb | cmpEvGv => exact .normal (keeping_cmpEG ..)
  | cmpGbEb | cmpGvEv => exact .normal (keeping_cmpGE ..)
  | cmpAlIb | cmpEaxIv | cmpEbIb | cmpEvIv | cmpEvIb => exact .normal (keeping_cmpWith ..)
  | aam => exact .normal (keeping_asciiAfterMul ..)
  | aad => exact .normal (keeping_asciiBeforeDiv ..)
  | incReg | incEb | incEv => exact .normal (keeping_incRm ..)
  | decReg | decEb | decEv => exact .normal (keeping_decRm ..)
  | pushReg => exact .normal (keeping_pushReg ..)
  | popReg => exact .normal (keeping_popReg ..)
  | boundGvMa => exact .normal (keeping_boundCheck ..)
  | arplEwGw => exact .normal (keeping_adjustRpl ..)
  | pushIv | pushIb => exact .normal (keeping_push ..)
  | imulGvEvIv | imulGvEvIb => exact .normal (keeping_imulGEI ..)
  | jccJb => exact .normal (keeping_jccRel8 ..)
  | testEbGb | testEvGv => exact .normal (keeping_testEG ..)
  | xchgEbGb | xchgEvGv | xchgEaxReg => exact .normal (keeping_xchg ..)
  | movEbGb | movEvGv => exact .normal (keeping_movEG ..)
  | movGbEb | movGvEv => exact .normal (keeping_movGE ..)
  | movEwSw => exact .normal (keeping_movFromSeg ..)
  | leaGvM => exact .normal (keeping_loadEa ..)
  | movSwEw => exact .ordinary (keeping_movToSeg ..)
  | popEv => exact .normal (keeping_popRm ..)
  | callFarAp | jmpFarAp => exact .ordinary (keeping_farTransfer ..)
  | movAlOb | movEaxOv => exact .normal (keeping_movAccO ..)
  | movObAl | movOvEax => exact .normal (keeping_movOAcc ..)
  | testAlIb | testEaxIv | testEbIb | testEvIv => exact .normal (keeping_testWith ..)
  | movR8Ib | movRegIv => exact .normal (keeping_putReg ..)
  | rolEbIb | rolEvIb | rolEb1 | rolEv1 | rorEbIb | rorEvIb | rorEb1 | rorEv1 | rclEbIb | rclEvIb | rclEb1 | rclEv1 | rcrEbIb
  | rcrEvIb | rcrEb1 | rcrEv1 | shlEbIb | shlEvIb | shlEb1 | shlEv1 | shrEbIb | shrEvIb | shrEb1 | shrEv1 | sarEbIb | sarEvIb
  | sarEb1 | sarEv1 => exact .normal (keeping_shiftBy ..)
  | rolEbCl | rolEvCl | rorEbCl | rorEvCl | rclEbCl | rclEvCl | rcrEbCl | rcrEvCl | shlEbCl | shlEvCl | shrEbCl | shrEvCl | sarEbCl
  | sarEvCl => exact .normal (keeping_shiftCl ..)
  | retNearIw | retNear => exact .normal (keeping_retNear ..)
  | lesGvMp | ldsGvMp | lssGvMp | lfsGvMp | lgsGvMp => exact .normal (keeping_loadFarPtr ..)
  | movEbIb | movEvIv => exact .normal (keeping_writeRm ..)
  | enter => exact .normal (keeping_enterFrame ..)
  | retFarIw | retFar => exact .normal (keeping_retFar ..)
  | intIb | int3 => exact .ordinary ((keeping_softInt _).bind fun _ => .ret _)
  | esc => exact .normal (keeping_escape ..)
  | loopne | loope | loop => exact .normal (keeping_loopWith ..)
  | jcxz => exact .normal (keeping_jumpCountZero ..)
  | inAlIb | inEaxIb | inAlDx | inEaxDx => exact .normal (keeping_inPort ..)
  | outIbAl | outIbEax | outDxAl | outDxEax => exact .normal (keeping_outPort ..)
  | callJv => exact .normal (keeping_callRel ..)
  | jmpJv => exact .normal (keeping_jmpRelV ..)
  | jmpJb => exact .normal (keeping_jmpRel8 ..)
  | notEb | notEv => exact .normal (keeping_notRm ..)
  | negEb | negEv => exact .normal (keeping_negRm ..)
  | mulEb | mulEv => exact .normal (keeping_mulRm ..)
  | imulEb | imulEv => exact .normal (keeping_imulRm ..)
  | divEb | divEv => exact .normal (keeping_divRm ..)
  | idivEb | idivEv => exact .normal (keeping_idivRm ..)
  | callNearEv => exact .normal (keeping_callRm ..)
  | callFarMp | jmpFarMp => exact .ordinary (keeping_farIndirect ..)
  | jmpNearEv => exact .normal (keeping_jmpRm ..)
  | pushEv => exact .normal (keeping_pushRm ..)
  | sldtEw => exact .normal (keeping_storeLdt ..)
  | strEw => exact .normal (keeping_storeTask ..)
  | lldtEw => exact .normal (keeping_loadLdt ..)
  | ltrEw => exact .normal (keeping_loadTr ..)
  | verrEw | verwEw => exact .normal (keeping_verify ..)
  | sgdtMs => exact .normal (keeping_storeGdt ..)
  | sidtMs => exact .normal (keeping_storeIdt ..)
  | lgdtMs => exact .system (.loadGdt ..)
  | lidtMs => exact .system (.loadIdt ..)
  | smswEw => exact .normal (keeping_storeMsw ..)
  | lmswEw => exact .system (.loadMsw ..)
  | larGvEw => exact .normal (keeping_loadRights ..)
  | lslGvEw => exact .normal (keeping_loadLimit ..)
  | movRdCd => exact .normal (keeping_movFromCr ..)
  | movRdDd => exact .normal (keeping_movFromDr ..)
  | movCdRd => exact .system (.movToCr ..)
  | movDdRd => exact .system (.movToDr ..)
  | movRdTd => exact .normal (keeping_movFromTr ..)
  | movTdRd => exact .system (.movToTr ..)
  | jccJv => exact .normal (keeping_jccRelV ..)
  | setccEb => exact .normal (keeping_setByte ..)
  | btEvGv | btsEvGv | btrEvGv | btcEvGv => exact .normal (keeping_bitReg ..)
  | shldEvGvIb | shrdEvGvIb => exact .normal (keeping_doubleShift ..)
  | shldEvGvCl | shrdEvGvCl => exact .normal (keeping_doubleShiftCl ..)
  | imulGvEv => exact .normal (keeping_imulGE ..)
  | movzxGvEb | movzxGdEw => exact .normal (keeping_movZx ..)
  | btEvIb | btsEvIb | btrEvIb | btcEvIb => exact .normal (keeping_bitImm ..)
  | bsfGvEv | bsrGvEv => exact .normal (keeping_bitScan ..)
  | movsxGvEb | movsxGdEw => exact .normal (keeping_movSx ..)
  | pushEs | pushCs | pushSs | pushDs | pushFs | pushGs => exact .normal (keeping_pushSeg ..)
  | popEs | popSs | popDs | popFs | popGs => exact .ordinary (keeping_popSeg ..)
  | prefixEs | prefixCs | prefixSs | prefixDs | prefixFs | prefixGs | prefixOpsize | prefixAdsize | prefixLock | prefixRepne
  | prefixRep => exact .prefixed _
  | daa => exact .normal keeping_decAdjAdd
  | das => exact .normal keeping_decAdjSub
  | aaa | aas => exact .normal (keeping_unpackedAdjust ..)
  | pusha => exact .normal (keeping_pushAllRegs ..)
  | popa => exact .normal (keeping_popAllRegs ..)
  | insb | insv => exact .ordinary (keeping_stringStep _ (keeping_insElem _))
  | outsb | outsv => exact .ordinary (keeping_stringStep _ (keeping_outsElem _))
  | nop => exact .normal (.ret _)
  | cbwCwde => exact .normal (keeping_signExtendAcc ..)
  | cwdCdq => exact .normal (keeping_signSpread ..)
  | wait => exact .ordinary keeping_waitCop
  | pushf => exact .normal (keeping_pushFlags ..)
  | popf => exact .ordinary ((keeping_popFlags _).bind fun _ => .ret _)
  | sahf => exact .normal keeping_storeAh
  | lahf => exact .normal keeping_loadAh
  | movsb | movsv => exact .ordinary (keeping_stringStep _ (keeping_movsElem _))
  | cmpsb | cmpsv => exact .ordinary (keeping_stringStep _ (keeping_cmpsElem _))
  | stosb | stosv => exact .ordinary (keeping_stringStep _ (keeping_stosElem _))
  | lodsb | lodsv => exact .ordinary (keeping_stringStep _ (keeping_lodsElem _))
  | scasb | scasv => exact .ordinary (keeping_stringStep _ (keeping_scasElem _))
  | leave => exact .normal (keeping_leaveFrame ..)
  | into => exact .ordinary keeping_intOverflow
  | iret => exact .ordinary keeping_interruptReturn
  | xlat => exact .normal keeping_translateAl
  | hlt => exact .normal keeping_haltCpu
  | cmc | clc | stc | cld | std => exact .normal (keeping_modFlags ..)
  | cli => exact .normal keeping_clearIf
  | sti => exact .ordinary keeping_setIf
  | clts => exact .normal keeping_clearTs
  | undef82 | undefD6 | undefF1 => exact .normal (.exc _ _)

/-! ## The step -/

/-- With 15 prefixes read there is no further instruction byte: #GP(0) (30_encoding.md R203). -/
theorem count_lt_of_fetchInstr {s t : State} {i : Instr} (h : fetchInstr s = .ok i t) : s.pfx.count < 15 := by
  by_contra hc
  have hd : decode s.attrs [] = .stop .needMore := rfl
  have hf : fetchFrom 16 [] s = .error (.exc ⟨vGP, zeroCode false⟩) s := by
    rw [fetchFrom, bind_of_ok (getS_apply s), hd]
    simp only [List.length_nil, Nat.add_zero, hc, if_false]
    rfl
  rw [fetchInstr, bind_of_error hf] at h
  cases h

/-- A further prefix byte, with room for it. -/
theorem invariant_withPrefix {s : State} (hs : s.invariant) (hc : s.pfx.count < 15) (f : Prefixes → Prefixes) :
    (s.withPrefix f).invariant :=
  ⟨hs.1, hs.2.1, hs.2.2.1, hc, nofun⟩

/-- An instruction keeps the invariant, a prefix byte where there is room for one. -/
theorem invariant_of_exec {i : Instr} {s t : State} (hs : s.invariant) (hc : s.pfx.count < 15) (h : exec i s = .next t) :
    t.invariant := by
  have hr := exec_runs i s
  rw [h] at hr
  generalize ho : Host.Outcome.next t = o at hr
  cases hr with
  | ordinary hb => exact stable_invariant.of_runInstr (stable_invariant.of_keeping hb) hs ho.symm
  | system hb =>
    have hw := (hb.lasting.bind fun _ => .ret Done.normal).within
    refine stable_invariant.of_runInstr (fun s => ?_) hs ho.symm
    have := hw s
    split at this <;> exact fun hs => (this nofun hs).1
  | prefixed f =>
    cases ho
    exact invariant_withPrefix hs hc f

theorem invariant_of_fetchAndRun {s t : State} (hs : s.invariant) (h : fetchAndRun s = .next t) : t.invariant := by
  have hk := (keeping_fetchInstr (p := false)).within s
  rw [fetchAndRun] at h
  cases hx : fetchInstr s with
  | ok i u =>
    rw [hx] at h hk
    have hc : u.pfx.count < 15 := by
      rw [(hk nofun).pfx]
      exact count_lt_of_fetchInstr hx
    exact invariant_of_exec ((hk nofun).invariant hs) hc h
  | error e u =>
    rw [hx] at h hk
    exact stable_invariant.of_outcomeOf hs ((hk nofun).invariant hs) h

theorem invariant_of_atBoundary {s t : State} (hs : s.invariant) (h : atBoundary s = .next t) : t.invariant := by
  have hn : s.sampleNmi.invariant := (Kept.same rfl).invariant hs
  have hk := (keeping_boundaryEvent (p := false)).within s.sampleNmi
  rw [atBoundary] at h
  cases hx : boundaryEvent s.sampleNmi with
  | ok ev u =>
    rw [hx] at h hk
    have hu : u.invariant := (hk nofun).invariant hn
    cases ev with
    | some ev => exact stable_invariant.of_deliver hu h
    | none =>
      dsimp only at h
      split at h
      · cases h; exact hu
      · have hb : u.beginInstr.invariant := (Kept.same rfl).invariant hu
        exact invariant_of_fetchAndRun hb h
  | error e u =>
    rw [hx] at h hk
    exact stable_invariant.of_outcomeOf hs ((hk nofun).invariant hn) h

theorem reservedOk_reset : State.reset.reservedOk := ⟨by decide, by decide, by decide, by decide⟩

theorem modeOk_reset : State.reset.modeOk := ⟨nofun, fun _ => rfl⟩

/-- RESET leaves memory as it was and everything else the invariant speaks of at its reset value. -/
theorem invariant_afterReset {s : State} (hs : s.invariant) : s.afterReset.invariant :=
  ⟨⟨hs.1.1, List.length_replicate⟩, reservedOk_reset, modeOk_reset, prefixesOk_of_empty rfl⟩

/-- Settles O54. -/
theorem resetMeetsTheInvariant : Obligations.ResetMeetsTheInvariant :=
  ⟨⟨rfl, List.length_replicate⟩, reservedOk_reset, modeOk_reset, prefixesOk_of_empty rfl⟩

/-- Settles O55, by the invariant over every computation a step can run. -/
theorem everyStepKeepsTheInvariant : Obligations.EveryStepKeepsTheInvariant := by
  intro s t hs h
  rw [step, stepOnce] at h
  split at h
  · cases h; exact invariant_afterReset hs
  split at h
  · cases h; exact hs
  split at h
  · cases h
  split at h
  · have hn : { s with pendingExc := none }.invariant := (Kept.same (s := s) rfl).invariant hs
    exact stable_invariant.of_deliver hn h
  split at h
  · exact invariant_of_atBoundary hs h
  · exact invariant_of_fetchAndRun hs h

end Sys2Proof.Machine
end

section
/-! Completion, the general registers by width, reset, and the machine that is shut down or halted. -/
namespace Sys2Proof.Machine

/-! ## Completion -/

/-- Settles O1: completion writes the fields of `finished_frame`, and of the debug registers none. -/
theorem completionLeavesTheRestAlone : Obligations.CompletionLeavesTheRestAlone := by
  intro s d
  dsimp only
  have hg := guarded_finished s d
  have hb := byteAt_finished s d
  obtain ⟨x, n, hf⟩ := finished_frame s d
  simp only [State.guarded, Guarded.mk.injEq] at hg
  obtain ⟨-, -, -, h0, h1, h2, h3, h6, h7, -⟩ := hg
  refine ⟨?_, ?_, ?_, ?_, ?_⟩
  · rw [hf]
  · rw [hf]
  · rw [hf]
    cases d <;> rfl
  · rw [hf]
    cases d <;> exact ⟨rfl, rfl⟩
  · simp only [h0, h1, h2, h3, h6, h7, hb, true_and, implies_true]
    simp only [hf, true_and]

/-! ## The general registers by width -/

section
variable (g : Gpr) (r : Reg)

/-- A register written at a width reads back what was written. -/
theorem Gpr.read_write_same (sz : Size) (v : BitVec sz.bits) : (g.write sz r v).read sz r = v := by
  cases sz with
  | b =>
    rw [Gpr.write_b]
    cases h : (byteHome r).2 with
    | true => simpa [Gpr.read, h] using extract_setByteHi _ v
    | false => simpa [Gpr.read, h] using extract_setByteLo _ v
  | w => simpa [Gpr.read, Gpr.write_w] using extract_setWordLo _ v
  | d => simp [Gpr.read, Gpr.write_d]

/-- A write changes no other doubleword than the one that holds the register. -/
theorem Gpr.get_write_other (sz : Size) (v : BitVec sz.bits) {x : Reg} (h : x ≠ if sz = .b then (byteHome r).1 else r) :
    (g.write sz r v).get x = g.get x := by
  cases sz with
  | b => rw [Gpr.write_b, Gpr.get_set, if_neg (by simpa using h)]
  | w => rw [Gpr.write_w, Gpr.get_set, if_neg (by simpa using h)]
  | d => rw [Gpr.write_d, Gpr.get_set, if_neg (by simpa using h)]

/-- A byte replaced keeps the bits of the doubleword outside it. -/
theorem getLsbD_setByte (x : BitVec 32) (v : BitVec 8) (hi : Bool) {k : Nat} (hk : k < 32) (ho : k / 8 ≠ if hi then 1 else 0) :
    (if hi then setByteHi x v else setByteLo x v).getLsbD k = x.getLsbD k := by
  cases hi with
  | false =>
    have h8 : ¬ k < 8 := fun h => ho (Nat.div_eq_of_lt h)
    have hs : 8 + (k - 8) = k := by omega
    have ht : k - 8 < 24 := by omega
    rw [if_neg Bool.false_ne_true, setByteLo, BitVec.getLsbD_append]
    simp [h8, hs, ht]
  | true =>
    rw [if_pos rfl, setByteHi, BitVec.getLsbD_append, BitVec.getLsbD_append]
    simp only [if_true] at ho
    by_cases h8 : k < 8
    · simp [h8]
    · have h16 : ¬ k - 8 < 8 := by omega
      have hs : 16 + (k - 8 - 8) = k := by omega
      have ht : k - 8 - 8 < 16 := by omega
      simp [h8, h16, hs, ht]

/-- A word replaced keeps bits 31 to 16. -/
theorem extract_high_setWordLo (x : BitVec 32) (v : BitVec 16) : (setWordLo x v).extractLsb' 16 16 = x.extractLsb' 16 16 := by
  apply BitVec.eq_of_getLsbD_eq
  intro i hi
  rw [BitVec.getLsbD_extractLsb', BitVec.getLsbD_extractLsb', setWordLo, BitVec.getLsbD_append]
  simp [hi]

end

/-- Settles O5: the names by definition, the rest by the width of the write. -/
theorem registerAliases : Obligations.RegisterAliases := by
  intro g sz r v
  refine ⟨rfl, rfl, rfl, rfl, rfl, rfl, rfl, rfl, rfl, rfl, g.read_write_same r sz v, fun x => g.get_write_other r sz v, ?_, ?_⟩
  · rintro rfl
    rw [Gpr.write_w, Gpr.get_set, if_pos rfl, extract_high_setWordLo]
  · rintro rfl k hk ho
    rw [Gpr.write_b, Gpr.get_set, if_pos rfl, getLsbD_setByte _ _ _ hk ho]

/-! ## Reset, shutdown and halt -/

/-- EFLAGS after reset: bit 1 alone (10_state.md R92). -/
theorem flags_reset : State.reset.flags.toBits = 2#32 := by decide

/-- Settles O53: each value as `State.reset` gives it. -/
theorem resetValues : Obligations.ResetValues := by
  refine ⟨flags_reset, rfl, rfl, rfl, ?_, ?_, rfl, rfl, rfl, rfl, rfl, rfl, by decide, rfl, rfl⟩
  · intro r hr
    cases r with
    | cs => exact absurd rfl hr
    | es | ss | ds | fs | gs => exact ⟨rfl, rfl⟩
  · intro r
    cases r <;> exact ⟨rfl, rfl⟩

/-- DH after reset is the component identifier 3 (10_state.md R93). -/
theorem dh_afterReset (s : State) : s.afterReset.gpr.edx.extractLsb' 8 8 = 3#8 := by
  show ((0#16 ++ 3#8 ++ s.plat.steppingId : BitVec 32)).extractLsb' 8 8 = 3#8
  rw [BitVec.extractLsb'_append_eq_of_le (Nat.le_refl 8)]
  decide

/-- Without an NMI signal nothing is latched. -/
theorem sampleNmi_of_none {s : State} (hpin : s.pins.nmi = false) (hlatch : s.nmiPending = false) : s.sampleNmi = s := by
  have hp : { s.pins with nmi := false } = s.pins := by rw [← hpin]
  have hn : (s.nmiPending || (s.pins.nmi && !s.nmiInService)) = s.nmiPending := by rw [hpin, hlatch, Bool.false_and, Bool.or_false]
  rw [State.sampleNmi, hp, hn]

/-- A halted processor meets no instruction breakpoint. -/
theorem instrBreakpoints_halted {s : State} (h : s.run = .halted) : instrBreakpoints s = .ok (Hits.none, false) s := by
  rw [instrBreakpoints, bind_of_ok (getS_apply s), if_apply, h, if_neg (by simp)]
  rfl

/-- At a boundary with no trap, NMI or acceptable INTR a halted processor services nothing (60_exceptions.md R601). -/
theorem boundaryEvent_halted {s : State} (h : s.run = .halted) (hss : s.ssShadow = false) (ht : s.dbg.trapPending = false)
    (hn : s.nmiPending = false) (hi : (!s.flags.IF || s.stiShadow || s.pins.intr.isNone) = true) :
    boundaryEvent s = .ok none s := by
  rw [boundaryEvent, bind_of_ok (getS_apply s), if_apply, hss, if_neg Bool.false_ne_true, bind_of_ok (instrBreakpoints_halted h)]
  simp only [ht, hn, Bool.or_self, Bool.false_and, Bool.false_eq_true, if_false]
  by_cases hf : (s.flags.IF && !s.stiShadow) = true
  · obtain ⟨hIF, hsti⟩ := Bool.and_eq_true_iff.1 hf
    rw [Bool.not_eq_true'] at hsti
    have hnone : s.pins.intr = none := by simpa [hIF, hsti] using hi
    rw [if_pos hf, hnone]
    rfl
  · rw [if_neg hf]
    rfl

/-- A halted machine with nothing to service stays as it is. -/
theorem step_quiet_halted {s : State} (hq : { s with run := .running }.quiet = true) (h : s.run = .halted) : step s = .next s := by
  simp only [State.quiet, Bool.and_eq_true, Bool.not_eq_true', Option.isNone_iff_eq_none, beq_iff_eq] at hq
  obtain ⟨⟨⟨⟨⟨⟨⟨⟨⟨⟨hreset, -⟩, hvm⟩, hexc⟩, hpfx⟩, hss⟩, -⟩, htrap⟩, hpin⟩, hlatch⟩, hintr⟩ := hq
  have hb : boundaryEvent s = .ok none s := boundaryEvent_halted h hss htrap hlatch hintr
  simp only [step, stepOnce, hreset, h, hvm, hexc, hpfx, Bool.false_eq_true, if_false, if_true, reduceCtorEq]
  rw [atBoundary, sampleNmi_of_none hpin hlatch, hb]
  exact if_pos h

/-- Settles O57. -/
theorem shutdownHaltAndReset : Obligations.ShutdownHaltAndReset := by
  refine ⟨fun s h hr => ?_, fun s hr => ?_, fun s => step_quiet_halted, fun s hr h hvm => ?_⟩
  · simp only [step, stepOnce, hr, h, Bool.false_eq_true, if_false, if_true]
  · have hs : step s = .next s.afterReset := by simp only [step, stepOnce, hr, if_true]
    exact ⟨_, hs, rfl, rfl, flags_reset, rfl, rfl, rfl, rfl, rfl, rfl, dh_afterReset s⟩
  · simp only [step, stepOnce, hr, h, hvm, Bool.false_eq_true, if_false, if_true]

end Sys2Proof.Machine
end

section
/-! Memory and its operands: a value stored and read back, and operands located with paging off (20_memory.md R100 to R131). -/
namespace Sys2Proof.Machine

/-! ## Stores and loads -/

/-- A store that meets no device reaches none (20_memory.md R107). -/
theorem busWrites_of_no_device {map : List Region} {l : Loc} (h : ∀ a ∈ l, kindIn map a ≠ .device) (out : List BusWrite) (v : Nat) :
    busWrites map out l v = out := by
  induction l generalizing v with
  | nil => rfl
  | cons a l ih =>
    rw [busWrites, if_neg (h a List.mem_cons_self)]
    exact ih (fun b hb => h b (List.mem_cons_of_mem _ hb)) _

/-- One byte of memory, read at its address (20_memory.md R102). -/
theorem State.load_byte {s : State} {a : BitVec 32} (h : (s.kindAt a).holds = true) : s.load 8 [a] = s.byteAt a := by
  have hb : Memory.busRead s.plat.memMap s.draws s.mem a = s.byteAt a := if_pos h
  rw [State.load, Memory.loadNat, Memory.loadNat, hb]
  exact BitVec.ofNat_toNat ..

theorem holds_iff (k : MemKind) : k.holds = true ↔ k = .ram ∨ k = .rom := by
  cases k <;> simp [MemKind.holds]

/-- Settles O4. -/
theorem storeThenLoad : Obligations.StoreThenLoad := by
  refine ⟨fun s sz l v hw hl hn hr => ⟨?_, fun a ha => State.byteAt_store_other ha, ?_⟩, fun s w l v a ha => ?_,
    fun s a v => ⟨?_, ?_, ?_⟩, fun s a h => ?_⟩
  · refine State.load_store hw hl hr ?_
    rw [hn]
    cases sz <;> decide
  · exact busWrites_of_no_device (fun a ha => by simp [show kindIn _ a = .ram from hr a ha]) _ _
  · exact Memory.read_storeNat_kept l _ a ha
  · intro h
    show (if kindIn s.plat.memMap a = .device then _ else _) = _
    rw [if_pos (show kindIn _ a = .device from h), BitVec.ofNat_toNat, BitVec.setWidth_eq]
  · intro h
    exact busWrites_of_no_device (fun b hb => List.mem_singleton.1 hb ▸ h) _ _
  · intro h
    exact State.load_byte ((holds_iff _).2 h)
  · rw [State.kindAt, h]
    rfl

/-! ## Operands located with paging off -/

@[simp] theorem State.settled_pfx (s : State) (l : Loc) : (s.settled l).pfx = s.pfx := by
  unfold State.settled
  split <;> rfl

/-- In real-address mode only a write meets a check besides the limit (21_protection.md R187; 70_reset_and_hazards.md R713). -/
theorem permitsReal_iff (g : SegReg) (r : SReg) (k : AccessKind) :
    g.permitsReal r k = true ↔ (k = .write → r = .cs ∨ g.executable = false ∧ g.bit1 = true) := by
  cases k <;> simp [SegReg.permitsReal, SegReg.permits]

/-- Settles O2. -/
theorem locatingAnOperandInAPlainState : Obligations.LocatingAnOperandInAPlainState := by
  refine ⟨fun s r off n w hp => ?_, fun s r off n w hd => ?_, fun s r off n k hr => ?_⟩
  · by_cases h : s.segOk r off n (if w then .write else .read) = true
    · rw [if_pos h, locate_plain hp h]
    · rw [if_neg h, locate_bad (Bool.eq_false_iff.2 h)]
      rfl
  · obtain ⟨hg, hb⟩ : s.cr0.PG = false ∧ s.dbg.anyWatch = false := by simpa [State.direct] using hd
    intro l u
    by_cases h : s.segOk r off n (if w then .write else .read) = true
    · rw [if_pos h, locate_direct hg hb h, State.locking, State.settled_pfx]
      rfl
    · rw [if_neg h, locate_bad (Bool.eq_false_iff.2 h)]
      rfl
  · intro g
    rw [segOk_real hr, Bool.and_eq_true, permitsReal_iff, and_comm]

end Sys2Proof.Machine
end

section
/-! Page translation: what the parts of a page walk answer, and what a translation leaves (20_memory.md R130 to R142). -/
namespace Sys2Proof.Machine

/-! ## Reading held memory -/

/-- A read depends on the bytes read, where memory holds them: not on free values, nor on any other byte. -/
theorem State.load_congr {s t : State} {l : Loc} (hm : t.plat.memMap = s.plat.memMap) (hl : s.holdsAll l = true)
    (hb : ∀ a ∈ l, t.byteAt a = s.byteAt a) (w : Nat) : t.load w l = s.load w l := by
  have key : Memory.loadNat t.plat.memMap t.draws t.mem l = Memory.loadNat s.plat.memMap s.draws s.mem l := by
    induction l with
    | nil => rfl
    | cons a l ih =>
      rw [State.holdsAll, List.all_cons, Bool.and_eq_true] at hl
      have ha : Memory.busRead t.plat.memMap t.draws t.mem a = Memory.busRead s.plat.memMap s.draws s.mem a := by
        have h : (kindIn s.plat.memMap a).holds = true := hl.1
        rw [Memory.busRead, Memory.busRead, hm, if_pos h, if_pos h]
        exact hb a List.mem_cons_self
      rw [Memory.loadNat, Memory.loadNat, ha, ih hl.2 fun b hb' => hb b (List.mem_cons_of_mem _ hb')]
  rw [State.load, State.load, key]

theorem State.holdsAll_of_ram {s : State} {l : Loc} (h : ∀ a ∈ l, s.kindAt a = .ram) : s.holdsAll l = true := by
  rw [State.holdsAll, List.all_eq_true]
  exact fun a ha => by rw [h a ha]; rfl

@[simp] theorem State.settled_cr2 (s : State) (l : Loc) : (s.settled l).cr2 = s.cr2 := by
  unfold State.settled
  split <;> rfl

@[simp] theorem State.settled_mem (s : State) (l : Loc) : (s.settled l).mem = s.mem := by
  unfold State.settled
  split <;> rfl

/-! ## Paging entries -/

theorem getLsbD_markEntry (e : BitVec 32) (dirty : Bool) (k : Nat) :
    (markEntry e dirty).getLsbD k = (e.getLsbD k || k == 5 || (dirty && k == 6)) := by
  have h : markEntry e dirty = e ||| BitVec.twoPow 32 5 ||| (if dirty then BitVec.twoPow 32 6 else 0#32) := by
    cases dirty
    · exact (BitVec.or_zero (x := e ||| 0x20#32)).symm
    · exact (BitVec.or_assoc e 0x20#32 0x40#32).symm
  rw [h]
  cases dirty <;> simp [BitVec.getLsbD_twoPow, eq_comm, Bool.beq_eq_decide_eq]

theorem markEntry_accessed (e : BitVec 32) (dirty : Bool) : (markEntry e dirty).getLsbD 5 = true := by
  rw [getLsbD_markEntry, beq_self_eq_true, Bool.or_true, Bool.true_or]

theorem markEntry_dirty (e : BitVec 32) : (markEntry e true).getLsbD 6 = true := by
  rw [getLsbD_markEntry, beq_self_eq_true, Bool.true_and, Bool.or_true]

theorem markEntry_other (e : BitVec 32) (dirty : Bool) {k : Nat} (h5 : k ≠ 5) (h6 : k ≠ 6) :
    (markEntry e dirty).getLsbD k = e.getLsbD k := by
  rw [getLsbD_markEntry, beq_false_of_ne h5, beq_false_of_ne h6, Bool.and_false, Bool.or_false, Bool.or_false]

/-- Marking an entry leaves the frame it names (20_memory.md R136). -/
theorem frame_markEntry (e : BitVec 32) (dirty : Bool) : (markEntry e dirty).extractLsb' 12 20 = e.extractLsb' 12 20 := by
  apply BitVec.eq_of_getLsbD_eq
  intro i hi
  rw [BitVec.getLsbD_extractLsb', BitVec.getLsbD_extractLsb', markEntry_other e dirty (by omega) (by omega)]

/-- The state after an entry was read as `old` and stored back as `new`, if it changed (20_memory.md R133, R136, R151). -/
def State.entryUpdated (s : State) (pa old new : BitVec 32) : State :=
  if old = new then s else (s.store (Loc.from pa 4) new).asserting .pageEntry (Loc.from pa 4)

theorem updateEntry_apply (pa old new : BitVec 32) (s : State) : updateEntry pa old new s = .ok () (s.entryUpdated pa old new) := by
  rw [updateEntry, if_apply, State.entryUpdated]
  split <;> rfl

section
variable (s : State) (pa old new : BitVec 32)

@[simp] theorem State.entryUpdated_cr2 : (s.entryUpdated pa old new).cr2 = s.cr2 := by
  unfold State.entryUpdated
  split <;> rfl

@[simp] theorem State.entryUpdated_plat : (s.entryUpdated pa old new).plat = s.plat := by
  unfold State.entryUpdated
  split <;> rfl

variable {s}

theorem State.entryUpdated_wf (h : Memory.wf s.mem = true) : Memory.wf (s.entryUpdated pa old new).mem = true := by
  unfold State.entryUpdated
  split
  · exact h
  · exact State.wf_store _ _ h

theorem State.entryUpdated_sameBytes : s.sameBytes (s.entryUpdated pa old new) (Loc.from pa 4) := by
  intro a ha
  unfold State.entryUpdated
  split
  · rfl
  · exact State.byteAt_store_other ha

end

/-- An address that ends in two zero bits is a multiple of four. -/
theorem aligned_append {x : BitVec 30} : (x ++ 0#2 : BitVec 32).toNat % 4 = 0 := by
  rw [BitVec.toNat_append]
  simp [Nat.shiftLeft_eq]

/-- Doublewords at two multiples of four share no byte. -/
theorem Loc.disjoint_of_aligned {a b c : BitVec 32} (ha : a.toNat % 4 = 0) (hb : b.toNat % 4 = 0) (hab : a ≠ b)
    (hc : c ∈ Loc.from a 4) : c ∉ Loc.from b 4 := by
  rw [Loc.mem_from _ _ _ (by decide)] at hc ⊢
  bv_omega

/-- An aligned doubleword of RAM, as a paging entry is. -/
structure State.EntryAt (s : State) (a : BitVec 32) : Prop where
  aligned : a.toNat % 4 = 0
  ram : ∀ c ∈ Loc.from a 4, s.kindAt c = .ram

theorem State.EntryAt.holds {s : State} {a : BitVec 32} (h : s.EntryAt a) : s.holdsAll (Loc.from a 4) = true :=
  State.holdsAll_of_ram h.ram

/-- An entry in RAM marked accessed, and dirty when `dirty` (20_memory.md R136). -/
def State.marked (s : State) (a : BitVec 32) (dirty : Bool) : State :=
  s.entryUpdated a (s.phys32 a) (markEntry (s.phys32 a) dirty)

theorem State.EntryAt.marked {s : State} {a : BitVec 32} (h : s.EntryAt a) (b : BitVec 32) (dirty : Bool) :
    (s.marked b dirty).EntryAt a where
  aligned := h.aligned
  ram c hc := by
    rw [State.kindAt, State.marked, State.entryUpdated_plat]
    exact h.ram c hc

/-- Marking an entry marks that entry and leaves every other as it is (20_memory.md R136). -/
theorem State.phys32_marked {s : State} {a b : BitVec 32} (hw : Memory.wf s.mem = true) (ha : s.EntryAt a) (hb : s.EntryAt b)
    (dirty : Bool) : (s.marked a dirty).phys32 b = if b = a then markEntry (s.phys32 b) dirty else s.phys32 b := by
  by_cases hab : b = a
  · subst hab
    rw [if_pos rfl, State.marked, State.entryUpdated]
    split
    · assumption
    · exact State.load_store hw (Loc.nodup_from _ _ (by decide)) ha.ram (by rw [Loc.length_from]; decide)
  · rw [if_neg hab]
    exact State.load_congr (congrArg Platform.memMap (State.entryUpdated_plat ..)) hb.holds
      (fun c hc => State.entryUpdated_sameBytes _ _ _ c (Loc.disjoint_of_aligned hb.aligned ha.aligned hab hc)) 32

/-- A directory entry marked accessed and a table entry, which may be the same, marked accessed and for a write dirty: what the bits
of both are (20_memory.md R136). -/
theorem State.marked_bits {s : State} {a b : BitVec 32} (hw : Memory.wf s.mem = true) (ha : s.EntryAt a) (hb : s.EntryAt b) (w : Bool) :
    let t := (s.marked a false).marked b w
    (t.phys32 a).getLsbD 5 = true ∧ (t.phys32 b).getLsbD 5 = true ∧ (w = true → (t.phys32 b).getLsbD 6 = true) ∧
    (∀ k, k ≠ 5 → k ≠ 6 → (t.phys32 a).getLsbD k = (s.phys32 a).getLsbD k ∧ (t.phys32 b).getLsbD k = (s.phys32 b).getLsbD k) := by
  intro t
  have hw' : Memory.wf (s.marked a false).mem = true := State.entryUpdated_wf _ _ _ hw
  have hta : t.phys32 a = if a = b then markEntry (markEntry (s.phys32 a) false) w else markEntry (s.phys32 a) false := by
    rw [State.phys32_marked hw' (hb.marked ..) (ha.marked ..), State.phys32_marked hw ha ha, if_pos rfl]
  have htb : t.phys32 b = markEntry (if b = a then markEntry (s.phys32 b) false else s.phys32 b) w := by
    rw [State.phys32_marked hw' (hb.marked ..) (hb.marked ..), if_pos rfl, State.phys32_marked hw ha hb]
  rw [hta, htb]
  refine ⟨?_, markEntry_accessed .., fun h => by rw [h]; exact markEntry_dirty _, fun k h5 h6 => ⟨?_, ?_⟩⟩
  · split <;> exact markEntry_accessed ..
  · split <;> simp only [markEntry_other _ _ h5 h6]
  · rw [markEntry_other _ _ h5 h6]
    split
    · exact markEntry_other _ _ h5 h6
    · rfl

/-! ## The page walk -/

theorem pageFault_apply {α : Type} (la : BitVec 32) (p w u : Bool) (s : State) :
    (pageFault la p w u : M α) s = .error (.exc ⟨vPF, .page p w u⟩) { s with cr2 := la } := rfl

theorem readEntry_apply (pa : BitVec 32) (s : State) :
    readEntry pa s = .ok ((s.settled (Loc.from pa 4)).phys32 pa) (s.settled (Loc.from pa 4)) := rfl

/-- An entry that memory holds is read without a free value. -/
theorem readEntry_of_holds {pa : BitVec 32} {s : State} (h : s.holdsAll (Loc.from pa 4) = true) :
    readEntry pa s = .ok (s.phys32 pa) s := by
  rw [readEntry_apply, State.settled_of_holds h]

/-- Loading the TLB always answers, and changes the TLB and the draw counter at most (20_memory.md R140). -/
theorem tlbFill_ok (e : TlbEntry) (s : State) : ∃ b n, tlbFill e s = .ok () { s with tlb := b, draws := n } := by
  rw [tlbFill, bind_of_ok (getS_apply s), if_apply]
  split
  · rw [bind_of_ok (drawBool_apply s), if_apply]
    split
    · exact ⟨_, _, rfl⟩
    · exact ⟨_, _, rfl⟩
  · exact ⟨_, _, rfl⟩

section
variable {s s1 s2 : State} {la pde pte : BitVec 32} {w u : Bool}

/-- The table entry as a walk that grants the access uses it: read again after the directory entry was marked, since they may be the
same doubleword, where memory holds it. -/
def State.entryAgain (s : State) (pa old : BitVec 32) : BitVec 32 := if s.holdsAll (Loc.from pa 4) then s.phys32 pa else old

/-- A directory entry with P = 0 is a page fault "not present" (20_memory.md R133). -/
theorem walk_of_directory_absent (hd : readEntry (s.pdeAddr la) s = .ok pde s1) (hp : pde.getLsbD 0 = false) :
    walk la w u s = .error (.exc ⟨vPF, .page false w u⟩) { s1 with cr2 := la } := by
  rw [walk, bind_of_ok (getS_apply s), bind_of_ok hd, if_apply, hp, if_pos (by decide), pageFault_apply]

/-- A walk whose directory entry is present goes on to the table entry (20_memory.md R133). -/
theorem walk_of_table_absent (hd : readEntry (s.pdeAddr la) s = .ok pde s1) (ht : readEntry (pteAddr pde la) s1 = .ok pte s2)
    (hp : pde.getLsbD 0 = true) (hq : pte.getLsbD 0 = false) :
    walk la w u s = .error (.exc ⟨vPF, .page false w u⟩) { s2 with cr2 := la } := by
  rw [walk, bind_of_ok (getS_apply s), bind_of_ok hd, if_apply, hp, if_neg (by decide), bind_of_ok ht, if_apply, hq, if_pos (by decide),
    pageFault_apply]

/-- An access the two entries do not permit is a page fault "protection" (20_memory.md R137). -/
theorem walk_of_not_allowed (hd : readEntry (s.pdeAddr la) s = .ok pde s1) (ht : readEntry (pteAddr pde la) s1 = .ok pte s2)
    (hp : pde.getLsbD 0 = true) (hq : pte.getLsbD 0 = true)
    (ha : pageAllowed (pde.getLsbD 2 && pte.getLsbD 2) (pde.getLsbD 1 && pte.getLsbD 1) w u = false) :
    walk la w u s = .error (.exc ⟨vPF, .page true w u⟩) { s2 with cr2 := la } := by
  rw [walk, bind_of_ok (getS_apply s), bind_of_ok hd, if_apply, hp, if_neg (by decide), bind_of_ok ht, if_apply, hq, if_neg (by decide),
    if_apply, ha, if_pos (by decide), pageFault_apply]

/-- A walk that grants the access marks both entries and answers the frame of the table entry (20_memory.md R133, R136). -/
theorem walk_of_allowed {s3 : State} {e : BitVec 32} (hd : readEntry (s.pdeAddr la) s = .ok pde s1)
    (ht : readEntry (pteAddr pde la) s1 = .ok pte s2) (hp : pde.getLsbD 0 = true) (hq : pte.getLsbD 0 = true)
    (ha : pageAllowed (pde.getLsbD 2 && pte.getLsbD 2) (pde.getLsbD 1 && pte.getLsbD 1) w u = true)
    (h3 : s2.entryUpdated (s.pdeAddr la) pde (markEntry pde false) = s3) (he : s3.entryAgain (pteAddr pde la) pte = e) :
    ∃ b n, walk la w u s =
      .ok (e.extractLsb' 12 20) { s3.entryUpdated (pteAddr pde la) e (markEntry e w) with tlb := b, draws := n } := by
  subst h3 he
  let s3 := s2.entryUpdated (s.pdeAddr la) pde (markEntry pde false)
  let e := s3.entryAgain (pteAddr pde la) pte
  obtain ⟨b, n, hf⟩ := tlbFill_ok
    { v := true, page := la.extractLsb' 12 20, d := w || e.getLsbD 6, u := pde.getLsbD 2 && pte.getLsbD 2,
      w := pde.getLsbD 1 && pte.getLsbD 1, phys := e.extractLsb' 12 20, known := true }
    (s3.entryUpdated (pteAddr pde la) e (markEntry e w))
  refine ⟨b, n, ?_⟩
  rw [walk, bind_of_ok (getS_apply s), bind_of_ok hd, if_apply, hp, if_neg (by decide), bind_of_ok ht, if_apply, hq, if_neg (by decide),
    if_apply, ha, if_neg (by decide), bind_of_ok (updateEntry_apply ..), bind_of_ok (getS_apply _), bind_of_ok (updateEntry_apply ..)]
  exact bind_of_ok hf

/-- What a walk that answers has done: it has read both entries and marked them. -/
theorem walk_ok {f : BitVec 20} {t : State} (hd : readEntry (s.pdeAddr la) s = .ok pde s1)
    (ht : readEntry (pteAddr pde la) s1 = .ok pte s2) (h : walk la w u s = .ok f t) :
    ∃ e b n, t = { (s2.entryUpdated (s.pdeAddr la) pde (markEntry pde false)).entryUpdated (pteAddr pde la) e (markEntry e w) with
      tlb := b, draws := n } := by
  cases hp : pde.getLsbD 0 with
  | false => rw [walk_of_directory_absent hd hp] at h; nomatch h
  | true =>
    cases hq : pte.getLsbD 0 with
    | false => rw [walk_of_table_absent hd ht hp hq] at h; nomatch h
    | true =>
      cases ha : pageAllowed (pde.getLsbD 2 && pte.getLsbD 2) (pde.getLsbD 1 && pte.getLsbD 1) w u with
      | false => rw [walk_of_not_allowed hd ht hp hq ha] at h; nomatch h
      | true =>
        obtain ⟨b, n, hw⟩ := walk_of_allowed hd ht hp hq ha rfl rfl
        rw [hw] at h
        injection h with _ h
        exact ⟨_, b, n, h.symm⟩

/-- A walk that answers leaves CR2 alone. -/
theorem walk_ok_cr2 {f : BitVec 20} {t : State} (h : walk la w u s = .ok f t) : t.cr2 = s.cr2 := by
  obtain ⟨e, b, n, rfl⟩ := walk_ok (readEntry_apply _ _) (readEntry_apply _ _) h
  simp only [State.entryUpdated_cr2, State.settled_cr2]

/-- A walk that answers writes the two entries at most, where memory holds the directory entry (20_memory.md R136). -/
theorem walk_ok_sameBytes {f : BitVec 20} {t : State} (hh : s.holdsAll (Loc.from (s.pdeAddr la) 4) = true)
    (h : walk la w u s = .ok f t) :
    s.sameBytes t (Loc.from (s.pdeAddr la) 4 ++ Loc.from (pteAddr (s.phys32 (s.pdeAddr la)) la) 4) := by
  obtain ⟨e, b, n, rfl⟩ := walk_ok (readEntry_of_holds hh) (readEntry_apply _ _) h
  intro a ha
  rw [List.mem_append, not_or] at ha
  refine (State.entryUpdated_sameBytes _ _ _ a ha.2).trans ((State.entryUpdated_sameBytes _ _ _ a ha.1).trans ?_)
  rw [State.byteAt, State.settled_mem]
  rfl

end

/-! ## The frame of a page, and translation -/

section
variable {s t : State} {la : BitVec 32} {w u : Bool}

/-- With no translation cached the tables are walked (20_memory.md R141). -/
theorem frameOf_of_uncached (h : s.tlbMatches (la.extractLsb' 12 20) = []) : frameOf la w u s = walk la w u s := by
  rw [frameOf, bind_of_ok (getS_apply s), h]

/-- A cached translation is used where it fits the access, if a free value says so; else the tables are walked
(20_memory.md R136, R141). -/
theorem frameOf_of_cached {b : Nat} {e : TlbEntry} (h : s.tlbMatches (la.extractLsb' 12 20) = [(b, e)]) :
    frameOf la w u s =
      if ((Config.freeValue s.draws).getLsbD 0 && (!w || e.d)) = true then
        if pageAllowed e.u e.w w u = true then .ok e.phys (s.drawn (s.draws + 1))
        else .error (.exc ⟨vPF, .page true w u⟩) { s.drawn (s.draws + 1) with cr2 := la }
      else walk la w u (s.drawn (s.draws + 1)) := by
  rw [frameOf, bind_of_ok (getS_apply s), h]
  change (drawBool >>= _) s = _
  rw [bind_of_ok (drawBool_apply s), if_apply, if_apply]
  rfl

/-- A frame found was cached, or comes from a walk. -/
theorem frameOf_ok {f : BitVec 20} (h : frameOf la w u s = .ok f t) :
    (∃ n, t = s.drawn n) ∨ ∃ n, walk la w u (s.drawn n) = .ok f t := by
  match hm : s.tlbMatches (la.extractLsb' 12 20) with
  | [] =>
    rw [frameOf_of_uncached hm] at h
    exact .inr ⟨s.draws, h⟩
  | [(b, e)] =>
    rw [frameOf_of_cached hm] at h
    split at h
    · split at h
      · injection h with _ h
        exact .inl ⟨_, h.symm⟩
      · nomatch h
    · exact .inr ⟨_, h⟩
  | x :: y :: l =>
    rw [frameOf, bind_of_ok (getS_apply s), hm] at h
    injection h with _ h
    exact .inl ⟨_, h.symm⟩

/-- With paging off the physical address is the linear one (20_memory.md R131). -/
theorem translate_of_unpaged (hg : s.cr0.PG = false) : translate la w u s = .ok la s := by
  rw [translate, bind_of_ok (getS_apply s), if_apply, hg]
  rfl

/-- With paging on the frame replaces the page number (20_memory.md R133). -/
theorem translate_of_paged (hg : s.cr0.PG = true) :
    translate la w u s = (frameOf la w u >>= fun f => pure (f ++ la.extractLsb' 0 12)) s := by
  rw [translate, bind_of_ok (getS_apply s), if_apply, if_pos hg]

/-- A translation that answers took free values at most, or walked the tables. -/
theorem translate_ok {pa : BitVec 32} (h : translate la w u s = .ok pa t) :
    (∃ n, t = s.drawn n) ∨ ∃ n f, walk la w u (s.drawn n) = .ok f t := by
  cases hg : s.cr0.PG with
  | false =>
    rw [translate_of_unpaged hg] at h
    injection h with _ h
    exact .inl ⟨s.draws, h.symm⟩
  | true =>
    rw [translate_of_paged hg, bind_apply] at h
    cases hf : frameOf la w u s with
    | error e t' => rw [hf] at h; nomatch h
    | ok f t' =>
      rw [hf] at h
      injection h with _ h
      subst h
      exact (frameOf_ok hf).imp_right fun ⟨n, hn⟩ => ⟨n, f, hn⟩

/-- A successful translation leaves CR2 alone: only a page fault writes it (60_exceptions.md R595). -/
theorem translate_ok_cr2 {pa : BitVec 32} (h : translate la w u s = .ok pa t) : t.cr2 = s.cr2 := by
  rcases translate_ok h with ⟨n, rfl⟩ | ⟨n, f, hw⟩
  · rfl
  · exact walk_ok_cr2 (s := s.drawn n) hw

/-- A successful translation writes the two paging entries at most, where memory holds the directory entry (20_memory.md R136). -/
theorem translate_ok_sameBytes {pa : BitVec 32} (hh : s.holdsAll (Loc.from (s.pdeAddr la) 4) = true)
    (h : translate la w u s = .ok pa t) :
    s.sameBytes t (Loc.from (s.pdeAddr la) 4 ++ Loc.from (pteAddr (s.phys32 (s.pdeAddr la)) la) 4) := by
  rcases translate_ok h with ⟨n, rfl⟩ | ⟨n, f, hw⟩
  · exact fun _ _ => rfl
  · have hpde : (s.drawn n).phys32 (s.pdeAddr la) = s.phys32 (s.pdeAddr la) :=
      State.load_congr (s := s) (t := s.drawn n) rfl hh (fun _ _ => rfl) 32
    rw [← hpde]
    exact walk_ok_sameBytes (s := s.drawn n) hh hw

end

/-- Page-level protection refuses user accesses alone (20_memory.md R137). -/
theorem pageAllowed_eq_false_iff : ∀ a b w u : Bool, pageAllowed a b w u = false ↔ u = true ∧ (a = false ∨ w = true ∧ b = false) := by
  decide

theorem pageAllowed_iff : ∀ a b w u : Bool, pageAllowed a b w u = true ↔ u = false ∨ a = true ∧ (w = true → b = true) := by decide

/-! ## The walk over entries in RAM -/

/-- The two entries a walk uses lie in RAM, and memory is in canonical form. -/
structure State.EntriesInRam (s : State) (la : BitVec 32) : Prop where
  wf : Memory.wf s.mem = true
  pde : s.EntryAt (s.pdeAddr la)
  pte : s.EntryAt (pteAddr (s.phys32 (s.pdeAddr la)) la)

section
variable {s : State} {la : BitVec 32} (hs : s.EntriesInRam la) (w u : Bool)
include hs

/-- An entry with P = 0 is a page fault "not present" (20_memory.md R133). -/
theorem State.EntriesInRam.walk_absent
    (h : (s.phys32 (s.pdeAddr la)).getLsbD 0 = false ∨ (s.phys32 (pteAddr (s.phys32 (s.pdeAddr la)) la)).getLsbD 0 = false) :
    walk la w u s = .error (.exc ⟨vPF, .page false w u⟩) { s with cr2 := la } := by
  have hd := readEntry_of_holds hs.pde.holds
  cases hp : (s.phys32 (s.pdeAddr la)).getLsbD 0 with
  | false => exact walk_of_directory_absent hd hp
  | true => exact walk_of_table_absent hd (readEntry_of_holds hs.pte.holds) hp (h.resolve_left (by simp [hp]))

/-- A walk that grants the access answers the table entry's frame and marks both entries (20_memory.md R133, R136). -/
theorem State.EntriesInRam.walk_marks :
    let pde := s.phys32 (s.pdeAddr la)
    let pte := s.phys32 (pteAddr pde la)
    pde.getLsbD 0 = true → pte.getLsbD 0 = true →
    pageAllowed (pde.getLsbD 2 && pte.getLsbD 2) (pde.getLsbD 1 && pte.getLsbD 1) w u = true →
    ∃ b n, walk la w u s = .ok (pte.extractLsb' 12 20)
      { (s.marked (s.pdeAddr la) false).marked (pteAddr pde la) w with tlb := b, draws := n } := by
  intro pde pte hp hq ha
  let s3 := s.marked (s.pdeAddr la) false
  have hagain : s3.entryAgain (pteAddr pde la) pte = s3.phys32 (pteAddr pde la) := if_pos (hs.pte.marked ..).holds
  have hframe : (s3.phys32 (pteAddr pde la)).extractLsb' 12 20 = pte.extractLsb' 12 20 := by
    rw [State.phys32_marked hs.wf hs.pde hs.pte]
    split
    · exact frame_markEntry ..
    · rfl
  rw [← hframe]
  exact walk_of_allowed (readEntry_of_holds hs.pde.holds) (readEntry_of_holds hs.pte.holds) hp hq ha rfl hagain

end

/-- An entry in RAM reads the same whatever the TLB and the draw counter hold. -/
theorem State.EntryAt.phys32_tlb {s : State} {a : BitVec 32} (h : s.EntryAt a) (b : List TlbEntry) (n : Nat) :
    ({ s with tlb := b, draws := n } : State).phys32 a = s.phys32 a :=
  State.load_congr (s := s) (t := { s with tlb := b, draws := n }) rfl h.holds (fun _ _ => rfl) 32

theorem Touched.cr0 {s t : State} (h : Touched s t) : t.cr0 = s.cr0 := by
  obtain ⟨_, _, _, _, _, _, _, rfl⟩ := h
  rfl
theorem Touched.cr3 {s t : State} (h : Touched s t) : t.cr3 = s.cr3 := by
  obtain ⟨_, _, _, _, _, _, _, rfl⟩ := h
  rfl

/-- With nothing cached and both entries in RAM a translation is a page fault or answers the marked table entry's frame
(20_memory.md R133 to R137). -/
theorem State.EntriesInRam.translate {s : State} {la : BitVec 32} (hs : s.EntriesInRam la) (hg : s.cr0.PG = true)
    (hm : s.tlbMatches (la.extractLsb' 12 20) = []) (w u : Bool) :
    let da := s.pdeAddr la
    let pde := s.phys32 da
    let ta := pteAddr pde la
    let pte := s.phys32 ta
    if pde.getLsbD 0 = false ∨ pte.getLsbD 0 = false then
      translate la w u s = .error (.exc ⟨vPF, .page false w u⟩) { s with cr2 := la }
    else if u = true ∧ ((pde.getLsbD 2 && pte.getLsbD 2) = false ∨ w = true ∧ (pde.getLsbD 1 && pte.getLsbD 1) = false) then
      translate la w u s = .error (.exc ⟨vPF, .page true w u⟩) { s with cr2 := la }
    else ∃ t, translate la w u s = .ok (pte.extractLsb' 12 20 ++ la.extractLsb' 0 12) t ∧
      (t.phys32 da).getLsbD 5 = true ∧ (t.phys32 ta).getLsbD 5 = true ∧ (w = true → (t.phys32 ta).getLsbD 6 = true) ∧
      (∀ k, k ≠ 5 → k ≠ 6 → (t.phys32 da).getLsbD k = pde.getLsbD k ∧ (t.phys32 ta).getLsbD k = pte.getLsbD k) := by
  intro da pde ta pte
  rw [translate_of_paged hg, bind_apply, frameOf_of_uncached hm, ← bind_apply]
  split
  case isTrue habsent => exact bind_of_error (hs.walk_absent w u habsent)
  case isFalse hpresent =>
    simp only [not_or, Bool.not_eq_false] at hpresent
    obtain ⟨hp, hq⟩ := hpresent
    split
    case isTrue hno =>
      exact bind_of_error (walk_of_not_allowed (readEntry_of_holds hs.pde.holds) (readEntry_of_holds hs.pte.holds) hp hq
        ((pageAllowed_eq_false_iff ..).2 hno))
    case isFalse hyes =>
      rw [← pageAllowed_eq_false_iff, Bool.not_eq_false] at hyes
      obtain ⟨b, n, hwalk⟩ := hs.walk_marks w u hp hq hyes
      have hbits := State.marked_bits hs.wf hs.pde hs.pte w
      dsimp only at hbits
      rw [← ((hs.pde.marked ..).marked ..).phys32_tlb b n, ← ((hs.pte.marked ..).marked ..).phys32_tlb b n] at hbits
      exact ⟨_, bind_of_ok hwalk, hbits⟩

/-- A cached translation is used where it permits the access (and is dirty, for a write), refused, or the tables are walked
(20_memory.md R136, R141). -/
theorem translate_of_cached {s : State} {la : BitVec 32} {w u : Bool} {b : Nat} {e : TlbEntry} (hg : s.cr0.PG = true)
    (hm : s.tlbMatches (la.extractLsb' 12 20) = [(b, e)]) :
    let permits := u = false ∨ e.u = true ∧ (w = true → e.w = true)
    let s1 := s.drawn (s.draws + 1)
    (w = true → e.d = true) ∧ permits ∧ translate la w u s = .ok (e.phys ++ la.extractLsb' 0 12) s1 ∨
    (w = true → e.d = true) ∧ ¬ permits ∧ translate la w u s = .error (.exc ⟨vPF, .page true w u⟩) { s1 with cr2 := la } ∨
    translate la w u s = (do let f ← walk la w u; pure (f ++ la.extractLsb' 0 12) : M (BitVec 32)) s1 := by
  intro permits s1
  have hframe := frameOf_of_cached (w := w) (u := u) hm
  rw [translate_of_paged hg]
  by_cases hused : ((Config.freeValue s.draws).getLsbD 0 && (!w || e.d)) = true
  · have hd : w = true → e.d = true := fun hw => by simpa [hw] using (Bool.and_eq_true_iff.1 hused).2
    rw [if_pos hused] at hframe
    by_cases hp : pageAllowed e.u e.w w u = true
    · rw [if_pos hp] at hframe
      exact .inl ⟨hd, (pageAllowed_iff ..).1 hp, bind_of_ok hframe⟩
    · rw [if_neg hp] at hframe
      exact .inr (.inl ⟨hd, fun h => hp ((pageAllowed_iff ..).2 h), bind_of_error hframe⟩)
  · rw [if_neg hused] at hframe
    refine .inr (.inr ?_)
    rw [bind_apply, hframe, ← bind_apply]

/-- Settles O3. -/
theorem pageTranslation : Obligations.PageTranslation := by
  refine ⟨fun s la w u => translate_of_unpaged, fun s t la pa w u h => ?_, fun s la w u hg hw hm => ?_,
    fun s la w u b e hg hm => translate_of_cached hg hm⟩
  · have ht := (touches_translate la w u).ok h
    refine ⟨ht.gpr, ht.seg, ht.flags, ht.cr0, translate_ok_cr2 h, ht.cr3, fun hk => translate_ok_sameBytes ?_ h⟩
    rw [State.holdsAll, List.all_eq_true]
    exact fun a ha => (holds_iff _).2 (hk a ha)
  · intro da pde ta pte hram
    have hs : s.EntriesInRam la :=
      ⟨hw, ⟨aligned_append, fun c hc => hram c (List.mem_append_left _ hc)⟩,
        ⟨aligned_append, fun c hc => hram c (List.mem_append_right _ hc)⟩⟩
    exact hs.translate hg hm w u

end Sys2Proof.Machine
end

section
/-! The TLB test commands: a tag written is the tag looked up (20_memory.md R142). -/
namespace Sys2Proof.Machine

/-! ## The tag a command names -/

/-- A command that gives the page, the V bit and the D, U and W pairs of an entry's tag (10_state.md R82). -/
structure NamesTag (c : BitVec 32) (e : TlbEntry) : Prop where
  page : c.extractLsb' 12 20 = e.page
  v : c.getLsbD 11 = e.v
  d : c.getLsbD 10 = e.d ∧ c.getLsbD 9 = !e.d
  u : c.getLsbD 8 = e.u ∧ c.getLsbD 7 = !e.u
  w : c.getLsbD 6 = e.w ∧ c.getLsbD 5 = !e.w

/-- Bits 31 to 5 of TR6 for an entry: its page, V and the attributes with their complements (10_state.md R82). -/
def TlbEntry.tagImage (e : TlbEntry) : BitVec 27 :=
  e.page ++ bit e.v ++ bit e.d ++ bit (!e.d) ++ bit e.u ++ bit (!e.u) ++ bit e.w ++ bit (!e.w)

theorem namesTag_tagImage (e : TlbEntry) (cmd : BitVec 5) : NamesTag (e.tagImage ++ cmd) e := by
  refine { page := ?page, v := ?_, d := ⟨?_, ?_⟩, u := ⟨?_, ?_⟩, w := ⟨?_, ?_⟩ }
  case page =>
    rw [TlbEntry.tagImage]
    repeat rw [BitVec.extractLsb'_append_eq_of_le (by decide)]
    exact BitVec.extractLsb'_eq_self
  all_goals
    rw [TlbEntry.tagImage]
    repeat rw [BitVec.getLsbD_append]
    simp [bit]

/-- TR6 as a hit leaves it is the lookup command (C = 1) of that tag (10_state.md R82). -/
theorem tlbTag_eq (e : TlbEntry) : tlbTag e = e.tagImage ++ 1#5 := BitVec.append_assoc

/-- A write command with C set is the lookup command of the same tag. -/
theorem write_or_lookup (x : BitVec 27) : (x ++ 0#5) ||| 1#32 = x ++ 1#5 := by
  have h : (x ++ 0#5) ||| (0#27 ++ 1#5) = x ++ 1#5 := by rw [BitVec.or_append, BitVec.or_zero, BitVec.zero_or]
  exact h

theorem tlbPair_of_complement {x nx : Bool} (h : nx = !x) (s : State) : tlbPair x nx s = .ok x s := by
  subst h
  cases x <;> rfl

theorem tlbPairMatches_of_complement {x nx : Bool} (h : nx = !x) (b : Bool) (s : State) :
    tlbPairMatches x nx b s = .ok (x == b) s := by
  subst h
  cases x <;> rfl

/-! ## Entries of a set -/

theorem tlbIndex_lt {k : Nat} (hk : k < 4) (page : BitVec 20) : tlbIndex k page < 32 := by
  have := (page.extractLsb' 0 3).isLt
  unfold tlbIndex
  omega

theorem tlbIndex_inj {j k : Nat} {page : BitVec 20} : tlbIndex j page = tlbIndex k page ↔ j = k := by
  unfold tlbIndex
  omega

/-- Block `b` of the page's set holds `e`, and the other blocks of the set hold nothing valid. -/
structure OnlyBlock (s : State) (b : Nat) (e : TlbEntry) : Prop where
  here : s.tlb.getD (tlbIndex b e.page) TlbEntry.empty = e
  others : ∀ k < 4, k ≠ b → (s.tlb.getD (tlbIndex k e.page) TlbEntry.empty).v = false

/-- An entry written into a set without another valid entry is alone there. -/
theorem onlyBlock_set {s : State} {b : Nat} {e : TlbEntry} (hl : s.tlb.length = 32) (hb : b < 4)
    (ho : ∀ k < 4, k ≠ b → (s.tlb.getD (tlbIndex k e.page) TlbEntry.empty).v = false) (n : Nat) :
    OnlyBlock { s with draws := n, tlb := s.tlb.set (tlbIndex b e.page) e } b e where
  here := by
    have hi : tlbIndex b e.page < s.tlb.length := hl ▸ tlbIndex_lt hb _
    simp [List.getD_eq_getElem?_getD, hi]
  others k hk hkb := by
    have hi : tlbIndex b e.page ≠ tlbIndex k e.page := fun h => hkb (tlbIndex_inj.1 h).symm
    have h := ho k hk hkb
    rw [List.getD_eq_getElem?_getD] at h ⊢
    rwa [List.getElem?_set_ne hi]

/-! ## The commands -/

/-- The frame, HT and the block that TR7 names (10_state.md R83). -/
theorem tr7_fields (phys : BitVec 20) (block : BitVec 2) :
    let x : BitVec 32 := phys ++ 0#7 ++ 1#1 ++ block ++ 0#2
    x.extractLsb' 12 20 = phys ∧ x.getLsbD 4 = true ∧ x.extractLsb' 2 2 = block := by
  refine ⟨?_, ?_, ?_⟩
  · repeat rw [BitVec.extractLsb'_append_eq_of_le (by decide)]
    exact BitVec.extractLsb'_eq_self
  · repeat rw [BitVec.getLsbD_append]
    simp
  · rw [BitVec.extractLsb'_append_eq_of_le (by decide)]
    exact BitVec.extractLsb'_append_eq_right

/-- No tag is duplicated where the set holds no other valid entry (20_memory.md R142). -/
theorem duplicateTag_eq_false {s : State} {b : Nat} {page : BitVec 20}
    (ho : ∀ k < 4, k ≠ b → (s.tlb.getD (tlbIndex k page) TlbEntry.empty).v = false) : s.duplicateTag b page true = false := by
  rw [State.duplicateTag, List.any_eq_false]
  intro k hk
  have hk : k < 4 := by simp at hk; omega
  by_cases hb : k = b
  · rw [hb, bne_self_eq_false]
    simp
  · dsimp only
    rw [ho k hk hb]
    simp

/-- A write command with HT = 1 stores the entry TR6 and TR7 describe in the block TR7 names (20_memory.md R142). -/
theorem tlbWrite_of_namesTag {c : BitVec 32} {e : TlbEntry} {s : State} {block : BitVec 2} (hc : NamesTag c e) (hv : e.v = true)
    (hk : e.known = true) (hp : s.tr7.extractLsb' 12 20 = e.phys) (ht : s.tr7.getLsbD 4 = true) (hb : s.tr7.extractLsb' 2 2 = block)
    (ho : ∀ k < 4, k ≠ block.toNat → (s.tlb.getD (tlbIndex k e.page) TlbEntry.empty).v = false) :
    tlbWrite c s = .ok () { s with draws := s.draws + 1, tlb := s.tlb.set (tlbIndex block.toNat e.page) e } := by
  have hdup : State.duplicateTag { s with draws := s.draws + 1 } block.toNat e.page true = false := duplicateTag_eq_false ho
  obtain ⟨v, page, d, u, w, phys, known⟩ := e
  dsimp only at hv hk
  subst hv hk
  rw [tlbWrite, hc.d.1, hc.u.1, hc.w.1, bind_of_ok (tlbPair_of_complement hc.d.2 _), bind_of_ok (tlbPair_of_complement hc.u.2 _),
    bind_of_ok (tlbPair_of_complement hc.w.2 _), bind_of_ok (drawBool_apply _), bind_of_ok (getS_apply _)]
  simp only [ht, hb, hc.v, hc.page, hdup, hp, Bool.true_or, if_true, Bool.false_eq_true, if_false, modS_apply]

/-- What a lookup of a tag finds in a block (20_memory.md R142). -/
theorem tlbProbe_of_namesTag {c : BitVec 32} {e : TlbEntry} (hc : NamesTag c e) (k : Nat) (s : State) :
    let x := s.tlb.getD (tlbIndex k e.page) TlbEntry.empty
    tlbProbe c k s = .ok (if x.v == e.v && x.page == e.page && e.d == x.d && e.u == x.u && e.w == x.w then some (k, x) else none) s := by
  intro x
  rw [tlbProbe, bind_of_ok (getS_apply _), hc.d.1, hc.u.1, hc.w.1]
  rw [bind_of_ok (tlbPairMatches_of_complement hc.d.2 _ _), bind_of_ok (tlbPairMatches_of_complement hc.u.2 _ _),
    bind_of_ok (tlbPairMatches_of_complement hc.w.2 _ _), hc.page, hc.v]
  rfl

/-- A lookup finds an entry that is alone in its set, in its block only. -/
theorem tlbProbe_of_onlyBlock {c : BitVec 32} {e : TlbEntry} {s : State} {b : Nat} (hc : NamesTag c e) (hv : e.v = true)
    (he : OnlyBlock s b e) {k : Nat} (hk : k < 4) : tlbProbe c k s = .ok (if k = b then some (b, e) else none) s := by
  rw [tlbProbe_of_namesTag hc]
  by_cases hb : k = b
  · rw [if_pos hb, hb, he.here]
    simp
  · rw [if_neg hb, he.others k hk hb, hv]
    rfl

/-- A valid tag that one block alone holds is a hit: TR6 receives the tag, TR7 the frame and the block (20_memory.md R142). -/
theorem tlbLookup_of_onlyBlock {c : BitVec 32} {e : TlbEntry} {s : State} {b : Nat} (hc : NamesTag c e) (hv : e.v = true) (hb : b < 4)
    (he : OnlyBlock s b e) :
    ∃ n, tlbLookup c s = .ok ()
      { s with draws := n, tr6 := tlbTag e, tr7 := e.phys ++ 0#7 ++ 1#1 ++ BitVec.ofNat 2 b ++ 0#2 } := by
  have probe {k : Nat} (hk : k < 4) := tlbProbe_of_onlyBlock hc hv he hk
  have hopen (t : State) : t.lookupOpen c = false := by rw [State.lookupOpen, hc.v, hv]; rfl
  have hits : [if 0 = b then some (b, e) else none, if 1 = b then some (b, e) else none, if 2 = b then some (b, e) else none,
      if 3 = b then some (b, e) else none].filterMap id = [(b, e)] := by
    interval_cases b <;> rfl
  rw [tlbLookup, bind_of_ok (probe (by decide)), bind_of_ok (probe (by decide)), bind_of_ok (probe (by decide)),
    bind_of_ok (probe (by decide)), bind_of_ok (draw_apply _ _), bind_of_ok (draw_apply _ _), bind_of_ok (drawBool_apply _),
    bind_of_ok (getS_apply _), if_apply, hopen, if_neg Bool.false_ne_true, hits]
  exact ⟨_, rfl⟩

/-- Settles O41. -/
theorem tlbWriteThenLookup : Obligations.TlbWriteThenLookup := by
  intro s c page phys d u w block hc h7 hl ho
  let e : TlbEntry := ⟨true, page, d, u, w, phys, true⟩
  have hw : NamesTag c e := hc ▸ namesTag_tagImage e 0#5
  have hr : c ||| 1#32 = tlbTag e := hc ▸ (write_or_lookup e.tagImage).trans (tlbTag_eq e).symm
  have hr' : NamesTag (c ||| 1#32) e := (hr.trans (tlbTag_eq e)) ▸ namesTag_tagImage e 1#5
  obtain ⟨hp, ht, hb⟩ := tr7_fields phys block
  rw [← h7] at hp ht hb
  obtain ⟨n, hlook⟩ := tlbLookup_of_onlyBlock hr' rfl block.isLt (onlyBlock_set (e := e) hl block.isLt ho (s.draws + 1))
  refine ⟨_, _, tlbWrite_of_namesTag hw rfl rfl hp ht hb ho, hlook, ?_, hr.symm, rfl⟩
  rw [BitVec.ofNat_toNat, BitVec.setWidth_eq]

end Sys2Proof.Machine
end

section
/-! The privileged instructions outside level 0: each stops at its check, before it has written anything (21_protection.md R184). -/
namespace Sys2Proof.Machine

/-- The computation stops at once with #GP(0), the machine being as it was. -/
def Traps {α : Type} (x : M α) (s : State) : Prop := x s = .error (.exc ⟨vGP, zeroCode false⟩) s

/-- The computation stops at once with an exception, the machine being as it was. -/
def Raises {α : Type} (x : M α) (s : State) : Prop := ∃ e, x s = .error (.exc e) s

section
variable {α β : Type} {s : State}

theorem Traps.raises {x : M α} (h : Traps x s) : Raises x s := ⟨_, h⟩

theorem raises_raiseUD : Raises (raiseUD : M α) s := ⟨_, rfl⟩

theorem Traps.bind {x : M α} (h : Traps x s) (f : α → M β) : Traps (x >>= f) s := bind_of_error h

theorem Raises.bind {x : M α} (h : Raises x s) (f : α → M β) : Raises (x >>= f) s :=
  h.imp fun _ => bind_of_error

/-- What precedes the check answers and changes nothing. -/
theorem Traps.after {x : M α} {a : α} {f : α → M β} (hx : x s = .ok a s) (h : Traps (f a) s) : Traps (x >>= f) s :=
  (bind_of_ok hx).trans h

theorem Traps.thenBranch {c : Prop} [Decidable c] {x y : M α} (hc : c) (h : Traps x s) : Traps (if c then x else y) s := by
  rwa [if_pos hc]

theorem Traps.elseBranch {c : Prop} [Decidable c] {x y : M α} (hc : ¬ c) (h : Traps y s) : Traps (if c then x else y) s := by
  rwa [if_neg hc]

theorem Raises.branches {c : Prop} [Decidable c] {x y : M α} (hx : Raises x s) (hy : Raises y s) : Raises (if c then x else y) s := by
  split
  · exact hx
  · exact hy

/-! ## The checks -/

/-- Past the test for protected mode. -/
theorem traps_protected {f : Unit → M α} (hp : s.protectedMode = true) (hf : Traps (f ()) s) : Traps (protectedOnly >>= f) s := by
  have hok : protectedOnly s = .ok () s := by rw [protectedOnly, bind_of_ok (getS_apply s), hp, if_pos rfl]; rfl
  exact .after hok hf

variable (h : s.cpl ≠ 0#2)
include h

theorem traps_privileged : Traps privileged s := by
  rw [Traps, privileged, bind_of_ok (getS_apply s), require_apply, if_neg (by simpa using h)]

theorem traps_readTable (m : Mem) : Traps (readTable (.mem m)) s := .after rfl ((traps_privileged h).bind _)

theorem raises_readTable (rm : Rm) : Raises (readTable rm) s := by
  cases rm with
  | reg r => exact raises_raiseUD.bind _
  | mem m => exact (traps_readTable h m).raises

theorem traps_debugCheck {n : BitVec 3} (h4 : n ≠ 4#3) (h5 : n ≠ 5#3) : Traps (debugCheck n) s :=
  .elseBranch (not_or.2 ⟨h4, h5⟩) ((traps_privileged h).bind _)

theorem raises_debugCheck (n : BitVec 3) : Raises (debugCheck n) s :=
  .branches (raises_raiseUD.bind _) ((traps_privileged h).bind _).raises

theorem traps_testCheck {n : BitVec 3} (hn : n = 6#3 ∨ n = 7#3) : Traps (testCheck n) s := .thenBranch hn (traps_privileged h)

theorem raises_testCheck (n : BitVec 3) : Raises (testCheck n) s :=
  .branches (traps_privileged h).raises (raises_raiseUD.bind _)

theorem traps_movToCr {n : BitVec 3} (hn : crExists n = true) (r : Reg) : Traps (movToCr n r) s :=
  .thenBranch hn ((traps_privileged h).bind _)

theorem traps_movFromCr {n : BitVec 3} (hn : crExists n = true) (r : Reg) : Traps (movFromCr r n) s :=
  .thenBranch hn ((traps_privileged h).bind _)

theorem raises_movToCr (n : BitVec 3) (r : Reg) : Raises (movToCr n r) s :=
  .branches ((traps_privileged h).bind _).raises (raises_raiseUD.bind _)

/-- Outside level 0 a writer of the system registers writes none. -/
theorem WritesSystem.raises {x : M Unit} (hx : WritesSystem x) : Raises x s := by
  cases hx with
  | loadGdt rm | loadIdt rm => exact (raises_readTable h rm).bind _
  | loadMsw rm => exact ((traps_privileged h).bind _).raises
  | movToCr n r => exact raises_movToCr h n r
  | movToDr n r => exact (raises_debugCheck h n).bind _
  | movToTr n r => exact (raises_testCheck h n).bind _

end

/-! ## The instructions -/

/-- An instruction whose body traps takes #GP(0). -/
theorem Traps.run {x : M Unit} {s : State} (h : Traps x s) (hl : s.pfx.lock = false) :
    run x s = s.takes s 13#8 (.sel 0#16) := run_of_error hl h

theorem isMem_iff (rm : Rm) : isMem rm = true ↔ ∃ m, rm = .mem m := by cases rm <;> simp [isMem]

/-- Settles O44: each privileged form runs a body that stops at the check of its level. -/
theorem privilegedInstructionsTrap : Obligations.PrivilegedInstructionsTrap := by
  intro i s hi hc hl
  have hpriv : Traps privileged s := traps_privileged hc
  cases i with
  | lgdtMs rm | lidtMs rm =>
    obtain ⟨m, rfl⟩ := (isMem_iff rm).1 hi
    exact ((traps_readTable hc m).bind _).run hl
  | lldtEw rm | ltrEw rm => exact (traps_protected hi (hpriv.bind _)).run hl
  | lmswEw rm => exact (hpriv.bind _).run hl
  | clts => exact (hpriv.bind _).run hl
  | hlt => exact (hpriv.bind _).run hl
  | movCdRd n r => exact (traps_movToCr hc hi r).run hl
  | movRdCd r n => exact (traps_movFromCr hc hi r).run hl
  | movDdRd n r | movRdDd r n =>
    obtain ⟨h4, h5⟩ : n ≠ 4#3 ∧ n ≠ 5#3 := by simpa [privilegedForm] using hi
    exact ((traps_debugCheck hc h4 h5).bind _).run hl
  | movTdRd n r | movRdTd r n =>
    have hn : n = 6#3 ∨ n = 7#3 := by simpa [privilegedForm] using hi
    exact ((traps_testCheck hc hn).bind _).run hl
  | _ => exact absurd hi Bool.false_ne_true

end Sys2Proof.Machine
end

section
/-! The fetch of an instruction, and a boundary that services nothing, leave the privilege level as it is. -/
namespace Sys2Proof.Machine

/-- A computation that leaves the privilege level as it is, whether it answers or stops. -/
structure KeepingLevel {α : Type} (x : M α) : Prop where
  within : Within (fun s t => t.cpl = s.cpl) x

section
variable {α β : Type}

/-! ## Combinators -/

theorem KeepingLevel.ret (a : α) : KeepingLevel (pure a : M α) := ⟨fun _ => rfl⟩
theorem KeepingLevel.exc (v : BitVec 8) (e : ErrCode) : KeepingLevel (raise v e : M α) := ⟨fun _ => rfl⟩
theorem KeepingLevel.upd {f : State → State} (h : ∀ s, (f s).cpl = s.cpl) : KeepingLevel (modS f) := ⟨within_modS h⟩

theorem KeepingLevel.ite {c : Prop} [Decidable c] {x y : M α} (hx : KeepingLevel x) (hy : KeepingLevel y) :
    KeepingLevel (if c then x else y) := ⟨within_if hx.within hy.within⟩

theorem KeepingLevel.bind {x : M α} {f : α → M β} (hx : KeepingLevel x) (hf : ∀ a, KeepingLevel (f a)) : KeepingLevel (x >>= f) :=
  ⟨within_bind (fun _ _ _ h k => k.trans h) hx.within fun a => (hf a).within⟩

theorem KeepingLevel.get {f : State → M β} (h : ∀ s, KeepingLevel (f s)) : KeepingLevel (getS >>= f) :=
  .bind ⟨within_getS fun _ => rfl⟩ h

/-- An update that leaves the level alone, then going on. -/
theorem KeepingLevel.updThen {f : State → State} {k : Unit → M β} (h : ∀ s, (f s).cpl = s.cpl) (hk : KeepingLevel (k ())) :
    KeepingLevel (modS f >>= k) := (KeepingLevel.upd h).bind fun _ => hk

theorem Touched.cpl {s t : State} (h : Touched s t) : t.cpl = s.cpl := by
  obtain ⟨_, _, _, _, _, _, _, rfl⟩ := h
  rfl

/-- What a computation that only touches changes does not include the level. -/
theorem keepingLevel_of_touches {x : M α} (h : Touches x) : KeepingLevel x where
  within s := by
    have := h s
    split at this <;> exact this.cpl

theorem keepingLevel_drawBool : KeepingLevel drawBool := keepingLevel_of_touches touches_drawBool

/-! ## The boundary -/

theorem keepingLevel_instrHit (k : Fin 4) : KeepingLevel (instrHit k) :=
  .get fun _ => .ite (.ite keepingLevel_drawBool (.ret _)) (.ret _)

theorem keepingLevel_instrBreakpoints : KeepingLevel instrBreakpoints :=
  .get fun _ => .ite ((keepingLevel_instrHit _).bind fun _ => (keepingLevel_instrHit _).bind fun _ =>
    (keepingLevel_instrHit _).bind fun _ => (keepingLevel_instrHit _).bind fun _ => .ret _) (.ret _)

theorem keepingLevel_boundaryEvent : KeepingLevel boundaryEvent :=
  .get fun _ => .ite (.updThen (fun _ => rfl) <| .ret _) <| keepingLevel_instrBreakpoints.bind fun _ =>
    .ite (.updThen (fun _ => rfl) <| .ret _) <| .ite (.updThen (fun _ => rfl) <| .ret _) <| .ite
    (by
      split
      · exact .updThen (fun _ => rfl) <| .ret _
      · exact .ret _)
    (.ret _)

/-! ## The fetch -/

theorem keepingLevel_codeByte (k : Nat) : KeepingLevel (codeByte k) :=
  .get fun _ => (keepingLevel_of_touches (touches_resolve _ _ _ _)).bind fun _ => ⟨fun _ => rfl⟩

theorem keepingLevel_fetchByte (k : Nat) : KeepingLevel (fetchByte k) := by
  have h (b : Byte) : KeepingLevel (do modS fun s => { s with fetched := s.fetched ++ [b] }; pure b) :=
    .updThen (fun _ => rfl) <| .ret _
  refine .get fun _ => .ite (.updThen (fun _ => rfl) ?_) (.exc _ _)
  dsimp only
  split
  · exact (KeepingLevel.ret _).bind h
  · exact (keepingLevel_codeByte _).bind h

theorem keepingLevel_fetchFrom (fuel : Nat) (acc : List Byte) : KeepingLevel (fetchFrom fuel acc) := by
  induction fuel generalizing acc with
  | zero => exact .exc _ _
  | succ n ih =>
    refine .get fun _ => ?_
    split
    · exact .ret _
    · exact .ite ((keepingLevel_fetchByte _).bind fun _ => ih _) (.exc _ _)
    · exact .exc _ _
    · exact .exc _ _

theorem keepingLevel_readAhead (k : Nat) : KeepingLevel (readAhead k) where
  within s := by
    have h := (keepingLevel_codeByte k).within s
    unfold readAhead
    by_cases hk : s.mayFetch k = true
    · rw [if_pos hk]
      cases hx : codeByte k s with
      | ok b t => rw [hx] at h; exact h
      | error e t => rfl
    · rw [if_neg hk]

theorem keepingLevel_refill (n k : Nat) (q : List (Option Byte)) : KeepingLevel (refill n k q) := by
  induction n generalizing k q with
  | zero => exact .ret _
  | succ n ih =>
    have h (b : Option Byte) : KeepingLevel (do let rest ← refill n (k + 1) q.tail; pure (b :: rest)) := (ih _ _).bind fun _ => .ret _
    unfold refill
    dsimp only
    split
    · exact (KeepingLevel.ret _).bind h
    · exact keepingLevel_drawBool.bind fun _ => .ite ((keepingLevel_readAhead _).bind h) ((KeepingLevel.ret _).bind h)

theorem keepingLevel_prefetch (k : Nat) : KeepingLevel (prefetch k) :=
  .get fun _ => (keepingLevel_refill ..).bind fun _ => .upd fun _ => rfl

theorem keepingLevel_fetchInstr : KeepingLevel fetchInstr :=
  (keepingLevel_fetchFrom ..).bind fun _ => .get fun _ => (keepingLevel_prefetch _).bind fun _ => .updThen (fun _ => rfl) <| .ret _

end
end Sys2Proof.Machine
end

section
/-! What a step outside level 0 leaves alone: no ordinary computation changes it, the writers of the system registers are stopped by
their checks, and a delivery or the end of a failed attempt keeps it (21_protection.md R184). -/
namespace Sys2Proof.Machine

/-- The system registers that no step outside level 0 writes are in `t` as they are in `s`, CR0 but for TS. -/
structure SameSystem (s t : State) : Prop where
  gdtr : t.gdtr = s.gdtr
  idtr : t.idtr = s.idtr
  cr0 : t.cr0 = { s.cr0 with TS := t.cr0.TS }
  dr0 : t.dbg.dr0 = s.dbg.dr0
  dr1 : t.dbg.dr1 = s.dbg.dr1
  dr2 : t.dbg.dr2 = s.dbg.dr2
  dr3 : t.dbg.dr3 = s.dbg.dr3
  tr6 : t.tr6 = s.tr6
  tr7 : t.tr7 = s.tr7

theorem SameSystem.refl (s : State) : SameSystem s s := ⟨rfl, rfl, rfl, rfl, rfl, rfl, rfl, rfl, rfl⟩

theorem SameSystem.trans {s t u : State} (h : SameSystem s t) (k : SameSystem t u) : SameSystem s u where
  gdtr := k.gdtr.trans h.gdtr
  idtr := k.idtr.trans h.idtr
  cr0 := by rw [k.cr0, h.cr0]
  dr0 := k.dr0.trans h.dr0
  dr1 := k.dr1.trans h.dr1
  dr2 := k.dr2.trans h.dr2
  dr3 := k.dr3.trans h.dr3
  tr6 := k.tr6.trans h.tr6
  tr7 := k.tr7.trans h.tr7

theorem Kept.sameSystem {s t : State} (h : Kept s t) : SameSystem s t := { h with }

theorem SameSystem.kept {s t u : State} (h : SameSystem s t) (k : Kept t u) : SameSystem s u := h.trans k.sameSystem

/-- Forgetting the prefixes read changes no system register. -/
theorem SameSystem.of_guarded {s t u : State} (h : SameSystem s t) (hu : u.guarded = { t.guarded with pfx := Prefixes.empty }) :
    SameSystem s u := by
  have hk : Kept { t with pfx := Prefixes.empty } u := .same hu
  have ht : SameSystem s { t with pfx := Prefixes.empty } := { h with }
  exact ht.kept hk

theorem stable_sameSystem (s : State) : Stable (SameSystem s) where
  kept k h := h.kept k
  finished d h := h.of_guarded (guarded_finished _ d)
  rollback h k := { h with dr0 := k.dr0, dr1 := k.dr1, dr2 := k.dr2, dr3 := k.dr3 }
  owing _ h := h.of_guarded rfl
  shutDown h := h.of_guarded rfl

/-- An instruction whose body stops at once with an exception does nothing but take it. -/
theorem Stable.of_raises {P : State → Prop} (hP : Stable P) {x : M Unit} {s t : State} (hx : Raises x s) (hs : P s)
    (h : run x s = .next t) : P t := by
  obtain ⟨e, he⟩ := hx
  cases hl : s.pfx.lock with
  | false =>
    rw [run_of_error hl he] at h
    exact hP.of_outcomeOf hs hs h
  | true =>
    rw [run, runNormal, runInstr_locked hl] at h
    exact hP.of_deliver (hP.rollback hs hs) h

theorem sameSystem_of_exec {i : Instr} {s t : State} (hc : s.cpl ≠ 0#2) (h : exec i s = .next t) : SameSystem s t := by
  have hr := exec_runs i s
  rw [h] at hr
  generalize ho : Host.Outcome.next t = o at hr
  cases hr with
  | ordinary hb => exact (stable_sameSystem s).of_runInstr ((stable_sameSystem s).of_keeping hb) (.refl s) ho.symm
  | system hb => exact (stable_sameSystem s).of_raises (hb.raises hc) (.refl s) ho.symm
  | prefixed f =>
    cases ho
    exact { SameSystem.refl s with }

theorem sameSystem_of_fetchAndRun {s t : State} (hc : s.cpl ≠ 0#2) (h : fetchAndRun s = .next t) : SameSystem s t := by
  have hk := (keeping_fetchInstr (p := false)).within s
  rw [fetchAndRun] at h
  cases hx : fetchInstr s with
  | ok i u =>
    rw [hx] at h hk
    have hu : u.cpl ≠ 0#2 := by rwa [keepingLevel_fetchInstr.within.ok hx]
    exact (hk nofun).sameSystem.trans (sameSystem_of_exec hu h)
  | error e u =>
    rw [hx] at h hk
    exact (stable_sameSystem s).of_outcomeOf (.refl s) (hk nofun).sameSystem h

theorem sameSystem_of_atBoundary {s t : State} (hc : s.cpl ≠ 0#2) (h : atBoundary s = .next t) : SameSystem s t := by
  have hn : SameSystem s s.sampleNmi := { SameSystem.refl s with }
  have hk := (keeping_boundaryEvent (p := false)).within s.sampleNmi
  rw [atBoundary] at h
  cases hx : boundaryEvent s.sampleNmi with
  | ok ev u =>
    rw [hx] at h hk
    have hu : SameSystem s u := hn.kept (hk nofun)
    cases ev with
    | some ev => exact (stable_sameSystem s).of_deliver hu h
    | none =>
      dsimp only at h
      split at h
      · cases h; exact hu
      · have hb : SameSystem s u.beginInstr := hu.kept (.same rfl)
        have hl : u.cpl = s.sampleNmi.cpl := keepingLevel_boundaryEvent.within.ok hx
        exact hb.trans (sameSystem_of_fetchAndRun (ne_of_eq_of_ne hl hc) h)
  | error e u =>
    rw [hx] at h hk
    exact (stable_sameSystem s).of_outcomeOf (.refl s) (hn.kept (hk nofun)) h

theorem sameSystem_of_step {s t : State} (hc : s.cpl ≠ 0#2) (hr : s.pins.reset = false) (h : step s = .next t) : SameSystem s t := by
  rw [step, stepOnce, hr, if_neg Bool.false_ne_true] at h
  split at h
  · cases h; exact .refl s
  split at h
  · cases h
  split at h
  · have hs : SameSystem s { s with pendingExc := none } := { SameSystem.refl s with }
    exact (stable_sameSystem s).of_deliver hs h
  split at h
  · exact sameSystem_of_atBoundary hc h
  · exact sameSystem_of_fetchAndRun hc h

/-- Settles O56. The level alone matters: protected mode is not used. -/
theorem userStepsLeaveSystemRegisters : Obligations.UserStepsLeaveSystemRegisters := by
  intro s t hc _ hr h
  have hs := sameSystem_of_step hc hr h
  exact ⟨hs.gdtr, hs.idtr, hs.cr0, hs.dr0, hs.dr1, hs.dr2, hs.dr3, hs.tr6, hs.tr7⟩

end Sys2Proof.Machine
end

section
/-! `LoadSeg` in a plain state, and the instructions whose load fails (21_protection.md R171 to R175; 47_segment_far_transfer.md R450
to R454). -/
namespace Sys2Proof.Machine

/-! ## The checks of a load -/

/-- The data access rule compares DPL with CPL and with RPL (21_protection.md R178). -/
theorem dataPrivOk_iff (cpl rpl dpl : BitVec 2) :
    dataPrivOk cpl rpl dpl = true ↔ cpl.toNat ≤ dpl.toNat ∧ rpl.toNat ≤ dpl.toNat := by
  rw [dataPrivOk, decide_eq_true_iff, maxPl]
  split <;> omega

section
variable {s : State} {sel : BitVec 16} {la : BitVec 32}

theorem loadSeg_real (hm : s.protectedMode = false) (r : SReg) (sel : BitVec 16) :
    loadSeg r sel s = .ok () { s with seg := s.seg.set r ((s.seg.get r).realLoad sel) } := by
  rw [loadSeg, bind_of_ok (getS_apply s), if_apply, hm, if_neg Bool.false_ne_true, putSeg_apply]

theorem loadSeg_stack (hm : s.protectedMode = true) (sel : BitVec 16) : loadSeg .ss sel s = loadStackSeg sel s := by
  rw [loadSeg, bind_of_ok (getS_apply s), if_apply, if_pos hm, if_apply, if_pos rfl]

theorem loadSeg_data (hm : s.protectedMode = true) {r : SReg} (hr : r ≠ .ss) (sel : BitVec 16) :
    loadSeg r sel s = loadDataSeg r sel s := by
  rw [loadSeg, bind_of_ok (getS_apply s), if_apply, if_pos hm, if_apply, if_neg hr]

/-- A check that passes goes on, one that fails raises. -/
theorem require_bind {α : Type} (c : Bool) (v : BitVec 8) (e : ErrCode) (f : Unit → M α) (s : State) :
    (require c v e >>= f) s = if c then f () s else .error (.exc ⟨v, e⟩) s := by
  cases c <;> rfl

/-! ## Data segments -/

theorem loadDataSeg_null (hn : nullSel sel = true) (r : SReg) :
    loadDataSeg r sel s = .ok () { s with seg := s.seg.set r ((s.seg.get r).nulled sel) } := by
  rw [loadDataSeg, bind_of_ok (getS_apply s), if_apply, if_pos hn, putSeg_apply]

/-- A selector outside its table (21_protection.md R168). -/
theorem loadDataSeg_outside (hn : nullSel sel = false) (he : s.entryAddr sel = none) (r : SReg) :
    loadDataSeg r sel s = .error (.exc ⟨vGP, selCode sel false⟩) s := by
  rw [loadDataSeg, bind_of_ok (getS_apply s), if_apply, hn, if_neg Bool.false_ne_true, bind_of_error (fetchDescOr_outside he ..)]

/-- The segment register a loaded descriptor fills, and its accessed bit. -/
theorem setAccessed_putSeg (hp : s.plain = true) (d : Desc) (r : SReg) (v : SegReg) :
    (setAccessed d >>= fun _ => putSeg r v) s = .ok () { s.loadedDesc d with seg := s.seg.set r v } := by
  have hseg : (s.loadedDesc d).seg = s.seg := by
    unfold State.loadedDesc
    split <;> rfl
  rw [bind_of_ok (setAccessed_plain hp d), putSeg_apply, hseg]

/-- The descriptor of a data-segment load, by the checks it meets in order (21_protection.md R174). -/
theorem loadDataSeg_of_entry (hp : s.plain = true) (hn : nullSel sel = false) (he : s.entryAddr sel = some la) (r : SReg) :
    let d := s.descAt la
    loadDataSeg r sel s =
      if d.isReadable = true ∧ (d.isConforming = true ∨ s.cpl.toNat ≤ d.dpl.toNat ∧ (rplOf sel).toNat ≤ d.dpl.toNat) then
        if d.p then .ok () { s.loadedDesc d with seg := s.seg.set r (d.toSeg sel) } else .error (.exc ⟨vNP, selCode sel false⟩) s
      else .error (.exc ⟨vGP, selCode sel false⟩) s := by
  intro d
  rw [loadDataSeg, bind_of_ok (getS_apply s), if_apply, hn, if_neg Bool.false_ne_true, bind_of_ok (fetchDescOr_plain hp he ..),
    checkDataSeg]
  simp only [bind_assoc, require_bind, setAccessed_putSeg hp, ite_and, ← dataPrivOk_iff, Bool.or_eq_true]
  rfl

/-! ## Stack segments -/

theorem loadStackSeg_null (hn : nullSel sel = true) : loadStackSeg sel s = .error (.exc ⟨vGP, zeroCode false⟩) s := by
  rw [loadStackSeg, bind_of_ok (getS_apply s), require_bind, hn]
  rfl

theorem loadStackSeg_outside (hn : nullSel sel = false) (he : s.entryAddr sel = none) :
    loadStackSeg sel s = .error (.exc ⟨vGP, selCode sel false⟩) s := by
  rw [loadStackSeg, bind_of_ok (getS_apply s), require_bind, hn]
  exact bind_of_error (fetchDescOr_outside he ..)

/-- The descriptor of a stack-segment load, by the checks it meets in order (21_protection.md R175). -/
theorem loadStackSeg_of_entry (hp : s.plain = true) (hn : nullSel sel = false) (he : s.entryAddr sel = some la) :
    let d := s.descAt la
    loadStackSeg sel s =
      if d.isWritableData = true ∧ d.dpl = s.cpl ∧ rplOf sel = s.cpl then
        if d.p then .ok () { s.loadedDesc d with seg := s.seg.set .ss (d.toSeg sel) } else .error (.exc ⟨vSS, selCode sel false⟩) s
      else .error (.exc ⟨vGP, selCode sel false⟩) s := by
  intro d
  rw [loadStackSeg, bind_of_ok (getS_apply s), require_bind, hn, Bool.not_false, if_pos rfl, bind_of_ok (fetchDescOr_plain hp he ..)]
  simp only [require_bind, setAccessed_putSeg hp, beq_iff_eq, and_comm (a := d.dpl = s.cpl), ite_and]
  rfl

end

/-! ## The instructions that load -/

/-- The five POPs to a segment register run the one shared operation. -/
theorem exec_popSegForm {i : Instr} {r : SReg} (h : popSegForm i = some r) (s : State) :
    exec i s = runInstr false (popSeg s.osz r) s := by
  cases i with
  | popEs | popSs | popDs | popFs | popGs =>
    cases h
    rfl
  | _ => cases h

/-- The five far pointer loads run the one shared operation. -/
theorem exec_farPtrForm {i : Instr} {x : SReg} {r : Reg} {rm : Rm} (h : farPtrForm i = some (x, r, rm)) (s : State) :
    exec i s = run (loadFarPtr x s.osz r rm) s := by
  cases i with
  | ldsGvMp | lesGvMp | lfsGvMp | lgsGvMp | lssGvMp =>
    cases h
    rfl
  | _ => cases h

section
variable {s s1 s2 s3 : State}

theorem movToSeg_of_failing {n : BitVec 3} {rm : Rm} {r : SReg} {p : Place} {e : Halt} (hn : SReg.ofCode? n = some r) (hr : r ≠ .cs)
    (hpl : place .w rm false s = .ok p s1) (hf : loadSeg r (s1.valueAt .w p) s1 = .error e s2) :
    movToSeg n rm s = .error e s2 := by
  have h : movToSeg n rm = (do let v ← readRm .w rm; loadSeg r v; pure (loadEnds r)) := by
    rw [movToSeg, hn]
    cases r with
    | cs => exact absurd rfl hr
    | es | ss | ds | fs | gs => rfl
  rw [h, bind_of_ok (readRm_of_place hpl), bind_of_error hf]

theorem popSeg_of_failing {sz : Size} {r : SReg} {l : Loc} {e : Halt} (hl : locate .ss (s.above 0) sz.bytes false s = .ok l s1)
    (hf : loadSeg r ((s1.load sz.bits l).setWidth 16) s1 = .error e s2) : popSeg sz r s = .error e s2 := by
  rw [popSeg, bind_of_ok (peek_of_locate hl), bind_of_ok (getS_apply s1), bind_of_error hf]

/-- Where the selector's offset does not wrap, it lies below 2^16 in a 16-bit address size (47_segment_far_transfer.md R454). -/
theorem ea_add_lt_of_no_wrap {g : Gpr} {b : Base16} {d : BitVec 16} {sz : Size}
    (hw : memEaPlus g (.a16 b d) sz.bytes = memEa g (.a16 b d) + BitVec.ofNat 32 sz.bytes) :
    (memEa g (.a16 b d)).toNat + sz.bytes < 2 ^ 16 := by
  have hsz : sz.bytes ≤ 4 := by cases sz <;> decide
  have hea : (memEa g (.a16 b d)).toNat < 2 ^ 16 := by
    rw [memEa, BitVec.toNat_setWidth]
    have := (base16 g b + d).isLt
    omega
  have h := congrArg BitVec.toNat hw
  simp only [memEaPlus, wrapOff, Bool.false_eq_true, if_false, BitVec.toNat_setWidth, BitVec.extractLsb'_toNat, BitVec.toNat_add,
    BitVec.toNat_ofNat, Nat.shiftRight_zero] at h
  omega

/-- A far pointer whose selector does not wrap has passed the check of the whole operand (21_protection.md R172). -/
theorem segOk_of_farPtrOk {m : Mem} (h : s.farPtrOk m = true)
    (hw : memEaPlus s.gpr m s.osz.bytes = memEa s.gpr m + BitVec.ofNat 32 s.osz.bytes) :
    s.segOk (s.memSeg m) (memEa s.gpr m) (s.osz.bytes + 2) .read = true := by
  cases m with
  | a32 b i d => simpa [State.farPtrOk] using h
  | a16 b d =>
    have hno : ¬ 2 ^ 16 ≤ (memEa s.gpr (.a16 b d)).toNat + s.osz.bytes := Nat.not_le.2 (ea_add_lt_of_no_wrap hw)
    simpa only [State.farPtrOk, decide_eq_false hno, Bool.false_or] using h

theorem loadFarPtr_of_failing {x : SReg} {r : Reg} {m : Mem} {l0 l1 : Loc} {e : Halt} (hok : s.farPtrOk m = true)
    (h0 : locate (s.memSeg m) (memEa s.gpr m) s.osz.bytes false s = .ok l0 s1)
    (h1 : locate (s.memSeg m) (memEaPlus s.gpr m s.osz.bytes) 2 false s1 = .ok l1 s2)
    (hf : loadSeg x (s2.load 16 l1) s2 = .error e s3) : loadFarPtr x s.osz r (.mem m) s = .error e s3 := by
  have hoff : readPart s.osz m 0 s = .ok (s1.load s.osz.bits l0) s1 := by
    rw [readPart, bind_of_ok (getS_apply s), BitVec.add_zero, lread_of_locate h0]
  have hsel : lread (s.memSeg m) (memEaPlus s.gpr m s.osz.bytes) .w s1 = .ok (s2.load 16 l1) s2 := lread_of_locate h1
  have rest : (do
      let off ← readPart s.osz m 0
      let sel ← lread (s.memSeg m) (memEaPlus s.gpr m s.osz.bytes) .w
      loadSeg x sel
      putReg s.osz r off : M Unit) s = .error e s3 := by
    rw [bind_of_ok hoff, bind_of_ok hsel, bind_of_error hf]
  have hmem : onlyMem (.mem m) s = .ok m s := rfl
  rw [loadFarPtr, bind_of_ok hmem, bind_of_ok (getS_apply s), if_apply]
  split
  case isTrue hw =>
    have hcheck : checkWhole m (s.osz.bytes + 2) .read s = .ok () s := by rw [checkWhole_eq, if_pos (segOk_of_farPtrOk hok hw)]
    rw [bind_of_ok hcheck]
    exact rest
  case isFalse => exact rest

end

/-- A load that ends in one of three ways, by whether it is allowed and the segment present. -/
theorem ways_of_load {α : Type} {P : Prop} [Decidable P] {b : Bool} {o loaded absent refused : α}
    (h : o = if P then if b then loaded else absent else refused) :
    (¬ P → o = refused) ∧ (P → b = false → o = absent) ∧ (P → b = true → o = loaded) := by
  refine ⟨fun hP => ?_, fun hP hb => ?_, fun hP hb => ?_⟩
  · rw [h, if_neg hP]
  · rw [h, if_pos hP, hb, if_neg Bool.false_ne_true]
  · rw [h, if_pos hP, if_pos hb]

/-- Settles O32. -/
theorem segmentLoads : Obligations.SegmentLoads := by
  refine ⟨fun s r sel hp => ⟨fun hm => loadSeg_real hm r sel, fun hm hr hn => ?_, fun hm hn => ?_, fun hm hn he => ?_,
    fun la hm hr hn he => ?_, fun la hm hn he => ?_⟩, fun s hl => ⟨fun n r rm p s1 y s2 hn hr hpl hf => ?_,
    fun i r l s1 y s2 hi hloc hf => ?_, fun i x r m l0 l1 s1 s2 y s3 hi hok h0 h1 hf => ?_⟩⟩
  · rw [loadSeg_data hm hr]
    exact loadDataSeg_null hn r
  · rw [loadSeg_stack hm]
    exact loadStackSeg_null hn
  · by_cases hr : r = .ss
    · rw [hr, loadSeg_stack hm]
      exact loadStackSeg_outside hn he
    · rw [loadSeg_data hm hr]
      exact loadDataSeg_outside hn he r
  · rw [loadSeg_data hm hr]
    exact ways_of_load (loadDataSeg_of_entry hp hn he r)
  · rw [loadSeg_stack hm]
    exact ways_of_load (loadStackSeg_of_entry hp hn he)
  · exact runInstr_of_error (.inl hl) (movToSeg_of_failing hn hr hpl hf)
  · rw [exec_popSegForm hi]
    exact runInstr_of_error (.inl hl) (popSeg_of_failing hloc hf)
  · rw [exec_farPtrForm hi]
    exact run_of_error hl (loadFarPtr_of_failing hok h0 h1 hf)

end Sys2Proof.Machine
end

section
/-! The parsers of the decoder against the encoder's fields: a parser reads the bytes the encoder writes, whatever follows them, and
asks for more when given fewer (30_encoding.md R201, R210 to R219, R225). -/
namespace Sys2Proof

/-- Under attributes `a` the parser `x` reads exactly the bytes `c`, at most `n` of them, answering `v` whatever follows them; of fewer
of these bytes it asks for more. -/
structure Reads (n : Nat) {α : Type} (x : P α) (a : Attrs) (c : List Byte) (v : α) : Prop where
  length_le : c.length ≤ n
  whole : ∀ rest, x a (c ++ rest) = .ok v rest
  short : ∀ p q, p ++ q = c → q ≠ [] → ∃ r, x a p = .error .needMore r

section
variable {α β : Type} {a : Attrs} {j k l : Nat}

/-! ## Combinators -/

theorem reads_pure (v : α) : Reads 0 (pure v) a [] v where
  length_le := Nat.le_refl 0
  whole _ := rfl
  short _ _ h hq := absurd (List.append_eq_nil_iff.1 h).2 hq

theorem reads_next (b : Byte) : Reads 1 next a [b] b where
  length_le := Nat.le_refl 1
  whole _ := rfl
  short p q h hq := by
    rcases List.append_eq_singleton_iff.1 h with ⟨rfl, -⟩ | ⟨-, rfl⟩
    · exact ⟨[], rfl⟩
    · exact absurd rfl hq

theorem reads_attrs : Reads 0 attrs a [] a where
  length_le := Nat.le_refl 0
  whole _ := rfl
  short _ _ h hq := absurd (List.append_eq_nil_iff.1 h).2 hq

theorem Reads.mono {x : P α} {c : List Byte} {v : α} (h : Reads j x a c v) (hk : j ≤ k) : Reads k x a c v where
  length_le := h.length_le.trans hk
  whole := h.whole
  short := h.short

/-- What a sequence answers, by what its first part answers. -/
theorem P.bind_of_ok {x : P α} {f : α → P β} {l r : List Byte} {v : α} (h : x a l = .ok v r) : (x >>= f) a l = f v a r := by
  show EStateM.bind (x a) (fun v => f v a) l = _
  rw [EStateM.bind, h]

theorem P.bind_of_error {x : P α} {f : α → P β} {l r : List Byte} {e : DecodeStop} (h : x a l = .error e r) :
    (x >>= f) a l = .error e r := by
  show EStateM.bind (x a) (fun v => f v a) l = _
  rw [EStateM.bind, h]

/-- A sequence reads the bytes of its parts one after the other. -/
theorem Reads.bind {x : P α} {f : α → P β} {c d : List Byte} {v : α} {w : β} (hx : Reads j x a c v) (hf : Reads k (f v) a d w)
    (hl : j + k ≤ l := by decide) : Reads l (x >>= f) a (c ++ d) w where
  length_le := by
    rw [List.length_append]
    exact (Nat.add_le_add hx.length_le hf.length_le).trans hl
  whole rest := by rw [List.append_assoc, P.bind_of_ok (hx.whole _), hf.whole]
  short p q h hq := by
    rcases List.append_eq_append_iff.1 h with ⟨t, rfl, ht⟩ | ⟨t, rfl, ht⟩
    · by_cases hn : t = []
      · subst hn
        obtain ⟨r, hr⟩ := hf.short [] q ht hq
        rw [List.append_nil] at hx
        rw [← List.append_nil p, P.bind_of_ok (hx.whole []), hr]
        exact ⟨r, rfl⟩
      · obtain ⟨r, hr⟩ := hx.short p t rfl hn
        exact ⟨r, P.bind_of_error hr⟩
    · obtain ⟨r, hr⟩ := hf.short t q ht.symm hq
      rw [P.bind_of_ok (hx.whole t), hr]
      exact ⟨r, rfl⟩

/-- Only the answer is changed. -/
theorem Reads.map {x : P α} {c : List Byte} {v : α} (h : Reads k x a c v) (f : α → β) :
    Reads k (do let v ← x; pure (f v)) a c (f v) := by
  simpa using h.bind (f := fun v => pure (f v)) (reads_pure (f v)) (l := k) (Nat.add_zero k).le

theorem Reads.next_bind {f : Byte → P β} {b : Byte} {d : List Byte} {w : β} (h : Reads k (f b) a d w) :
    Reads (k + 1) (next >>= f) a (b :: d) w := (reads_next b).bind h (Nat.add_comm 1 k).le

theorem Reads.attrs_bind {f : Attrs → P β} {d : List Byte} {w : β} (h : Reads k (f a) a d w) : Reads k (attrs >>= f) a d w :=
  reads_attrs.bind h (Nat.zero_add k).le

/-! ## Words, doublewords and `v` fields -/

theorem reads_next16 (v : BitVec 16) : Reads 2 next16 a (le16 v) v := by
  have hv : v.extractLsb' 8 8 ++ v.extractLsb' 0 8 = v :=
    (BitVec.extractLsb'_append_extractLsb'_eq_extractLsb' rfl).trans BitVec.extractLsb'_eq_self
  have h : Reads 2 next16 a (le16 v) (v.extractLsb' 8 8 ++ v.extractLsb' 0 8) :=
    .next_bind <| .next_bind <| reads_pure _
  rwa [hv] at h

theorem reads_next32 (v : BitVec 32) : Reads 4 next32 a (le32 v) v := by
  have hv : v.extractLsb' 16 16 ++ v.extractLsb' 0 16 = v :=
    (BitVec.extractLsb'_append_extractLsb'_eq_extractLsb' rfl).trans BitVec.extractLsb'_eq_self
  have h : Reads 4 next32 a (le32 v) (v.extractLsb' 16 16 ++ v.extractLsb' 0 16) :=
    (reads_next16 _).bind ((reads_next16 _).map _)
  rwa [hv] at h

/-- A `v` field is read back when the value fits the size (R218, R219). -/
theorem reads_nextV {is32 : Bool} {v : BitVec 32} (h : immFits is32 v = true) : Reads 4 (nextV is32) a (encV is32 v) v := by
  cases is32 with
  | true => exact reads_next32 v
  | false =>
    have hlt : v.toNat < 65536 := by simpa [immFits] using h
    have hv : (v.extractLsb' 0 16).setWidth 32 = v := by
      apply BitVec.eq_of_toNat_eq
      rw [BitVec.toNat_setWidth, BitVec.extractLsb'_toNat]
      omega
    have h := (reads_next16 (a := a) (v.extractLsb' 0 16)).map (BitVec.setWidth 32)
    rw [hv] at h
    exact h.mono (by decide)

/-! ## The fields of the ModR/M and SIB bytes -/

@[simp] theorem fieldHi_fieldsByte (hi : BitVec 2) (mid lo : BitVec 3) : fieldHi (fieldsByte hi mid lo) = hi := by
  rw [fieldHi, fieldsByte, BitVec.extractLsb'_append_eq_of_le (by decide), BitVec.extractLsb'_append_eq_left]

@[simp] theorem fieldMid_fieldsByte (hi : BitVec 2) (mid lo : BitVec 3) : fieldMid (fieldsByte hi mid lo) = mid := by
  rw [fieldMid, fieldsByte, BitVec.extractLsb'_append_eq_of_le (by decide), BitVec.extractLsb'_append_eq_right]

@[simp] theorem fieldLo_fieldsByte (hi : BitVec 2) (mid lo : BitVec 3) : fieldLo (fieldsByte hi mid lo) = lo :=
  BitVec.extractLsb'_append_eq_right

@[simp] theorem Reg.ofCode_code (r : Reg) : Reg.ofCode r.code = r := by cases r <;> rfl
@[simp] theorem Scale.ofCode_code (s : Scale) : Scale.ofCode s.code = s := by cases s <;> rfl

/-- The displacement alone has no code of its own (R215). -/
theorem Base16.ofCode_code {b : Base16} (h : b ≠ .none) : Base16.ofCode b.code = b := by
  cases b with
  | none => exact absurd rfl h
  | bxsi | bxdi | bpsi | bpdi | si | di | bp | bx => rfl

theorem Reg.code_eq_four_iff (r : Reg) : r.code = 4#3 ↔ r = .sp := by cases r <;> decide

/-- The SIB byte holds the base, or 101 for none. -/
theorem fieldLo_encSib (b : Option Reg) (x : Option (Reg × Scale)) : fieldLo (encSib b x) = b.elim 5#3 Reg.code := by
  cases b <;> cases x <;> exact fieldLo_fieldsByte ..

/-- The SIB byte holds the index, which is not ESP (R214). -/
theorem sibIndex_encSib {b : Option Reg} {x : Option (Reg × Scale)} (h : ∀ y ∈ x, y.1 ≠ .sp) : sibIndex (encSib b x) = x := by
  cases x with
  | none => simp [sibIndex, encSib]
  | some y => simp [sibIndex, encSib, Reg.code_eq_four_iff, h y rfl]

/-! ## Operands -/

/-- What a well-formed 32-bit form asks of its index (R214). -/
theorem Mem.wf_a32 {b : Option Reg} {x : Option (Reg × Scale)} {d : BitVec 32} (h : (Mem.a32 b x d).wf a = true) :
    a.a32 = true ∧ ∀ y ∈ x, y.1 ≠ .sp := by
  cases x with
  | none => exact ⟨h, nofun⟩
  | some y => simpa [Mem.wf] using h

/-- A form with a SIB byte and no base register, its displacement of 32 bits (R214). -/
theorem reads_mem32_noBase {n : BitVec 3} {x : Option (Reg × Scale)} (hx : ∀ y ∈ x, y.1 ≠ .sp) (d : BitVec 32) :
    Reads 5 (mem32 (fieldsByte 0#2 n 4#3)) a (encSib none x :: le32 d) (.a32 none x d) := by
  rw [mem32, if_pos (fieldLo_fieldsByte ..)]
  refine .next_bind ?_
  rw [if_pos ⟨fieldLo_encSib none x, fieldHi_fieldsByte ..⟩, sibIndex_encSib hx]
  exact (reads_next32 d).map (Mem.a32 none x)

/-- A form with a SIB byte and a base register, its displacement of 32 bits (R214). -/
theorem reads_mem32_base {n : BitVec 3} {x : Option (Reg × Scale)} (hx : ∀ y ∈ x, y.1 ≠ .sp) (b : Reg) (d : BitVec 32) :
    Reads 5 (mem32 (fieldsByte 2#2 n 4#3)) a (encSib (some b) x :: le32 d) (.a32 (some b) x d) := by
  rw [mem32, if_pos (fieldLo_fieldsByte ..)]
  refine .next_bind ?_
  rw [fieldHi_fieldsByte, if_neg (by simp), sibIndex_encSib hx, fieldLo_encSib, Option.elim_some, Reg.ofCode_code]
  exact (reads_next32 d).map (Mem.a32 (some b) x)

/-- A 16-bit displacement alone (R215). -/
theorem reads_mem16_none (n : BitVec 3) (d : BitVec 16) : Reads 2 (mem16 (fieldsByte 0#2 n 6#3)) a (le16 d) (.a16 .none d) := by
  rw [mem16, if_pos ⟨fieldLo_fieldsByte .., fieldHi_fieldsByte ..⟩]
  exact (reads_next16 d).map (Mem.a16 .none)

/-- A 16-bit form with register terms, its displacement of 16 bits (R215). -/
theorem reads_mem16_base (n : BitVec 3) {b : Base16} (hb : b ≠ .none) (d : BitVec 16) :
    Reads 2 (mem16 (fieldsByte 2#2 n b.code)) a (le16 d) (.a16 b d) := by
  rw [mem16, fieldHi_fieldsByte, if_neg (by simp), fieldLo_fieldsByte, Base16.ofCode_code hb]
  exact (reads_next16 d).map (Mem.a16 b)

theorem reads_rmOperand_mem32 {m : Byte} {c : List Byte} {x : Mem} (hm : fieldHi m ≠ 3#2) (ha : a.a32 = true)
    (h : Reads k (mem32 m) a c x) : Reads k (rmOperand m) a c (.mem x) := by
  rw [rmOperand, if_neg hm]
  refine .attrs_bind ?_
  rw [if_pos ha]
  exact h.map Rm.mem

theorem reads_rmOperand_mem16 {m : Byte} {c : List Byte} {x : Mem} (hm : fieldHi m ≠ 3#2) (ha : a.a32 = false)
    (h : Reads k (mem16 m) a c x) : Reads k (rmOperand m) a c (.mem x) := by
  rw [rmOperand, if_neg hm]
  refine .attrs_bind ?_
  rw [ha]
  exact h.map Rm.mem

theorem reads_rmOperand_reg (n : BitVec 3) (r : Reg) : Reads 0 (rmOperand (fieldsByte 3#2 n r.code)) a [] (.reg r) := by
  rw [rmOperand, if_pos (fieldHi_fieldsByte ..), fieldLo_fieldsByte, Reg.ofCode_code]
  exact reads_pure _

theorem encRm_a16 (n : BitVec 3) {b : Base16} (hb : b ≠ .none) (d : BitVec 16) :
    encRm n (.mem (.a16 b d)) = fieldsByte 2#2 n b.code :: le16 d := by
  cases b with
  | none => exact absurd rfl hb
  | bxsi | bxdi | bpsi | bpdi | si | di | bp | bx => rfl

/-- An encoded operand is a ModR/M byte that holds `n` in its middle field, and the bytes that byte calls for, at most five
(R210). -/
theorem encRm_eq {n : BitVec 3} {rm : Rm} (h : rm.wf a = true) :
    ∃ m c, encRm n rm = m :: c ∧ fieldMid m = n ∧ Reads 5 (rmOperand m) a c rm := by
  cases rm with
  | reg r => exact ⟨_, _, rfl, fieldMid_fieldsByte .., (reads_rmOperand_reg n r).mono (by decide)⟩
  | mem x =>
    cases x with
    | a32 b x d =>
      obtain ⟨ha, hx⟩ := Mem.wf_a32 h
      cases b with
      | none => exact ⟨_, _, rfl, fieldMid_fieldsByte .., reads_rmOperand_mem32 (by simp) ha (reads_mem32_noBase hx d)⟩
      | some b => exact ⟨_, _, rfl, fieldMid_fieldsByte .., reads_rmOperand_mem32 (by simp) ha (reads_mem32_base hx b d)⟩
    | a16 b d =>
      have ha : a.a32 = false := by simpa [Rm.wf, Mem.wf] using h
      by_cases hb : b = .none
      · subst hb
        exact ⟨_, _, rfl, fieldMid_fieldsByte .., (reads_rmOperand_mem16 (by simp) ha (reads_mem16_none n d)).mono (by decide)⟩
      · have hd := reads_rmOperand_mem16 (by simp) ha (reads_mem16_base n hb d)
        exact ⟨_, _, encRm_a16 n hb d, fieldMid_fieldsByte .., hd.mono (by decide)⟩

end
end Sys2Proof
end

section
/-! Decoding undoes encoding: the parser of each operand shape reads what the encoder writes for it, and the opcode maps lead each
encoded instruction to the parser of its shape (30_encoding.md R210 to R234). -/
namespace Sys2Proof

section
variable {a : Attrs}

/-! ## Operand shapes -/

theorem reads_d0 (i : Instr) : Reads 0 (d0 i) a [] i := reads_pure i

theorem reads_dIb {f : BitVec 8 → Instr} (v : BitVec 8) : Reads 1 (dIb f) a [v] (f v) := (reads_next v).map f

theorem reads_dIw {f : BitVec 16 → Instr} (v : BitVec 16) : Reads 2 (dIw f) a (le16 v) (f v) := (reads_next16 v).map f

theorem reads_dIv {f : BitVec 32 → Instr} {v : BitVec 32} (h : immFits a.o32 v = true) : Reads 4 (dIv f) a (encV a.o32 v) (f v) :=
  .attrs_bind <| (reads_nextV h).map f

theorem reads_dO {f : BitVec 32 → Instr} {v : BitVec 32} (h : immFits a.a32 v = true) : Reads 4 (dO f) a (encV a.a32 v) (f v) :=
  .attrs_bind <| (reads_nextV h).map f

theorem reads_dA {f : BitVec 32 → BitVec 16 → Instr} {v : BitVec 32} (h : immFits a.o32 v = true) (s : BitVec 16) :
    Reads 6 (dA f) a (encV a.o32 v ++ le16 s) (f v s) :=
  .attrs_bind <| (reads_nextV h).bind <| (reads_next16 s).map (f v)

theorem reads_dIwIb {f : BitVec 16 → BitVec 8 → Instr} (v : BitVec 16) (l : BitVec 8) :
    Reads 3 (dIwIb f) a (le16 v ++ [l]) (f v l) := (reads_next16 v).bind <| (reads_next l).map (f v)

/-- The ModR/M byte of a control, debug or test register move names two registers, whatever its `mod` (R231). -/
theorem reads_dRC {f : Reg → BitVec 3 → Instr} (r : Reg) (n : BitVec 3) : Reads 1 (dRC f) a (encRm n (.reg r)) (f r n) := by
  have h : Reads 1 (dRC f) a (encRm n (.reg r)) _ := .next_bind <| reads_pure _
  rwa [fieldLo_fieldsByte, fieldMid_fieldsByte, Reg.ofCode_code] at h

theorem reads_dCR {f : BitVec 3 → Reg → Instr} (n : BitVec 3) (r : Reg) : Reads 1 (dCR f) a (encRm n (.reg r)) (f n r) := by
  have h : Reads 1 (dCR f) a (encRm n (.reg r)) _ := .next_bind <| reads_pure _
  rwa [fieldLo_fieldsByte, fieldMid_fieldsByte, Reg.ofCode_code] at h

section
variable {k : Nat} {rm : Rm} (hrm : rm.wf a = true)
include hrm

/-- The shapes with a ModR/M byte `m`: what goes on after it meets `m` as the encoder made it (R210). -/
theorem reads_modRM {n : BitVec 3} {f : Byte → P Instr} {d : List Byte} {i : Instr}
    (h : ∀ m c, fieldMid m = n → Reads 5 (rmOperand m) a c rm → Reads k (f m) a (c ++ d) i) :
    Reads (k + 1) (next >>= f) a (encRm n rm ++ d) i := by
  obtain ⟨m, c, hmc, hm, hc⟩ := encRm_eq (n := n) hrm
  rw [hmc]
  exact .next_bind <| h m c hm hc

/-- The same where nothing follows the operand. -/
theorem reads_modRM_last {n : BitVec 3} {f : Byte → P Instr} {i : Instr}
    (h : ∀ m c, fieldMid m = n → Reads 5 (rmOperand m) a c rm → Reads k (f m) a c i) : Reads (k + 1) (next >>= f) a (encRm n rm) i := by
  have h := reads_modRM (n := n) (f := f) (d := []) (i := i) hrm fun m c hm hc => by
    rw [List.append_nil]
    exact h m c hm hc
  rwa [List.append_nil] at h

theorem reads_dE {n : BitVec 3} {f : Rm → Instr} : Reads 6 (dE f) a (encRm n rm) (f rm) :=
  reads_modRM_last hrm fun _ _ _ h => h.map f

theorem reads_dEG {r : Reg} {f : Rm → Reg → Instr} : Reads 6 (dEG f) a (encRm r.code rm) (f rm r) :=
  reads_modRM_last hrm fun m _ hm h => by
    rw [hm, Reg.ofCode_code]
    exact h.map fun x => f x r

theorem reads_dGE {r : Reg} {f : Reg → Rm → Instr} : Reads 6 (dGE f) a (encRm r.code rm) (f r rm) :=
  reads_modRM_last hrm fun m _ hm h => by
    rw [hm, Reg.ofCode_code]
    exact h.map (f r)

theorem reads_dES {n : BitVec 3} {f : Rm → BitVec 3 → Instr} : Reads 6 (dES f) a (encRm n rm) (f rm n) :=
  reads_modRM_last hrm fun m _ hm h => by
    rw [hm]
    exact h.map fun x => f x n

theorem reads_dSE {n : BitVec 3} {f : BitVec 3 → Rm → Instr} : Reads 6 (dSE f) a (encRm n rm) (f n rm) :=
  reads_modRM_last hrm fun m _ hm h => by
    rw [hm]
    exact h.map (f n)

theorem reads_dEsc {op n : BitVec 3} : Reads 6 (dEsc op) a (encRm n rm) (.esc op n rm) :=
  reads_modRM_last hrm fun m _ hm h => by
    rw [hm]
    exact h.map (Instr.esc op n)

theorem reads_dEGIb {r : Reg} {f : Rm → Reg → BitVec 8 → Instr} (v : BitVec 8) :
    Reads 7 (dEGIb f) a (encRm r.code rm ++ [v]) (f rm r v) :=
  reads_modRM hrm fun m _ hm h => by
    rw [hm, Reg.ofCode_code]
    exact h.bind <| (reads_next v).map (f rm r)

theorem reads_dGEIb {r : Reg} {f : Reg → Rm → BitVec 8 → Instr} (v : BitVec 8) :
    Reads 7 (dGEIb f) a (encRm r.code rm ++ [v]) (f r rm v) :=
  reads_modRM hrm fun m _ hm h => by
    rw [hm, Reg.ofCode_code]
    exact h.bind <| (reads_next v).map (f r rm)

theorem reads_dGEIv {r : Reg} {f : Reg → Rm → BitVec 32 → Instr} {v : BitVec 32} (hv : immFits a.o32 v = true) :
    Reads 10 (dGEIv f) a (encRm r.code rm ++ encV a.o32 v) (f r rm v) :=
  reads_modRM hrm fun m _ hm h => by
    rw [hm, Reg.ofCode_code]
    exact h.bind <| .attrs_bind <| (reads_nextV hv).map (f r rm)

/-! ## Group cells -/

section
variable {g : List (Byte → P Instr)} {n : BitVec 3}

/-- The middle field of the ModR/M byte selects the cell (R232). -/
theorem reads_group_gE {f : Rm → Instr} (hg : g.getD n.toNat gUndef = gE f) : Reads 6 (dGroup g) a (encRm n rm) (f rm) :=
  reads_modRM_last hrm fun m _ hm h => by
    rw [hm, hg]
    exact h.map f

theorem reads_group_gEIb {f : Rm → BitVec 8 → Instr} (hg : g.getD n.toNat gUndef = gEIb f) (v : BitVec 8) :
    Reads 7 (dGroup g) a (encRm n rm ++ [v]) (f rm v) :=
  reads_modRM hrm fun m _ hm h => by
    rw [hm, hg]
    exact h.bind <| (reads_next v).map (f rm)

theorem reads_group_gEIv {f : Rm → BitVec 32 → Instr} {v : BitVec 32} (hg : g.getD n.toNat gUndef = gEIv f)
    (hv : immFits a.o32 v = true) : Reads 10 (dGroup g) a (encRm n rm ++ encV a.o32 v) (f rm v) :=
  reads_modRM hrm fun m _ hm h => by
    rw [hm, hg]
    exact h.bind <| .attrs_bind <| (reads_nextV hv).map (f rm)

end
end

/-! ## Opcodes -/

section
variable {k : Nat} {b : Byte} {x : P Instr} {c : List Byte} {i : Instr}

/-- The opcode byte selects the cell of the one-byte map (R230). -/
theorem reads_opcode (hx : mapCell oneMap b = x) (h : Reads k x a c i) (hk : k ≤ 14 := by decide) :
    Reads 15 instruction a (b :: c) i := Reads.mono (.next_bind <| hx ▸ h) (Nat.succ_le_succ hk)

/-- After 0FH the next byte selects the cell of the two-byte map (R231). -/
theorem reads_secondOpcode (hx : mapCell twoMap b = x) (h : Reads k x a c i) (hk : k ≤ 13 := by decide) :
    Reads 15 instruction a (0x0F#8 :: b :: c) i :=
  reads_opcode (x := dTwoByte) rfl (.next_bind <| hx ▸ h) (Nat.succ_le_succ hk)

end

/-! Opcodes whose low bits hold a register, a condition or the coprocessor's opcode (R212, R233, R234). -/

theorem mapCell_incReg (r : Reg) : mapCell oneMap (0x40#8 ||| r.code.setWidth 8) = d0 (.incReg r) := by cases r <;> rfl
theorem mapCell_decReg (r : Reg) : mapCell oneMap (0x48#8 ||| r.code.setWidth 8) = d0 (.decReg r) := by cases r <;> rfl
theorem mapCell_pushReg (r : Reg) : mapCell oneMap (0x50#8 ||| r.code.setWidth 8) = d0 (.pushReg r) := by cases r <;> rfl
theorem mapCell_popReg (r : Reg) : mapCell oneMap (0x58#8 ||| r.code.setWidth 8) = d0 (.popReg r) := by cases r <;> rfl
theorem mapCell_movR8Ib (r : Reg) : mapCell oneMap (0xB0#8 ||| r.code.setWidth 8) = dIb (.movR8Ib r) := by cases r <;> rfl
theorem mapCell_movRegIv (r : Reg) : mapCell oneMap (0xB8#8 ||| r.code.setWidth 8) = dIv (.movRegIv r) := by cases r <;> rfl
theorem mapCell_jccJb (cc : Cond) : mapCell oneMap (0x70#8 ||| cc.code.setWidth 8) = dIb (.jccJb cc) := by cases cc <;> rfl
theorem mapCell_jccJv (cc : Cond) : mapCell twoMap (0x80#8 ||| cc.code.setWidth 8) = dIv (.jccJv cc) := by cases cc <;> rfl
theorem mapCell_setccEb (cc : Cond) : mapCell twoMap (0x90#8 ||| cc.code.setWidth 8) = dE (.setccEb cc) := by cases cc <;> rfl

/-- XCHG of eAX with itself is NOP's opcode. -/
theorem mapCell_xchgEaxReg {r : Reg} (h : r ≠ .ax) : mapCell oneMap (0x90#8 ||| r.code.setWidth 8) = d0 (.xchgEaxReg r) := by
  cases r with
  | ax => exact absurd rfl h
  | cx | dx | bx | sp | bp | si | di => rfl

theorem mapCell_esc (op : BitVec 3) : mapCell oneMap (0xD8#8 ||| op.setWidth 8) = dEsc op := by
  have h : ∀ c : BitVec 3, (Reg.ofCode c).code = c := by decide
  rw [← h op]
  cases Reg.ofCode op <;> rfl

/-! ## Instructions -/

/-- The bytes of a well-formed instruction, within the fifteen an instruction may have, are read as it: by the shape of its operands
(R201, R211). -/
theorem reads_instruction {i : Instr} (h : i.wf a = true) : Reads 15 instruction a (encode a i) i := by
  cases i with
  | addEbGb | addEvGv | orEbGb | orEvGv | adcEbGb | adcEvGv | sbbEbGb | sbbEvGv | andEbGb | andEvGv | subEbGb | subEvGv | xorEbGb
  | xorEvGv | cmpEbGb | cmpEvGv | arplEwGw | testEbGb | testEvGv | xchgEbGb | xchgEvGv | movEbGb | movEvGv =>
    exact reads_opcode rfl (reads_dEG h)
  | btEvGv | shldEvGvCl | btsEvGv | shrdEvGvCl | btrEvGv | btcEvGv => exact reads_secondOpcode rfl (reads_dEG h)
  | addGbEb | addGvEv | orGbEb | orGvEv | adcGbEb | adcGvEv | sbbGbEb | sbbGvEv | andGbEb | andGvEv | subGbEb | subGvEv | xorGbEb
  | xorGvEv | cmpGbEb | cmpGvEv | boundGvMa | movGbEb | movGvEv | leaGvM | lesGvMp | ldsGvMp => exact reads_opcode rfl (reads_dGE h)
  | larGvEw | lslGvEw | imulGvEv | lssGvMp | lfsGvMp | lgsGvMp | movzxGvEb | movzxGdEw | bsfGvEv | bsrGvEv | movsxGvEb | movsxGdEw =>
    exact reads_secondOpcode rfl (reads_dGE h)
  | shldEvGvIb | shrdEvGvIb => exact reads_secondOpcode rfl (reads_dEGIb h _)
  | imulGvEvIb => exact reads_opcode rfl (reads_dGEIb h _)
  | imulGvEvIv =>
    obtain ⟨hrm, hv⟩ := Bool.and_eq_true_iff.1 h
    exact reads_opcode rfl (reads_dGEIv hrm hv)
  | movEwSw => exact reads_opcode rfl (reads_dES h)
  | movSwEw => exact reads_opcode rfl (reads_dSE h)
  | esc op n rm => exact reads_opcode (mapCell_esc op) (reads_dEsc h)
  | popEv | rolEb1 | rolEv1 | rolEbCl | rolEvCl | rorEb1 | rorEv1 | rorEbCl | rorEvCl | rclEb1 | rclEv1 | rclEbCl | rclEvCl
  | rcrEb1 | rcrEv1 | rcrEbCl | rcrEvCl | shlEb1 | shlEv1 | shlEbCl | shlEvCl | shrEb1 | shrEv1 | shrEbCl | shrEvCl | sarEb1
  | sarEv1 | sarEbCl | sarEvCl | notEb | notEv | negEb | negEv | mulEb | mulEv | imulEb | imulEv | divEb | divEv | idivEb | idivEv
  | incEb | decEb | incEv | decEv | callNearEv | callFarMp | jmpNearEv | jmpFarMp | pushEv =>
    exact reads_opcode rfl (reads_group_gE h rfl)
  | sldtEw | strEw | lldtEw | ltrEw | verrEw | verwEw | sgdtMs | sidtMs | lgdtMs | lidtMs | smswEw | lmswEw =>
    exact reads_secondOpcode rfl (reads_group_gE h rfl)
  | addEbIb | addEvIb | orEbIb | orEvIb | adcEbIb | adcEvIb | sbbEbIb | sbbEvIb | andEbIb | andEvIb | subEbIb | subEvIb | xorEbIb
  | xorEvIb | cmpEbIb | cmpEvIb | rolEbIb | rolEvIb | rorEbIb | rorEvIb | rclEbIb | rclEvIb | rcrEbIb | rcrEvIb | shlEbIb | shlEvIb
  | shrEbIb | shrEvIb | sarEbIb | sarEvIb | movEbIb | testEbIb => exact reads_opcode rfl (reads_group_gEIb h rfl _)
  | btEvIb | btsEvIb | btrEvIb | btcEvIb => exact reads_secondOpcode rfl (reads_group_gEIb h rfl _)
  | addEvIv | orEvIv | adcEvIv | sbbEvIv | andEvIv | subEvIv | xorEvIv | cmpEvIv | movEvIv | testEvIv =>
    obtain ⟨hrm, hv⟩ := Bool.and_eq_true_iff.1 h
    exact reads_opcode rfl (reads_group_gEIv hrm rfl hv)
  | addAlIb | orAlIb | adcAlIb | sbbAlIb | andAlIb | subAlIb | xorAlIb | cmpAlIb | aam | aad | pushIb | testAlIb | intIb | loopne
  | loope | loop | jcxz | inAlIb | inEaxIb | outIbAl | outIbEax | jmpJb => exact reads_opcode rfl (reads_dIb _)
  | retNearIw | retFarIw => exact reads_opcode rfl (reads_dIw _)
  | addEaxIv | orEaxIv | adcEaxIv | sbbEaxIv | andEaxIv | subEaxIv | xorEaxIv | cmpEaxIv | pushIv | testEaxIv | callJv | jmpJv =>
    exact reads_opcode rfl (reads_dIv h)
  | movAlOb | movEaxOv | movObAl | movOvEax => exact reads_opcode rfl (reads_dO h)
  | callFarAp | jmpFarAp => exact reads_opcode rfl (reads_dA h _)
  | enter => exact reads_opcode rfl (reads_dIwIb _ _)
  | movRdCd | movRdDd | movRdTd => exact reads_secondOpcode rfl (reads_dRC _ _)
  | movCdRd | movDdRd | movTdRd => exact reads_secondOpcode rfl (reads_dCR _ _)
  | movR8Ib r imm => exact reads_opcode (mapCell_movR8Ib r) (reads_dIb _)
  | movRegIv r imm => exact reads_opcode (mapCell_movRegIv r) (reads_dIv h)
  | jccJb cc imm => exact reads_opcode (mapCell_jccJb cc) (reads_dIb _)
  | jccJv cc imm => exact reads_secondOpcode (mapCell_jccJv cc) (reads_dIv h)
  | setccEb cc rm => exact reads_secondOpcode (mapCell_setccEb cc) (reads_dE h)
  | pushEs | popEs | pushCs | pushSs | popSs | pushDs | popDs | prefixEs | prefixCs | prefixSs | prefixDs | prefixFs | prefixGs
  | prefixOpsize | prefixAdsize | prefixLock | prefixRepne | prefixRep | daa | das | aaa | aas | pusha | popa | insb | insv | outsb
  | outsv | nop | cbwCwde | cwdCdq | wait | pushf | popf | sahf | lahf | movsb | movsv | cmpsb | cmpsv | stosb | stosv | lodsb
  | lodsv | scasb | scasv | retNear | leave | retFar | int3 | into | iret | xlat | inAlDx | inEaxDx | outDxAl | outDxEax | hlt
  | cmc | clc | stc | cli | sti | cld | std | undef82 | undefD6 | undefF1 => exact reads_opcode rfl (reads_d0 _)
  | pushFs | popFs | pushGs | popGs | clts => exact reads_secondOpcode rfl (reads_d0 _)
  | incReg r => exact reads_opcode (mapCell_incReg r) (reads_d0 _)
  | decReg r => exact reads_opcode (mapCell_decReg r) (reads_d0 _)
  | pushReg r => exact reads_opcode (mapCell_pushReg r) (reads_d0 _)
  | popReg r => exact reads_opcode (mapCell_popReg r) (reads_d0 _)
  | xchgEaxReg r => exact reads_opcode (mapCell_xchgEaxReg (bne_iff_ne.1 h)) (reads_d0 _)

end

theorem Reads.decode_append {a : Attrs} {c : List Byte} {i : Instr} (h : Reads 15 instruction a c i) (rest : List Byte) :
    decode a (c ++ rest) = .ok i rest := by rw [decode, h.whole]

/-- Fewer bytes than an instruction's decode to nothing yet (R225). -/
theorem Reads.decode_of_fewer {a : Attrs} {p q : List Byte} {i : Instr} (h : Reads 15 instruction a (p ++ q) i) (hq : q ≠ []) :
    decode a p = .stop .needMore := by
  obtain ⟨r, hr⟩ := h.short p q rfl hq
  rw [decode, hr]

/-- Settles O59, by the shape of the instruction's operands. -/
theorem decodingUndoesEncoding : Obligations.DecodingUndoesEncoding :=
  fun _ _ rest h => (reads_instruction h).decode_append rest

/-- Settles O60: each word is decoded by evaluation. -/
theorem sampleWordsDecode : Obligations.SampleWordsDecode := by
  refine ⟨?_, ?_, ?_, ?_, ?_, ?_, ?_⟩ <;> decide

end Sys2Proof
end

section
/-! The step at a boundary where nothing intervenes: with paging off the bytes at CS:EIP are fetched one by one until the decoder has
its instruction, and that instruction runs (20_memory.md R121; 30_encoding.md R225; 60_exceptions.md R601). -/
namespace Sys2Proof.Machine

/-! ## A quiet boundary -/

theorem Debug.enabled_of_none {d : Debug} (h : d.anyEnabled = false) (k : Fin 4) : d.enabled k = false := by
  have h0 : d.dr7.extractLsb' 0 8 = 0#8 := by simpa [Debug.anyEnabled] using h
  have hbit : ∀ j, j < 8 → d.dr7.getLsbD j = false := fun j hj => by
    simpa [hj] using congrArg (fun v => BitVec.getLsbD v j) h0
  rw [Debug.enabled, hbit _ (by omega), hbit _ (by omega)]
  rfl

/-- A breakpoint that is not enabled is compared without a free value. -/
theorem instrHit_of_disabled {s : State} (h : s.dbg.anyEnabled = false) (k : Fin 4) : ∃ b, instrHit k s = .ok b s := by
  rw [instrHit, bind_of_ok (getS_apply s), Debug.enabled_of_none h, if_neg Bool.false_ne_true, if_apply]
  split <;> exact ⟨_, rfl⟩

/-- With no breakpoint enabled there is no instruction breakpoint fault (61_debug_coproc_multiproc.md R671). -/
theorem instrBreakpoints_of_disabled {s : State} (h : s.dbg.anyEnabled = false) :
    ∃ hits, instrBreakpoints s = .ok (hits, false) s := by
  rw [instrBreakpoints, bind_of_ok (getS_apply s), if_apply]
  split
  · obtain ⟨b0, h0⟩ := instrHit_of_disabled h 0
    obtain ⟨b1, h1⟩ := instrHit_of_disabled h 1
    obtain ⟨b2, h2⟩ := instrHit_of_disabled h 2
    obtain ⟨b3, h3⟩ := instrHit_of_disabled h 3
    rw [bind_of_ok h0, bind_of_ok h1, bind_of_ok h2, bind_of_ok h3]
    simp only [Debug.enabled_of_none h, Bool.and_false, Bool.or_false]
    exact ⟨_, rfl⟩
  · exact ⟨_, rfl⟩

/-- At a boundary without a breakpoint fault, trap, NMI or acceptable INTR nothing is serviced (60_exceptions.md R601). -/
theorem boundaryEvent_of_none {s : State} {hits : Hits} (hb : instrBreakpoints s = .ok (hits, false) s) (hss : s.ssShadow = false)
    (ht : s.dbg.trapPending = false) (hn : s.nmiPending = false)
    (hi : (!s.flags.IF || s.stiShadow || s.pins.intr.isNone) = true) : boundaryEvent s = .ok none s := by
  rw [boundaryEvent, bind_of_ok (getS_apply s), if_apply, hss, if_neg Bool.false_ne_true, bind_of_ok hb]
  simp only [ht, hn, Bool.or_self, Bool.false_and, Bool.false_eq_true, if_false]
  have hintr : (s.flags.IF && !s.stiShadow) = true → s.pins.intr = none := by simpa [or_iff_not_imp_left] using hi
  split
  · next hf => rw [hintr hf]; rfl
  · rfl

/-- At a quiet boundary a step fetches and runs an instruction. -/
theorem step_of_quiet {s : State} (hq : s.quiet = true) : step s = fetchAndRun s.beginInstr := by
  simp only [State.quiet, Bool.and_eq_true, Bool.not_eq_true', Option.isNone_iff_eq_none, beq_iff_eq] at hq
  obtain ⟨⟨⟨⟨⟨⟨⟨⟨⟨⟨hreset, hrun⟩, hvm⟩, hexc⟩, hpfx⟩, hss⟩, hoff⟩, htrap⟩, hpin⟩, hlatch⟩, hintr⟩ := hq
  obtain ⟨hits, hb⟩ := instrBreakpoints_of_disabled hoff
  simp only [step, stepOnce, hreset, hrun, hvm, hexc, hpfx, Bool.false_eq_true, if_false, if_true, reduceCtorEq]
  rw [atBoundary, sampleNmi_of_none hpin hlatch, boundaryEvent_of_none hb hss htrap hlatch hintr]
  exact if_neg (by simp [hrun])

theorem State.quiet_pfx_count {s : State} (h : s.quiet = true) : s.pfx.count = 0 := by
  simp only [State.quiet, Bool.and_eq_true, beq_iff_eq] at h
  obtain ⟨⟨⟨⟨⟨⟨⟨-, hpfx⟩, -⟩, -⟩, -⟩, -⟩, -⟩, -⟩ := h
  exact hpfx

/-! ## Fetching -/

/-- An access about to be made takes a free value at most. -/
theorem settled_drawn (s : State) (l : Loc) : ∃ d, s.settled l = s.drawn d := by
  rw [State.settled]
  split
  · exact ⟨s.draws, rfl⟩
  · exact ⟨_, rfl⟩

/-- Where the instruction byte `k` bytes after EIP stands with paging off (10_state.md R70). -/
def State.codeLoc (s : State) (k : Nat) : BitVec 32 := s.seg.cs.base + (s.eip + BitVec.ofNat 32 k)

/-- A byte inside the code segment may be fetched, unless offset FFFFFFFFH lies before it (log entry 28). -/
theorem mayFetch_of_inside {s : State} {k : Nat} (hseg : s.segOk .cs (s.eip + BitVec.ofNat 32 k) 1 .fetch = true)
    (hwrap : s.eip.toNat + k < 2 ^ 32) (hend : s.plat.eipWrap = true ∨ s.pastEnd = false) : s.mayFetch k = true := by
  rw [State.mayFetch, hseg, decide_eq_true hwrap, Bool.and_true, Bool.true_and]
  rcases hend with h | h
  · rw [h, Bool.true_or]
  · rw [h, Bool.not_false, Bool.or_true]

/-- The bytes `l` stand at CS:EIP, in memory and where they may be fetched. -/
def State.CodeIs (s : State) (l : List Byte) : Prop :=
  ∀ k, k < l.length → s.mayFetch k = true ∧ (s.kindAt (s.codeLoc k)).holds = true ∧ l[k]? = some (s.byteAt (s.codeLoc k))

section
variable {s : State} (hp : s.cr0.PG = false)
include hp

theorem codeByte_direct (k : Nat) :
    codeByte k s = .ok ((s.settled [s.codeLoc k]).load 8 [s.codeLoc k]) (s.settled [s.codeLoc k]) := by
  rw [codeByte, bind_of_ok (getS_apply s), bind_of_ok (resolve_direct hp _ _ _ _)]
  rfl

/-- With the queue empty a byte that memory holds is fetched from there (20_memory.md R121). -/
theorem fetchByte_of_memory (hq : s.queue = []) {k : Nat} (hm : s.mayFetch k = true)
    (hh : (s.kindAt (s.codeLoc k)).holds = true) :
    fetchByte k s = .ok (s.byteAt (s.codeLoc k)) { s with fetched := s.fetched ++ [s.byteAt (s.codeLoc k)] } := by
  have hqueue : { s with queue := s.queue.tail } = s := by
    rw [show s.queue.tail = s.queue by rw [hq]; rfl]
  have hc : codeByte k s = .ok (s.byteAt (s.codeLoc k)) s := by
    rw [codeByte_direct hp, State.settled_of_holds (by simpa [State.holdsAll] using hh), State.load_byte hh]
  rw [fetchByte, bind_of_ok (getS_apply s), if_apply, if_pos hm, bind_of_ok (modS_apply _ _), hqueue]
  conv_lhs => rw [hq]
  exact bind_of_ok hc

end

/-- The bytes of an instruction are fetched until it is decoded: `acc` is what has been fetched, `todo` what is left. -/
theorem fetchFrom_of_code {s : State} {i : Instr} {acc todo : List Byte} {fuel : Nat} (hp : s.cr0.PG = false) (hq : s.queue = [])
    (hc : s.pfx.count = 0) (hr : Reads 15 instruction s.attrs (acc ++ todo) i) (hl : s.CodeIs (acc ++ todo))
    (hf : todo.length < fuel) :
    fetchFrom fuel acc s = .ok (i, (acc ++ todo).length) { s with fetched := s.fetched ++ todo } := by
  obtain ⟨n, rfl⟩ : ∃ n, fuel = n + 1 := Nat.exists_eq_succ_of_ne_zero (by omega)
  induction todo generalizing s acc n with
  | nil =>
    have hd : decode s.attrs acc = .ok i [] := by simpa using hr.decode_append []
    rw [List.append_nil, List.append_nil, fetchFrom, bind_of_ok (getS_apply s), hd]
    rfl
  | cons b todo ih =>
    have hd : decode s.attrs acc = .stop .needMore := hr.decode_of_fewer (List.cons_ne_nil b todo)
    have hlen := hr.length_le
    rw [List.length_append, List.length_cons] at hlen
    rw [List.length_cons] at hf
    obtain ⟨hm, hh, hb⟩ := hl acc.length (by simp)
    have hb : s.byteAt (s.codeLoc acc.length) = b := by simpa using hb.symm
    obtain ⟨m, rfl⟩ : ∃ m, n = m + 1 := Nat.exists_eq_succ_of_ne_zero (by omega)
    rw [List.append_cons] at hr hl ⊢
    have hrest := ih (s := { s with fetched := s.fetched ++ [b] }) hp hq hc hr hl m (Nat.lt_of_succ_lt_succ hf)
    dsimp only at hrest
    rw [List.append_assoc s.fetched, List.singleton_append] at hrest
    rw [fetchFrom, bind_of_ok (getS_apply s), hd]
    dsimp only
    rw [hc, Nat.zero_add, if_apply, if_pos (by omega), bind_of_ok (fetchByte_of_memory hp hq hm hh), hb]
    exact hrest

/-! ## Reading ahead -/

section
variable {s : State} (hp : s.cr0.PG = false)
include hp

/-- With paging off reading ahead takes free values and no more (log entry 15). -/
theorem readAhead_direct (k : Nat) : ∃ b d, readAhead k s = .ok b (s.drawn d) := by
  by_cases hm : s.mayFetch k = true
  · obtain ⟨d, hd⟩ := settled_drawn s [s.codeLoc k]
    rw [readAhead, if_pos hm, codeByte_direct hp, hd]
    exact ⟨_, d, rfl⟩
  · rw [readAhead, if_neg hm]
    exact ⟨_, s.draws, rfl⟩

/-- A slot of the queue is left as it is or read ahead. -/
theorem refill_direct (n k : Nat) (q : List (Option Byte)) : ∃ q' d, refill n k q s = .ok q' (s.drawn d) := by
  induction n generalizing s k q with
  | zero => exact ⟨_, s.draws, rfl⟩
  | succ n ih =>
    have hrest (b : Option Byte) (d : Nat) :
        ∃ q' d', (do let rest ← refill n (k + 1) q.tail; pure (b :: rest)) (s.drawn d) = .ok q' (s.drawn d') := by
      obtain ⟨q', d', h⟩ := ih (s := s.drawn d) hp (k + 1) q.tail
      exact ⟨_, d', bind_of_ok h⟩
    unfold refill
    dsimp only
    split
    · exact hrest _ s.draws
    · rw [bind_of_ok (drawBool_apply s), if_apply]
      split
      · obtain ⟨b, d, hb⟩ := readAhead_direct (s := s.drawn (s.draws + 1)) hp k
        obtain ⟨q', d', h⟩ := hrest b d
        exact ⟨q', d', (bind_of_ok hb).trans h⟩
      · exact hrest none (s.draws + 1)

/-- Prefetching changes the queue and the draw counter at most, and with a depth of 0 neither. -/
theorem prefetch_direct (k : Nat) :
    ∃ q d, (s.plat.prefetchDepth = 0 → q = s.queue ∧ d = s.draws) ∧ prefetch k s = .ok () { s with queue := q, draws := d } := by
  by_cases h0 : s.plat.prefetchDepth = 0
  · refine ⟨s.queue, s.draws, fun _ => ⟨rfl, rfl⟩, ?_⟩
    rw [prefetch, bind_of_ok (getS_apply s), h0]
    rfl
  · obtain ⟨q, d, h⟩ := refill_direct hp s.plat.prefetchDepth k s.queue
    refine ⟨q, d, fun h => absurd h h0, ?_⟩
    rw [prefetch, bind_of_ok (getS_apply s), bind_of_ok h]
    rfl

end

/-! ## The step -/

/-- The instruction whose bytes stand at CS:EIP is fetched, and `EIP_next` is past them (30_encoding.md R225). -/
theorem fetchInstr_of_code {s : State} {i : Instr} {l : List Byte} (hp : s.cr0.PG = false) (hq : s.queue = [])
    (hc : s.pfx.count = 0) (hr : Reads 15 instruction s.attrs l i) (hl : s.CodeIs l) :
    ∃ q d, (s.plat.prefetchDepth = 0 → q = [] ∧ d = s.draws) ∧
      fetchInstr s = .ok i { s with
        fetched := s.fetched ++ l, queue := q, draws := d,
        eipNext := s.eip + BitVec.ofNat 32 l.length, pastEnd := decide (s.eip.toNat + l.length = 2 ^ 32) } := by
  have hf := fetchFrom_of_code (acc := []) (fuel := 16) hp hq hc hr hl (Nat.lt_succ_of_le hr.length_le)
  obtain ⟨q, d, h0, h⟩ := prefetch_direct (s := { s with fetched := s.fetched ++ l }) hp l.length
  refine ⟨q, d, fun hd => (h0 hd).imp_left (·.trans hq), ?_⟩
  rw [fetchInstr, bind_of_ok hf]
  dsimp only
  rw [bind_of_ok (getS_apply _)]
  dsimp only
  rw [hc, Nat.zero_add]
  exact bind_of_ok h

/-- Settles O58: a quiet boundary leads to the fetch, and the fetch reads the encoded instruction back. -/
theorem stepRunsTheDecodedInstruction : Obligations.StepRunsTheDecodedInstruction := by
  intro s i hquiet hq hp hwf hend l hcode
  have hl : s.beginInstr.CodeIs l := fun k hk => by
    obtain ⟨hseg, hwrap, hkind, hbyte⟩ := hcode k hk
    exact ⟨mayFetch_of_inside hseg hwrap hend, (holds_iff _).2 hkind, hbyte⟩
  obtain ⟨q, d, h0, hf⟩ := fetchInstr_of_code (s := s.beginInstr) hp hq (State.quiet_pfx_count hquiet) (reads_instruction hwf) hl
  refine ⟨q, d, h0, ?_⟩
  rw [step_of_quiet hquiet, fetchAndRun, hf]
  rfl

end Sys2Proof.Machine
end

section
/-! Data movement: MOV, SETcc and XCHG by the operation their forms share, the pushes and pops, the accumulator and table forms
(40_data_movement.md R260 to R275; 46_block_flag_coproc_misc.md R430 to R447). -/
namespace Sys2Proof.Machine

/-! ## What an instruction runs -/

/-- The step an instruction makes depends only on what its body does in the state it starts from. -/
theorem runInstr_congr {lockable : Bool} {x y : M Done} {s : State} (h : x s = y s) :
    runInstr lockable x s = runInstr lockable y s := by
  have hb : (x >>= complete) s = (y >>= complete) s := by rw [bind_apply, bind_apply, h]
  unfold runInstr
  rw [if_apply, if_apply]
  exact congrArg (fun r => outcomeOf s (if s.pfx.lock && !lockable then _ else r)) hb

theorem run_congr {x y : M Unit} {s : State} (h : x s = y s) : run x s = run y s :=
  runInstr_congr (by rw [bind_apply, bind_apply, h])

theorem Touched.pfx {s t : State} (h : Touched s t) : t.pfx = s.pfx := by
  obtain ⟨_, _, _, _, _, _, _, rfl⟩ := h
  rfl

theorem lockOk_iff (s : State) (rm : Rm) : s.lockOk rm = true ↔ s.pfx.lock = false ∨ isMem rm = true := by
  rw [State.lockOk, Bool.or_eq_true, Bool.not_eq_true']

/-! ## Moves -/

/-- A direct offset is the effective address itself (30_encoding.md R219). -/
@[simp] theorem memEa_offset (g : Gpr) (off : BitVec 32) : memEa g (.a32 none none off) = off := by
  simp [memEa]

/-- An operand in memory is written through its segment. -/
theorem writeRm_mem (sz : Size) (m : Mem) (v : BitVec sz.bits) (s : State) :
    writeRm sz (.mem m) v s = lwrite (s.memSeg m) (memEa s.gpr m) sz v s := by
  rw [writeRm, lwrite, bind_apply, bind_apply, place_mem]
  cases locate (s.memSeg m) (memEa s.gpr m) sz.bytes true s <;> rfl

/-- An operand in memory is read through its segment. -/
theorem readRm_mem (sz : Size) (m : Mem) (s : State) :
    readRm sz (.mem m) s = lread (s.memSeg m) (memEa s.gpr m) sz s := by
  rw [readRm, lread, bind_apply, bind_apply, place_mem]
  cases locate (s.memSeg m) (memEa s.gpr m) sz.bytes false s <;> rfl

theorem movOAcc_apply (sz : Size) (off : BitVec 32) (s : State) :
    movOAcc sz off s = writeRm sz (.mem (.a32 none none off)) (s.reg sz .ax) s := by
  rw [writeRm_mem, memEa_offset]
  rfl

/-- The stores write a value known beforehand to their operand. -/
theorem exec_storeForm {s : State} {i : Instr} {f : StoreForm} (h : storeForm s i = some f) :
    exec i s = run (writeRm f.sz f.rm f.v) s := by
  cases i with
  | movEbGb | movEvGv | movEbIb | movEvIv | movR8Ib | movRegIv | setccEb =>
    cases h
    exact run_congr rfl
  | movObAl | movOvEax =>
    cases h
    exact run_congr (movOAcc_apply ..)
  | _ => cases h

theorem LoadForm.value_unsigned (sz : Size) (r : Reg) (rm : Rm) (v : BitVec sz.bits) :
    LoadForm.value ⟨sz, sz, r, rm, false⟩ v = v := BitVec.setWidth_eq v

/-- What a load does: read its operand, extend the value, write the register. -/
def loadInto (f : LoadForm) : M Unit := do
  let v ← readRm f.src f.rm
  putReg f.dst f.r (f.value v)

theorem movGE_eq (sz : Size) (r : Reg) (rm : Rm) : movGE sz r rm = loadInto ⟨sz, sz, r, rm, false⟩ := by
  simp only [movGE, loadInto, LoadForm.value_unsigned]

theorem movAccO_apply (sz : Size) (off : BitVec 32) (s : State) :
    movAccO sz off s = loadInto ⟨sz, sz, .ax, .mem (.a32 none none off), false⟩ s := by
  rw [← movGE_eq, movAccO, movGE, bind_of_ok (getS_apply s), bind_apply, bind_apply, readRm_mem, memEa_offset]
  rfl

/-- The loads read their operand, extend it, and write the register. -/
theorem exec_loadForm {s : State} {i : Instr} {f : LoadForm} (h : loadForm s i = some f) : exec i s = run (loadInto f) s := by
  cases i with
  | movGbEb | movGvEv =>
    cases h
    exact congrArg (run · s) (movGE_eq ..)
  | movAlOb | movEaxOv =>
    cases h
    exact run_congr (movAccO_apply ..)
  | movzxGvEb | movzxGdEw | movsxGvEb | movsxGdEw =>
    cases h
    rfl
  | _ => cases h

theorem loadInto_of_place {f : LoadForm} {s s1 : State} {p : Place} (h : place f.src f.rm false s = .ok p s1) :
    loadInto f s = .ok () (s1.setReg f.dst f.r (f.value (s1.valueAt f.src p))) := by
  rw [loadInto, bind_of_ok (readRm_of_place h), putReg_apply]

/-! ## XCHG -/

theorem exec_xchgForm {s : State} {i : Instr} {f : Exchange} (h : xchgForm s i = some f) :
    exec i s = runNormal (isMem f.rm) (xchg f.sz f.rm f.r) s := by
  cases i with
  | xchgEbGb | xchgEvGv | xchgEaxReg =>
    cases h
    rfl
  | _ => cases h

theorem byteAt_exchanging (s : State) (p : Place) (a : BitVec 32) : (s.exchanging p).byteAt a = s.byteAt a := by
  unfold State.exchanging
  split
  · rfl
  · split <;> rfl

/-- An exchange reads both operands before it writes either (40_data_movement.md R262). -/
theorem xchg_of_place {sz : Size} {rm : Rm} {s s1 : State} {p : Place} (h : place sz rm true s = .ok p s1) (r : Reg) :
    xchg sz rm r s = .ok () (((s1.exchanging p).putAt sz p (s.reg sz r)).setReg sz r (s1.valueAt sz p)) := by
  have ht := (touches_place _ _ _).ok h
  rw [xchg, bind_of_ok h, bind_of_ok (readPlace_apply ..), bind_of_ok (getReg_apply ..), bind_of_ok (modS_apply ..),
    bind_of_ok (writePlace_apply ..), putReg_apply, ht.reg]

/-- What an exchange leaves in memory: every byte outside the operand as it was. -/
theorem sameBytes_exchanged (s : State) (sz : Size) (p : Place) (v w : BitVec sz.bits) (r : Reg) :
    s.sameBytes (((s.exchanging p).putAt sz p v).setReg sz r w) p.bytes := fun a ha =>
  (State.sameBytes_putAt (s.exchanging p) sz p v a ha).trans (byteAt_exchanging s p a)

/-- Settles O13. -/
theorem movesExchangesAndSetcc : Obligations.MovesExchangesAndSetcc := by
  refine ⟨fun i s s1 f p hf hl hp => ⟨?_, ?_⟩, fun i s s1 f p hf hl hp => ?_, fun i s s1 f p hf hl hp => ?_⟩
  · rw [exec_storeForm hf, run_of_ok hl (writeRm_of_place f.v hp)]
  · exact sameBytes_finished _ (State.sameBytes_putAt _ _ _ _)
  · rw [exec_loadForm hf, run_of_ok hl (loadInto_of_place hp)]
  · intro s2
    have hlock : s1.pfx.lock = s.pfx.lock := by rw [((touches_place _ _ _).ok hp).pfx]
    have hs2 : s2 = s1.exchanging p := by
      cases p with
      | reg r => rfl
      | mem l =>
        show (if s.pfx.lock then _ else _) = if s1.pfx.lock then _ else _
        rw [hlock]
        rfl
    rw [hs2]
    refine ⟨?_, sameBytes_finished _ (sameBytes_exchanged _ _ _ _ _ _)⟩
    rw [exec_xchgForm hf, runNormal_of_ok ((lockOk_iff s f.rm).1 hl) (xchg_of_place hp f.r)]

end Sys2Proof.Machine
end

section
/-! The pushes and pops (40_data_movement.md R263, R264; 46_block_flag_coproc_misc.md R432, R433). -/
namespace Sys2Proof.Machine

/-! ## Pushes -/

/-- The pushes of a value known beforehand run the one shared operation. -/
theorem exec_pushForm {s : State} {i : Instr} {v : BitVec s.osz.bits} (h : pushForm s i = some v) :
    exec i s = run (push s.osz v) s := by
  cases i with
  | pushReg | pushIv | pushIb | pushf =>
    cases h
    exact run_congr rfl
  | _ => cases h

/-- A push after its operand was read, where reading it only touched the machine. -/
theorem push_of_touched {sz : Size} {s s1 s2 : State} {l : Loc} (ht : Touched s s1) (v : BitVec sz.bits)
    (h : locate .ss (s.below sz.bytes) sz.bytes true s1 = .ok l s2) :
    push sz v s1 = .ok () ((s2.store l v).setStackPtr (s.below sz.bytes)) := by
  rw [← ht.below] at h ⊢
  exact push_of_locate v h

/-- A push changes no byte outside its slot. -/
theorem sameBytes_pushed (s : State) {w : Nat} (l : Loc) (v : BitVec w) (off : BitVec 32) :
    s.sameBytes ((s.store l v).setStackPtr off) l := fun _ ha => State.byteAt_store_other ha

/-- Settles O14. -/
theorem pushesStoreBelowTheStackPointer : Obligations.PushesStoreBelowTheStackPointer := by
  refine ⟨fun i s s1 v l hf hl hloc => ⟨?_, ?_⟩, fun rm s s1 s2 p l hl hp hloc => ⟨?_, ?_⟩⟩
  · rw [exec_pushForm hf, run_of_ok hl (push_of_locate v hloc)]
  · exact sameBytes_finished _ (sameBytes_pushed _ _ _ _)
  · have hpush := push_of_touched ((touches_place _ _ _).ok hp) (s1.valueAt s.osz p) hloc
    exact run_of_ok hl ((bind_of_ok (readRm_of_place hp)).trans hpush)
  · exact sameBytes_finished _ (sameBytes_pushed _ _ _ _)

/-! ## Pops -/

/-- The flags POPF leaves are computed from the flags and the level the instruction starts with (46_block_flag_coproc_misc.md R433). -/
theorem popFlags_of_locate {sz : Size} {s s1 : State} {l : Loc} (h : locate .ss s.stackPtr sz.bytes false s = .ok l s1) :
    popFlags sz s = .ok () { s1.setStackPtr (s.above sz.bytes) with
      flags := s.flags.popped ((s1.load sz.bits l).setWidth 32) s.cpl } := by
  have ht := (touches_locate _ _ _ _).ok h
  rw [popFlags, bind_of_ok (pop_of_locate h), modS_apply, ← ht.flags, ← ht.cpl]
  rfl

/-- Settles O15. -/
theorem popsReadAtTheStackPointer : Obligations.PopsReadAtTheStackPointer := by
  intro s s1 l hl hloc v s2
  have hpop : pop s.osz s = .ok v s2 := pop_of_locate hloc
  refine ⟨fun r => ?_, fun rm p s3 hp => ?_, ?_⟩
  · exact run_of_ok hl (bind_of_ok hpop)
  · exact run_of_ok hl ((bind_of_ok hpop).trans (writeRm_of_place v hp))
  · exact runInstr_of_ok (.inl hl) (bind_of_ok (popFlags_of_locate hloc))

end Sys2Proof.Machine
end

section
/-! PUSHA and POPA: a frame that passes its checks as one block is a frame whose items all pass theirs (40_data_movement.md R265, R266;
21_protection.md R172). -/
namespace Sys2Proof.Machine

/-! ## Offsets about the stack pointer -/

/-- How many offsets a segment's B bit gives its stack (30_encoding.md R207). -/
def SegReg.span (g : SegReg) : Nat := if g.db then 0x100000000 else 0x10000

theorem SegReg.span_cases (g : SegReg) : g.span = 0x100000000 ∨ g.span = 0x10000 := ite_eq_or_eq ..

theorem toNat_wrapOff (s : State) (v : BitVec 32) : (wrapOff s.ssz32 v).toNat = v.toNat % s.seg.ss.span := by
  rw [wrapOff, State.ssz32, SegReg.span]
  split
  · exact (Nat.mod_eq_of_lt v.isLt).symm
  · rw [BitVec.toNat_setWidth, BitVec.extractLsb'_toNat, Nat.shiftRight_zero]
    omega

theorem stackPtr_lt (s : State) : s.stackPtr.toNat < s.seg.ss.span := by
  rw [State.stackPtr, toNat_wrapOff]
  rcases s.seg.ss.span_cases with h | h <;> rw [h] <;> omega

theorem wrapOff_stackPtr (s : State) : wrapOff s.ssz32 s.stackPtr = s.stackPtr :=
  BitVec.eq_of_toNat_eq (by rw [toNat_wrapOff, Nat.mod_eq_of_lt (stackPtr_lt s)])

theorem below_zero (s : State) : s.below 0 = s.stackPtr := by
  rw [State.below, BitVec.sub_zero, wrapOff_stackPtr]

theorem above_zero (s : State) : s.above 0 = s.stackPtr := by
  rw [State.above, BitVec.add_zero, wrapOff_stackPtr]

theorem toNat_below (s : State) {m : Nat} (hm : m ≤ 0x10000) :
    (s.below m).toNat = (s.stackPtr.toNat + (s.seg.ss.span - m)) % s.seg.ss.span := by
  rw [State.below, toNat_wrapOff, BitVec.toNat_sub, BitVec.toNat_ofNat]
  rcases s.seg.ss.span_cases with h | h <;> rw [h] <;> omega

theorem toNat_above (s : State) (m : Nat) : (s.above m).toNat = (s.stackPtr.toNat + m) % s.seg.ss.span := by
  rw [State.above, toNat_wrapOff, BitVec.toNat_add, BitVec.toNat_ofNat]
  rcases s.seg.ss.span_cases with h | h <;> rw [h] <;> omega

/-- Going further down wraps as going down at once does. -/
theorem below_add (s : State) {m n : Nat} (h : m + n ≤ 0x10000) :
    wrapOff s.ssz32 (s.below m - BitVec.ofNat 32 n) = s.below (m + n) := by
  apply BitVec.eq_of_toNat_eq
  rw [toNat_wrapOff, BitVec.toNat_sub, BitVec.toNat_ofNat, toNat_below s (by omega), toNat_below s h]
  rcases s.seg.ss.span_cases with h | h <;> rw [h] <;> omega

/-! ## Parts of a block -/

/-- An access inside the limit leaves inside it every access that ends no later and, unless the first runs past the last offset
of the segment, begins no earlier (21_protection.md R172). -/
theorem SegReg.inLimit_of_part {g : SegReg} {off part : BitVec 32} {n k : Nat} (hend : part.toNat + k ≤ off.toNat + n)
    (hbegin : off.toNat + n ≤ g.span → off.toNat ≤ part.toNat) (h : g.inLimit off n = true) : g.inLimit part k = true := by
  rw [SegReg.span] at hbegin
  rw [SegReg.inLimit] at h ⊢
  split at h
  case isTrue hd =>
    rw [if_pos hd]
    rw [Bool.and_eq_true, decide_eq_true_iff, decide_eq_true_iff] at h ⊢
    exact ⟨h.1.trans_le (hbegin h.2), hend.trans h.2⟩
  case isFalse hd =>
    rw [if_neg hd]
    rw [decide_eq_true_iff] at h ⊢
    exact hend.trans h

section
variable {s : State} {size m n : Nat}

/-- A block below the stack pointer that passes the limit check has all its parts inside the limit. -/
theorem inLimit_below (hsize : size ≤ 0x10000) (h0 : 0 < m) (hn : n ≤ m) (hm : m ≤ size)
    (h : s.seg.ss.inLimit (s.below size) size = true) : s.seg.ss.inLimit (s.below m) n = true := by
  have hsp := stackPtr_lt s
  refine SegReg.inLimit_of_part ?_ ?_ h <;> rw [toNat_below s hsize, toNat_below s (hm.trans hsize)] <;>
    rcases s.seg.ss.span_cases with hs | hs <;> rw [hs] at * <;> omega

/-- A block from the stack pointer up that passes the limit check has all its parts inside the limit. -/
theorem inLimit_above (hsize : size ≤ 0x10000) (h0 : 0 < n) (hm : m + n ≤ size) (h : s.seg.ss.inLimit s.stackPtr size = true) :
    s.seg.ss.inLimit (s.above m) n = true := by
  have hsp := stackPtr_lt s
  refine SegReg.inLimit_of_part ?_ ?_ h <;> rw [toNat_above] <;>
    rcases s.seg.ss.span_cases with hs | hs <;> rw [hs] at * <;> omega

end

/-! ## The frame of eight items -/

theorem osz_ne_b (s : State) : s.osz ≠ .b := by
  rw [State.osz, vSize]
  split <;> nofun

theorem bytes_pos (sz : Size) : 0 < sz.bytes := by cases sz <;> decide

theorem bytes_le_four (sz : Size) : sz.bytes ≤ 4 := by cases sz <;> decide

theorem segOk_eq_true {s : State} {r : SReg} {off : BitVec 32} {n : Nat} {k : AccessKind} :
    s.segOk r off n k = true ↔ s.typeOk r k = true ∧ (s.seg.get r).inLimit off n = true := Bool.and_eq_true_iff

section
variable {s : State} {sz : Size}

/-- In a frame that passes its checks below the stack pointer, every slot passes them. -/
theorem segOk_slot (h : s.segOk .ss (s.below (8 * sz.bytes)) (8 * sz.bytes) .write = true) {k : Nat} (h0 : 0 < k) (hk : k ≤ 8) :
    s.segOk .ss (s.below (k * sz.bytes)) sz.bytes .write = true := by
  obtain ⟨ht, hl⟩ := segOk_eq_true.1 h
  have hn := bytes_le_four sz
  have hm : k * sz.bytes ≤ 8 * sz.bytes := Nat.mul_le_mul_right _ hk
  exact segOk_eq_true.2 ⟨ht, inLimit_below (by omega) (Nat.mul_pos h0 (bytes_pos sz)) (Nat.le_mul_of_pos_left _ h0) hm hl⟩

/-- In a frame that passes its checks from the stack pointer up, every item passes them. -/
theorem segOk_item (h : s.segOk .ss s.stackPtr (8 * sz.bytes) .read = true) {k : Nat} (hk : k < 8) :
    s.segOk .ss (s.above (k * sz.bytes)) sz.bytes .read = true := by
  obtain ⟨ht, hl⟩ := segOk_eq_true.1 h
  have hn := bytes_le_four sz
  have hm : (k + 1) * sz.bytes ≤ 8 * sz.bytes := Nat.mul_le_mul_right _ hk
  exact segOk_eq_true.2 ⟨ht, inLimit_above (by omega) (bytes_pos sz) (Nat.succ_mul k _ ▸ hm) hl⟩

/-! ## PUSHA -/

/-- Slots of the stack are located one below the other, and locating them changes nothing. -/
theorem locateBelow_plain (hp : s.plain = true) {k n : Nat} (hk : k + n ≤ 8)
    (h : ∀ j, k < j → j ≤ k + n → s.segOk .ss (s.below (j * sz.bytes)) sz.bytes .write = true) :
    locateBelow sz s.ssz32 (s.below (k * sz.bytes)) n s = .ok ((List.range' (k + 1) n).map (s.slot sz.bytes)) s := by
  induction n generalizing k with
  | zero => rfl
  | succ n ih =>
    have hoff : wrapOff s.ssz32 (s.below (k * sz.bytes) - BitVec.ofNat 32 sz.bytes) = s.below ((k + 1) * sz.bytes) := by
      have hn := bytes_le_four sz
      have hm : (k + 1) * sz.bytes ≤ 8 * sz.bytes := Nat.mul_le_mul_right _ (by omega)
      rw [Nat.succ_mul] at hm ⊢
      exact below_add s (by omega)
    have hrest := ih (k := k + 1) (by omega) fun j hj hn => h j (by omega) (by omega)
    rw [locateBelow, hoff, bind_of_ok (locate_plain hp (h (k + 1) (by omega) (by omega))), bind_of_ok hrest]
    rfl

theorem below_store (s : State) {w : Nat} (l : Loc) (v : BitVec w) (n : Nat) : (s.store l v).below n = s.below n := rfl

/-- A first slot that fails its checks stops the location. -/
theorem locateBelow_bad {n : Nat} (h : s.segOk .ss (s.below sz.bytes) sz.bytes .write = false) :
    locateBelow sz s.ssz32 s.stackPtr (n + 1) s = .error (.exc ⟨vSS, zeroCode false⟩) s := by
  rw [locateBelow]
  exact bind_of_error (locate_bad h)

/-- The stack pointers at which PUSHA in real-address mode shuts the processor down (70_reset_and_hazards.md R707). -/
def State.pushaShutsDown (s : State) : Prop := s.protectedMode = false ∧ s.stackPtr.toNat ∈ [1, 3, 5]

/-- The stack pointers at which PUSHA of words in real-address mode is interrupt 13 (70_reset_and_hazards.md R707). -/
def State.pushaIsThirteen (s : State) (sz : Size) : Prop :=
  s.protectedMode = false ∧ sz = .w ∧ s.stackPtr.toNat ∈ [7, 9, 11, 13, 15]

theorem pushaRealCheck_shutsDown (h : s.pushaShutsDown) : pushaRealCheck sz s = .error .shutdown s := by
  obtain ⟨hr, hm⟩ := h
  have hc : (s.stackPtr.toNat == 1 || s.stackPtr.toNat == 3 || s.stackPtr.toNat == 5) = true := by simpa [or_assoc] using hm
  rw [pushaRealCheck, bind_of_ok (getS_apply s), if_apply, if_apply, if_neg (by simp [hr]), if_pos hc]
  rfl

theorem pushaRealCheck_isThirteen (h : s.pushaIsThirteen sz) : pushaRealCheck sz s = .error (.exc ⟨vGP, zeroCode false⟩) s := by
  obtain ⟨hr, rfl, hm⟩ := h
  simp only [List.mem_cons, List.not_mem_nil, or_false] at hm
  rw [pushaRealCheck, bind_of_ok (getS_apply s), if_apply, if_apply, if_neg (by simp [hr]), require_apply]
  rcases hm with h | h | h | h | h <;> rw [h] <;> rfl

theorem pushaRealCheck_passes (hd : ¬ s.pushaShutsDown) (ht : ¬ s.pushaIsThirteen sz) : pushaRealCheck sz s = .ok () s := by
  rw [pushaRealCheck, bind_of_ok (getS_apply s), if_apply, if_apply, require_apply]
  cases hr : s.protectedMode with
  | true => rfl
  | false =>
    have hc : ¬ (s.stackPtr.toNat == 1 || s.stackPtr.toNat == 3 || s.stackPtr.toNat == 5) = true := by
      simpa [State.pushaShutsDown, hr, not_or, and_assoc] using hd
    have hw : (!(sz == .w && (s.stackPtr.toNat == 7 || s.stackPtr.toNat == 9 || s.stackPtr.toNat == 11 || s.stackPtr.toNat == 13 ||
        s.stackPtr.toNat == 15))) = true := by
      simpa [State.pushaIsThirteen, hr, not_or, and_assoc, imp_iff_not_or] using ht
    rw [if_neg Bool.false_ne_true, if_neg hc, if_pos hw]

/-- The registers PUSHA stores, in order (40_data_movement.md R265). -/
def State.pushed (s : State) (sz : Size) : List (BitVec sz.bits) :=
  [Reg.ax, .cx, .dx, .bx, .sp, .bp, .si, .di].map (s.reg sz)

theorem pushAllRegs_of_check (h : pushaRealCheck sz s = .ok () s) : pushAllRegs sz s =
    if s.room (8 * sz.bytes) then
      (do
        let ls ← locateBelow sz s.ssz32 s.stackPtr 8
        storeAll ls (s.pushed sz)
        modS fun s => s.setStackPtr (s.below (8 * sz.bytes)) : M Unit) s
    else .error (.exc ⟨vSS, zeroCode false⟩) s := by
  rw [pushAllRegs, bind_of_ok h, bind_of_ok (getS_apply s), require_bind]
  rfl

/-- A frame with room whose segment permits the writes is stored item by item. -/
theorem pushAllRegs_of_segOk (hp : s.plain = true) (hc : pushaRealCheck sz s = .ok () s)
    (h : s.segOk .ss (s.below (8 * sz.bytes)) (8 * sz.bytes) .write = true) : pushAllRegs sz s = .ok ()
      (((((((((s.store (s.slot sz.bytes 1) (s.reg sz .ax)).store (s.slot sz.bytes 2) (s.reg sz .cx)).store
        (s.slot sz.bytes 3) (s.reg sz .dx)).store (s.slot sz.bytes 4) (s.reg sz .bx)).store (s.slot sz.bytes 5) (s.reg sz .sp)).store
        (s.slot sz.bytes 6) (s.reg sz .bp)).store (s.slot sz.bytes 7) (s.reg sz .si)).store
        (s.slot sz.bytes 8) (s.reg sz .di)).setStackPtr (s.below (8 * sz.bytes))) := by
  have hroom : s.room (8 * sz.bytes) = true := (segOk_eq_true.1 h).2
  have hl := locateBelow_plain (k := 0) (n := 8) hp (Nat.le_refl 8) fun j => segOk_slot h
  rw [Nat.zero_mul, below_zero] at hl
  rw [pushAllRegs_of_check hc, if_pos hroom, bind_of_ok hl]
  simp only [State.pushed, List.range', List.map_cons, List.map_nil, bind_apply, storeAll, storeLoc_apply, pure_apply, modS_apply,
    below_store]

/-- A frame that fails its checks is the stack fault, whichever check it fails. -/
theorem pushAllRegs_bad (hc : pushaRealCheck sz s = .ok () s)
    (h : ¬ s.segOk .ss (s.below (8 * sz.bytes)) (8 * sz.bytes) .write = true) :
    pushAllRegs sz s = .error (.exc ⟨vSS, zeroCode false⟩) s := by
  rw [pushAllRegs_of_check hc]
  split
  case isTrue hroom =>
    have ht : s.typeOk .ss .write = false := Bool.eq_false_iff.2 fun ht => h (segOk_eq_true.2 ⟨ht, hroom⟩)
    exact bind_of_error (locateBelow_bad (by rw [State.segOk, ht, Bool.false_and]))
  case isFalse => rfl

/-! ## POPA -/

/-- The `k`-th item of the stack, in a plain state. -/
def State.item (s : State) (sz : Size) (k : Nat) : BitVec sz.bits := s.load sz.bits (s.bytesAt .ss (s.above (k * sz.bytes)) sz.bytes)

theorem above_setReg (hsz : sz ≠ .b) {r : Reg} (hr : r ≠ .sp) (v : BitVec sz.bits) (n : Nat) :
    (s.setReg sz r v).above n = s.above n := by
  have hesp : (s.gpr.write sz r v).esp = s.gpr.esp := Gpr.get_write_other s.gpr r sz v (x := .sp) (by rw [if_neg hsz]; exact hr.symm)
  rw [State.above, State.stackPtr, State.setReg_gpr, hesp]
  rfl

/-- A frame that passes its checks is read whole, and loaded but for SP. -/
theorem popAllRegs_of_segOk (hp : s.plain = true) (hsz : sz ≠ .b) (h : s.segOk .ss s.stackPtr (8 * sz.bytes) .read = true) :
    popAllRegs sz s = .ok () ((((((((s.setReg sz .di (s.item sz 0)).setReg sz .si (s.item sz 1)).setReg sz .bp (s.item sz 2)).setReg
      sz .bx (s.item sz 4)).setReg sz .dx (s.item sz 5)).setReg sz .cx (s.item sz 6)).setReg sz .ax (s.item sz 7)).setStackPtr
      (s.above (8 * sz.bytes))) := by
  have hhas : s.stackHas (8 * sz.bytes) = true := (segOk_eq_true.1 h).2
  have hitem (k : Nat) (hk : k < 8 := by decide) : peek (k * sz.bytes) sz s = .ok (s.item sz k) s := peek_plain hp (segOk_item h hk)
  have h0 : peek 0 sz s = .ok (s.item sz 0) s := by simpa using hitem 0
  have h1 : peek sz.bytes sz s = .ok (s.item sz 1) s := by simpa using hitem 1
  rw [popAllRegs, bind_of_ok (getS_apply s), require_bind, if_pos hhas, bind_of_ok h0, bind_of_ok h1, bind_of_ok (hitem 2),
    bind_of_ok (hitem 3), bind_of_ok (hitem 4), bind_of_ok (hitem 5), bind_of_ok (hitem 6), bind_of_ok (hitem 7)]
  simp only [bind_apply, putReg_apply, modS_apply, above_setReg hsz, ne_eq, reduceCtorEq, not_false_eq_true]

/-- A frame that fails its checks is the stack fault, whichever check it fails (log entry 18). -/
theorem popAllRegs_bad (h : s.segOk .ss s.stackPtr (8 * sz.bytes) .read = false) :
    popAllRegs sz s = .error (.exc ⟨vSS, zeroCode false⟩) s := by
  rw [popAllRegs, bind_of_ok (getS_apply s), require_bind]
  split
  case isTrue hhas =>
    have ht : s.typeOk .ss .read = false := Bool.eq_false_iff.2 fun ht => by
      rw [segOk_eq_true.2 ⟨ht, hhas⟩] at h
      cases h
    have hl : lread .ss (s.above 0) sz s = .error (.exc ⟨vSS, zeroCode false⟩) s :=
      bind_of_error (locate_bad (by simp only [State.segOk, Bool.false_eq_true, if_false, ht, Bool.false_and]))
    exact bind_of_error hl
  case isFalse => rfl

end

/-- Settles O16. -/
theorem pushAllAndPopAll : Obligations.PushAllAndPopAll := by
  intro s hp
  obtain ⟨-, -, -, hl⟩ := s.plain_iff.1 hp
  refine ⟨fun hd ht hok => ?_, fun hd ht hbad => ?_, fun hd => ?_, fun ht => ?_, fun hbad => ?_, fun hok => ?_⟩
  · exact run_of_ok hl (pushAllRegs_of_segOk hp (pushaRealCheck_passes hd ht) hok)
  · exact run_of_error hl (pushAllRegs_bad (pushaRealCheck_passes hd ht) hbad)
  · exact run_of_error hl (bind_of_error (pushaRealCheck_shutsDown hd))
  · exact run_of_error hl (bind_of_error (pushaRealCheck_isThirteen ht))
  · exact run_of_error hl (popAllRegs_bad hbad)
  · exact run_of_ok hl (popAllRegs_of_segOk hp (osz_ne_b s) hok)

end Sys2Proof.Machine
end

section
/-! The accumulator and table forms: CBW, CWD, LEA, LAHF, SAHF, XLAT (40_data_movement.md R271, R273; 46_block_flag_coproc_misc.md
R430, R431, R444, R447). -/
namespace Sys2Proof.Machine

/-- The image LAHF builds has the five flags at their places (46_block_flag_coproc_misc.md R430). -/
theorem getLsbD_ahImage (sf zf af pf cf : Bool) (u5 u3 u1 : BitVec 1) :
    let v := bit sf ++ bit zf ++ u5 ++ bit af ++ u3 ++ bit pf ++ u1 ++ bit cf
    v.getLsbD 7 = sf ∧ v.getLsbD 6 = zf ∧ v.getLsbD 4 = af ∧ v.getLsbD 2 = pf ∧ v.getLsbD 0 = cf := by
  simp only [bit, BitVec.getLsbD_append]
  simp

theorem loadAh_ok (s : State) : ∃ (v : BitVec 8) (n : Nat),
    (v.getLsbD 7 = s.flags.SF ∧ v.getLsbD 6 = s.flags.ZF ∧ v.getLsbD 4 = s.flags.AF ∧ v.getLsbD 2 = s.flags.PF ∧
      v.getLsbD 0 = s.flags.CF) ∧ loadAh s = .ok () ((s.drawn n).setReg .b .sp v) :=
  ⟨_, _, getLsbD_ahImage .., rfl⟩

/-- XLAT's table offset, in the address size (46_block_flag_coproc_misc.md R447). -/
theorem xlat_offset (is32 : Bool) (ebx : BitVec 32) (al : BitVec 8) : wrapOff is32 (ebx + al.setWidth 32) =
    if is32 then ebx + al.setWidth 32 else (ebx.extractLsb' 0 16 + al.setWidth 16).setWidth 32 := by
  have h : (ebx + al.setWidth 32).extractLsb' 0 16 = ebx.extractLsb' 0 16 + al.setWidth 16 := by
    rw [BitVec.extractLsb'_add (by decide), ← BitVec.setWidth_eq_extractLsb' (x := al.setWidth 32) (by decide),
      BitVec.setWidth_setWidth_of_le _ (by decide)]
  rw [wrapOff, h]

/-- Settles O17. -/
theorem accumulatorAndTableForms : Obligations.AccumulatorAndTableForms := by
  refine ⟨fun s hl => ⟨fun h => ?_, fun h => ?_, ?_, fun r m => ?_, fun r e => ?_, ?_, ?_⟩, fun s s1 l hl hloc => ?_⟩
  · have hx : signExtendAcc s.attrs.o32 s = .ok () (s.setReg .d .ax ((s.reg .w .ax).signExtend 32)) := by rw [h]; rfl
    exact run_of_ok hl hx
  · have hx : signExtendAcc s.attrs.o32 s = .ok () (s.setReg .w .ax ((s.reg .b .ax).signExtend 16)) := by rw [h]; rfl
    exact run_of_ok hl hx
  · exact run_of_ok (body := signSpread s.osz) hl rfl
  · exact run_of_ok (body := loadEa s.osz r (.mem m)) hl rfl
  · exact run_of_error (body := loadEa s.osz r (.reg e)) hl rfl
  · obtain ⟨v, n, ⟨hs, hz, ha, hp, hc⟩, h⟩ := loadAh_ok s
    exact ⟨v, n, hs, hz, ha, hp, hc, run_of_ok hl h⟩
  · exact run_of_ok (body := storeAh) hl rfl
  · have hoff := xlat_offset s.attrs.a32 s.gpr.ebx (s.reg .b .ax)
    have hread : lread (s.segFor .ds) (wrapOff s.attrs.a32 (s.gpr.ebx + (s.reg .b .ax).setWidth 32)) .b s = .ok (s1.load 8 l) s1 := by
      rw [hoff]
      exact lread_of_locate hloc
    exact run_of_ok hl (bind_of_ok hread)

end Sys2Proof.Machine
end

section
/-! The flag functions of addition, subtraction and logic (41_binary_arithmetic.md R290; 10_state.md R51). -/
namespace Sys2Proof.Machine

/-! ## Results -/

section
variable {w : Nat} (a b : BitVec w) (c : Bool)

theorem addFlags_result : (addFlags a b c).1 = a + b + BitVec.ofNat w c.toNat := by
  simp [addFlags, BitVec.ofNat_add]

theorem subFlags_result : (subFlags a b c).1 = a - b - BitVec.ofNat w c.toNat := by
  simp [subFlags, Int.sub_eq_add_neg, BitVec.sub_eq_add_neg, BitVec.ofInt_add, BitVec.ofInt_neg]

theorem addFlags_result_false : (addFlags a b false).1 = a + b := by
  simp [addFlags_result]

theorem subFlags_result_false : (subFlags a b false).1 = a - b := by
  simp [subFlags_result]

/-- A sum that does not fit loses `2 ^ w`. -/
theorem toNat_addFlags : (addFlags a b c).1.toNat = a.toNat + b.toNat + c.toNat ∨
    (addFlags a b c).1.toNat + 2 ^ w = a.toNat + b.toNat + c.toNat := by
  have hr : (addFlags a b c).1.toNat = (a.toNat + b.toNat + c.toNat) % 2 ^ w := BitVec.toNat_ofNat ..
  have ha := a.isLt
  have hb := b.isLt
  have hc := c.toNat_le
  by_cases h : a.toNat + b.toNat + c.toNat < 2 ^ w
  · exact .inl (hr.trans (Nat.mod_eq_of_lt h))
  · rw [Nat.mod_eq_sub_mod (by omega), Nat.mod_eq_of_lt (by omega)] at hr
    exact .inr (by omega)

/-- A difference below zero gains `2 ^ w`. -/
theorem toNat_subFlags : (subFlags a b c).1.toNat + b.toNat + c.toNat = a.toNat ∨
    (subFlags a b c).1.toNat + b.toNat + c.toNat = a.toNat + 2 ^ w := by
  have hr : (subFlags a b c).1.toNat = (((a.toNat : Int) - b.toNat - c.toNat) % (2 ^ w : Nat)).toNat := BitVec.toNat_ofInt _
  have ha := a.isLt
  have hb := b.isLt
  have hc := c.toNat_le
  by_cases h : 0 ≤ (a.toNat : Int) - b.toNat - c.toNat
  · rw [Int.emod_eq_of_lt h (by omega)] at hr
    exact .inl (by omega)
  · rw [← Int.add_emod_right, Int.emod_eq_of_lt (by omega) (by omega)] at hr
    exact .inr (by omega)

/-! ## Signed overflow -/

theorem addFlags_OF : (addFlags a b c).2.OF = true ↔ a.msb = b.msb ∧ (addFlags a b c).1.msb ≠ a.msb := by
  simp [addFlags]

theorem subFlags_OF : (subFlags a b c).2.OF = true ↔ a.msb ≠ b.msb ∧ (subFlags a b c).1.msb ≠ a.msb := by
  simp [subFlags]

/-- OF of a sum, as the sign bits show it, says that the signed sum is out of range (R290). -/
theorem addFlags_OF_iff_toInt (hw : 0 < w) :
    (addFlags a b c).2.OF = true ↔ a.toInt + b.toInt + c.toNat ≠ (addFlags a b c).1.toInt := by
  have hp : 2 ^ w = 2 ^ (w - 1) * 2 := (Nat.two_pow_pred_mul_two hw).symm
  have hr := toNat_addFlags a b c
  have ha := a.isLt
  have hb := b.isLt
  have hc := c.toNat_le
  have hs := (addFlags a b c).1.isLt
  rw [addFlags_OF]
  simp only [BitVec.toInt_eq_msb_cond, BitVec.msb_eq_decide, ne_eq, decide_eq_decide, decide_eq_true_eq]
  omega

theorem subFlags_OF_iff_toInt (hw : 0 < w) :
    (subFlags a b c).2.OF = true ↔ a.toInt - b.toInt - c.toNat ≠ (subFlags a b c).1.toInt := by
  have hp : 2 ^ w = 2 ^ (w - 1) * 2 := (Nat.two_pow_pred_mul_two hw).symm
  have hr := toNat_subFlags a b c
  have ha := a.isLt
  have hb := b.isLt
  have hc := c.toNat_le
  have hs := (subFlags a b c).1.isLt
  rw [subFlags_OF]
  simp only [BitVec.toInt_eq_msb_cond, BitVec.msb_eq_decide, ne_eq, decide_eq_decide, decide_eq_true_eq]
  omega

/-! ## The other flags -/

theorem addFlags_CF : (addFlags a b c).2.CF = true ↔ 2 ^ w ≤ a.toNat + b.toNat + c.toNat := by
  simp [addFlags]

theorem subFlags_CF : (subFlags a b c).2.CF = true ↔ (a.toNat : Int) - b.toNat - c.toNat < 0 := by
  simp only [subFlags, decide_eq_true_eq]
  omega

theorem addFlags_AF : (addFlags a b c).2.AF = true ↔ 16 ≤ a.toNat % 16 + b.toNat % 16 + c.toNat := by
  simp [addFlags]

theorem subFlags_AF : (subFlags a b c).2.AF = true ↔ (a.toNat % 16 : Int) - (b.toNat % 16 : Nat) - c.toNat < 0 := by
  simp only [subFlags, decide_eq_true_eq]
  omega

theorem zeroOf_iff : zeroOf a = true ↔ a = 0#w := beq_iff_eq

theorem countOnes_eq_countP (n : Nat) : countOnes a n = (List.range n).countP fun k => a.getLsbD k := by
  induction n with
  | zero => rfl
  | succ n ih => rw [countOnes, ih, List.range_succ, List.countP_append, List.countP_singleton, Nat.add_comm]

theorem parityOf_iff : parityOf a = true ↔ ((List.range 8).countP fun k => a.getLsbD k) % 2 = 0 := by
  rw [parityOf, beq_iff_eq, countOnes_eq_countP]

end

theorem bits_pos (sz : Size) : 0 < sz.bits := by cases sz <;> decide

/-- Settles O8: each flag by its own law; OF against the signed value by the wrapped result. -/
theorem flagFunctionsAreExact : Obligations.FlagFunctionsAreExact := by
  intro sz a b c af w r f q g h ones
  exact ⟨addFlags_result .., subFlags_result .., addFlags_CF .., subFlags_CF .., addFlags_OF .., subFlags_OF ..,
    addFlags_OF_iff_toInt _ _ _ (bits_pos sz), subFlags_OF_iff_toInt _ _ _ (bits_pos sz), addFlags_AF .., subFlags_AF ..,
    zeroOf_iff _, zeroOf_iff _, zeroOf_iff _, rfl, rfl, rfl, parityOf_iff _, parityOf_iff _, parityOf_iff _, rfl, rfl, rfl⟩

end Sys2Proof.Machine
end

section
/-! The two-operand operations: ADD to XOR, CMP and TEST (41_binary_arithmetic.md R291 to R297, R299; 43_logical_shift_bit.md R331 to
R335). -/
namespace Sys2Proof.Machine

/-! ## What an instruction runs -/

theorem runNormal_congr {lockable : Bool} {x y : M Unit} {s : State} (h : x s = y s) : runNormal lockable x s = runNormal lockable y s :=
  runInstr_congr (by rw [bind_apply, bind_apply, h])

theorem touches_readRm (sz : Size) (rm : Rm) : Touches (readRm sz rm) :=
  touches_bind (touches_place _ _ _) fun _ s => by
    rw [readPlace_apply]
    exact .refl s

/-- What follows the read of an `E` operand matters only where the read has just touched the machine. -/
theorem readRm_bind_congr {α : Type} {sz : Size} {rm : Rm} {f g : BitVec sz.bits → M α} {s : State}
    (h : ∀ v s1, Touched s s1 → f v s1 = g v s1) : (readRm sz rm >>= f) s = (readRm sz rm >>= g) s := by
  rw [bind_apply, bind_apply]
  cases hr : readRm sz rm s with
  | ok v s1 => exact h v s1 ((touches_readRm sz rm).ok hr)
  | error => rfl

/-! ## Operations that write their destination -/

/-- The operation gives the result and the flags its table names, AF drawn where it is undefined. -/
theorem alu_ok (op : AluOp) {w : Nat} (a b : BitVec w) (s : State) : ∃ af n,
    alu op a b s = .ok (op.result a b s.flags.CF) ((s.drawn n).withStatus (op.status a b s.flags.CF af)) := by
  cases op with
  | add => exact ⟨false, s.draws, congrArg (EStateM.Result.ok · _) (addFlags_result_false a b)⟩
  | adc => exact ⟨false, s.draws, congrArg (EStateM.Result.ok · _) (addFlags_result a b _)⟩
  | sub => exact ⟨false, s.draws, congrArg (EStateM.Result.ok · _) (subFlags_result_false a b)⟩
  | sbb => exact ⟨false, s.draws, congrArg (EStateM.Result.ok · _) (subFlags_result a b _)⟩
  | cmp => exact ⟨false, s.draws, rfl⟩
  | and | or | xor => exact ⟨_, _, rfl⟩

theorem aluTo_of_place {sz : Size} {rm : Rm} {s s1 : State} {p : Place} (h : place sz rm true s = .ok p s1) (op : AluOp)
    (b : BitVec sz.bits) : ∃ af n, aluTo op sz rm b s = .ok () (((s1.drawn n).withStatus
      (op.status (s1.valueAt sz p) b s1.flags.CF af)).putAt sz p (op.result (s1.valueAt sz p) b s1.flags.CF)) := by
  obtain ⟨af, n, ha⟩ := alu_ok op (s1.valueAt sz p) b s1
  exact ⟨af, n, modifyRm_of_place h ha⟩

/-- An `E` source is read before the register destination, which the read leaves as it was (R299). -/
theorem aluGE_of_place {sz : Size} {rm : Rm} {s s1 : State} {p : Place} (h : place sz rm false s = .ok p s1) (op : AluOp) (r : Reg) :
    ∃ af n, aluGE op sz r rm s = .ok () (((s1.drawn n).withStatus
      (op.status (s.reg sz r) (s1.valueAt sz p) s.flags.CF af)).setReg sz r (op.result (s.reg sz r) (s1.valueAt sz p) s.flags.CF)) := by
  have ht := (touches_place _ _ _).ok h
  obtain ⟨af, n, ha⟩ := aluTo_of_place (place_reg sz r true s1) op (s1.valueAt sz p)
  rw [State.valueAt, ht.reg, ht.flags] at ha
  exact ⟨af, n, (bind_of_ok (readRm_of_place h)).trans ha⟩

theorem exec_aluToForm {s : State} {i : Instr} {f : AluTo} (h : aluToForm s i = some f) :
    exec i s = runNormal (isMem f.rm) (aluTo f.op f.sz f.rm f.src) s := by
  cases i with
  | addEbGb | addEvGv | orEbGb | orEvGv | adcEbGb | adcEvGv | sbbEbGb | sbbEvGv | andEbGb | andEvGv | subEbGb | subEvGv | xorEbGb
  | xorEvGv =>
    cases h
    exact runNormal_congr rfl
  | addAlIb | addEaxIv | addEbIb | addEvIv | addEvIb | orAlIb | orEaxIv | orEbIb | orEvIv | orEvIb | adcAlIb | adcEaxIv | adcEbIb
  | adcEvIv | adcEvIb | sbbAlIb | sbbEaxIv | sbbEbIb | sbbEvIv | sbbEvIb | andAlIb | andEaxIv | andEbIb | andEvIv | andEvIb | subAlIb
  | subEaxIv | subEbIb | subEvIv | subEvIb | xorAlIb | xorEaxIv | xorEbIb | xorEvIv | xorEvIb =>
    cases h
    rfl
  | _ => cases h

theorem exec_aluFromForm {s : State} {i : Instr} {f : AluFrom} (h : aluFromForm s i = some f) :
    exec i s = run (aluGE f.op f.sz f.r f.rm) s := by
  cases i with
  | addGbEb | addGvEv | orGbEb | orGvEv | adcGbEb | adcGvEv | sbbGbEb | sbbGvEv | andGbEb | andGvEv | subGbEb | subGvEv | xorGbEb
  | xorGvEv =>
    cases h
    rfl
  | _ => cases h

/-- Settles O6. -/
theorem aluOperations : Obligations.AluOperations := by
  refine ⟨fun i s s1 f p hf hl hp => ?_, fun i s s1 f p hf hl hp => ?_⟩
  · obtain ⟨af, n, ha⟩ := aluTo_of_place hp f.op f.src
    refine ⟨af, n, ?_, sameBytes_finished _ (State.sameBytes_putAt (s1.drawn n |>.withStatus _) _ _ _)⟩
    rw [exec_aluToForm hf, runNormal_of_ok ((lockOk_iff s f.rm).1 hl) ha]
  · obtain ⟨af, n, ha⟩ := aluGE_of_place hp f.op f.r
    exact ⟨af, n, by rw [exec_aluFromForm hf, run_of_ok hl ha]⟩

/-! ## CMP and TEST -/

/-- What CMP does: read the `E` operand, and write the flags of the difference. -/
def Comparison.compare (f : Comparison) : M Unit := do
  let v ← readRm f.sz f.rm
  putStatus (if f.rmFirst then subFlags v f.other false else subFlags f.other v false).2

theorem cmpGE_apply (sz : Size) (r : Reg) (rm : Rm) (s : State) : cmpGE sz r rm s = Comparison.compare ⟨sz, rm, s.reg sz r, false⟩ s :=
  readRm_bind_congr fun v s1 ht => by
    have hr : cmpWith sz (.reg r) v s1 = .ok () (s1.withStatus (subFlags (s1.reg sz r) v false).2) := rfl
    rw [hr, ht.reg]
    rfl

theorem exec_cmpForm {s : State} {i : Instr} {f : Comparison} (h : cmpForm s i = some f) : exec i s = run f.compare s := by
  cases i with
  | cmpEbGb | cmpEvGv | cmpAlIb | cmpEaxIv | cmpEbIb | cmpEvIv | cmpEvIb =>
    cases h
    exact run_congr rfl
  | cmpGbEb | cmpGvEv =>
    cases h
    exact run_congr (cmpGE_apply ..)
  | _ => cases h

theorem exec_testForm {s : State} {i : Instr} {f : Comparison} (h : testForm s i = some f) :
    exec i s = run (testWith f.sz f.rm f.other) s := by
  cases i with
  | testEbGb | testEvGv | testAlIb | testEaxIv | testEbIb | testEvIv =>
    cases h
    exact run_congr rfl
  | _ => cases h

theorem testWith_of_place {sz : Size} {rm : Rm} {s s1 : State} {p : Place} (h : place sz rm false s = .ok p s1) (b : BitVec sz.bits) :
    ∃ af n, testWith sz rm b s = .ok () ((s1.drawn n).withStatus (logicFlags (s1.valueAt sz p &&& b) af)) := by
  obtain ⟨af, n, hf⟩ := putLogic_ok (s1.valueAt sz p &&& b) s1
  exact ⟨af, n, (bind_of_ok (readRm_of_place h)).trans hf⟩

/-! ## INC, DEC, NEG, NOT -/

/-- What a one-operand operation does to its operand, in place. -/
def Unary.apply (f : Unary) : M Unit := modifyRm f.sz f.rm fun a => do
  modFlags (f.op.flags a)
  pure (f.op.result a)

theorem incRm_eq (sz : Size) (rm : Rm) : incRm sz rm = Unary.apply ⟨.inc, sz, rm⟩ := by
  simp only [incRm, addFlags_result_false]
  rfl

theorem decRm_eq (sz : Size) (rm : Rm) : decRm sz rm = Unary.apply ⟨.dec, sz, rm⟩ := by
  simp only [decRm, subFlags_result_false]
  rfl

theorem negRm_eq (sz : Size) (rm : Rm) : negRm sz rm = Unary.apply ⟨.neg, sz, rm⟩ := by
  simp only [negRm, subFlags_result_false, BitVec.zero_sub]
  rfl

theorem notRm_eq (sz : Size) (rm : Rm) : notRm sz rm = Unary.apply ⟨.not, sz, rm⟩ := rfl

theorem exec_unaryForm {s : State} {i : Instr} {f : Unary} (h : unaryForm s i = some f) :
    exec i s = runNormal (isMem f.rm) f.apply s := by
  cases i with
  | incReg | incEb | incEv =>
    cases h
    exact congrArg (runNormal _ · s) (incRm_eq ..)
  | decReg | decEb | decEv =>
    cases h
    exact congrArg (runNormal _ · s) (decRm_eq ..)
  | negEb | negEv =>
    cases h
    exact congrArg (runNormal _ · s) (negRm_eq ..)
  | notEb | notEv =>
    cases h
    exact congrArg (runNormal _ · s) (notRm_eq ..)
  | _ => cases h

/-- Settles O7. -/
theorem comparisonsAndUnaryOperations : Obligations.ComparisonsAndUnaryOperations := by
  refine ⟨fun i s s1 f p hf hl hp => ?_, fun i s s1 f p hf hl hp => ?_, fun i s s1 f p hf hl hp => ⟨?_, ?_⟩⟩
  · rw [exec_cmpForm hf]
    exact run_of_ok hl (bind_of_ok (readRm_of_place hp))
  · obtain ⟨af, n, ht⟩ := testWith_of_place hp f.other
    exact ⟨af, n, by rw [exec_testForm hf, run_of_ok hl ht]⟩
  · rw [exec_unaryForm hf]
    exact runNormal_of_ok ((lockOk_iff s f.rm).1 hl) (modifyRm_of_place hp rfl)
  · exact sameBytes_finished _ (State.sameBytes_putAt { s1 with flags := _ } _ _ _)

end Sys2Proof.Machine
end

section
/-! Multiplication and division (41_binary_arithmetic.md R300 to R305). -/
namespace Sys2Proof.Machine

/-! ## MUL and IMUL of one operand -/

/-- What MUL and IMUL of one operand do: the product of the two readings, and CF = OF = it does not fit the lower half. -/
def Wide.multiply (f : Wide) : M Unit := do
  let b ← readRm f.sz f.rm
  let a ← getReg f.sz .ax
  putWide f.sz (f.int a * f.int b)
  putCarryOverflow (decide (f.int (BitVec.ofInt f.sz.bits (f.int a * f.int b)) ≠ f.int a * f.int b))

/-- An unsigned product fits the lower half when it is below `2 ^ w`. -/
theorem unsigned_misfit (w n : Nat) : ((BitVec.ofInt w n).toNat : Int) ≠ n ↔ (2 ^ w : Int) ≤ n := by
  have hpow : (2 ^ w : Int) ≤ n ↔ 2 ^ w ≤ n := by exact_mod_cast Iff.rfl
  rw [BitVec.ofInt_natCast, BitVec.toNat_ofNat, ne_eq, Int.natCast_inj, Nat.mod_eq_iff_lt (Nat.two_pow_pos w).ne', hpow, not_lt]

theorem signedOverflow_eq (w : Nat) (p : Int) : signedOverflow w p = decide ((BitVec.ofInt w p).toInt ≠ p) := by
  rw [Bool.eq_iff_iff, signedOverflow, bne_iff_ne, decide_eq_true_iff]

theorem mulRm_eq (sz : Size) (rm : Rm) : mulRm sz rm = Wide.multiply ⟨false, sz, rm⟩ := by
  simp only [mulRm, Wide.multiply, Wide.int, Bool.false_eq_true, if_false, ← Nat.cast_mul, unsigned_misfit]

theorem imulRm_eq (sz : Size) (rm : Rm) : imulRm sz rm = Wide.multiply ⟨true, sz, rm⟩ := by
  simp only [imulRm, signedOverflow_eq]
  rfl

theorem exec_mulForm {s : State} {i : Instr} {f : Wide} (h : mulForm s i = some f) : exec i s = run f.multiply s := by
  cases i with
  | mulEb | mulEv =>
    cases h
    exact congrArg (run · s) (mulRm_eq ..)
  | imulEb | imulEv =>
    cases h
    exact congrArg (run · s) (imulRm_eq ..)
  | _ => cases h

theorem putWide_apply (sz : Size) (p : Int) (s : State) : putWide sz p s =
    .ok () ((s.setReg sz .ax (BitVec.ofInt sz.bits p)).setReg sz (highAcc sz) (BitVec.ofInt sz.bits (p / 2 ^ sz.bits))) := rfl

/-! ## IMUL into a register -/

/-- What IMUL into a register does: the truncated product, and CF = OF = the product does not fit. -/
def ImulTo.multiply (f : ImulTo) : M Unit := do
  let v ← readRm f.sz f.rm
  imulTo f.sz f.r v f.other

theorem imulTo_comm (sz : Size) (r : Reg) (a b : BitVec sz.bits) : imulTo sz r a b = imulTo sz r b a := by
  rw [imulTo, imulTo, Int.mul_comm]

theorem imulGE_apply (sz : Size) (r : Reg) (rm : Rm) (s : State) : imulGE sz r rm s = ImulTo.multiply ⟨sz, r, rm, s.reg sz r⟩ s :=
  readRm_bind_congr fun v s1 ht => by
    rw [bind_of_ok (getReg_apply ..), imulTo_comm, ht.reg]

theorem exec_imulToForm {s : State} {i : Instr} {f : ImulTo} (h : imulToForm s i = some f) : exec i s = run f.multiply s := by
  cases i with
  | imulGvEv =>
    cases h
    exact run_congr (imulGE_apply ..)
  | imulGvEvIv | imulGvEvIb =>
    cases h
    rfl
  | _ => cases h

theorem imulTo_ok (sz : Size) (r : Reg) (a b : BitVec sz.bits) (s : State) :
    ∃ st n, st.CF = decide ((a * b).toInt ≠ a.toInt * b.toInt) ∧ st.OF = st.CF ∧
      imulTo sz r a b s = .ok () (((s.drawn n).setReg sz r (a * b)).withStatus st) := by
  have hp : BitVec.ofInt sz.bits (a.toInt * b.toInt) = a * b := by
    rw [BitVec.ofInt_mul, BitVec.ofInt_toInt, BitVec.ofInt_toInt]
  obtain ⟨st, n, hc, ho, h⟩ := putCarryOverflow_ok (signedOverflow sz.bits (a.toInt * b.toInt)) (s.setReg sz r (a * b))
  refine ⟨st, n, ?_, ho.trans hc.symm, ?_⟩
  · rw [hc, signedOverflow_eq, hp]
  · rw [imulTo, hp, bind_of_ok (putReg_apply ..), h]
    rfl

/-- Settles O9. -/
theorem multiplications : Obligations.Multiplications := by
  refine ⟨fun i s s1 f p hf hl hp => ?_, fun i s s1 f p hf hl hp => ?_⟩
  · have ht := (touches_place _ _ _).ok hp
    intro x lo
    obtain ⟨st, n, hc, ho, h⟩ := putCarryOverflow_ok (decide (f.int lo ≠ x))
      ((s1.setReg f.sz .ax lo).setReg f.sz (highAcc f.sz) (BitVec.ofInt f.sz.bits (x / 2 ^ f.sz.bits)))
    refine ⟨st, n, hc, ho.trans hc.symm, ?_⟩
    rw [exec_mulForm hf]
    refine run_of_ok hl ?_
    rw [Wide.multiply, bind_of_ok (readRm_of_place hp), bind_of_ok (getReg_apply ..), ht.reg, bind_of_ok (putWide_apply ..)]
    exact h
  · obtain ⟨st, n, hc, ho, h⟩ := imulTo_ok f.sz f.r (s1.valueAt f.sz p) f.other s1
    refine ⟨st, n, hc, ho, ?_⟩
    rw [exec_imulToForm hf]
    exact run_of_ok hl ((bind_of_ok (readRm_of_place hp)).trans h)

/-! ## DIV and IDIV -/

/-- What DIV and IDIV do: #DE unless the quotient exists and is in range, then quotient and remainder replace the dividend. -/
def Wide.divide (f : Wide) : M Unit := do
  let d ← readRm f.sz f.rm
  let hi ← getReg f.sz (highAcc f.sz)
  let lo ← getReg f.sz .ax
  let n := f.int hi * 2 ^ f.sz.bits + (lo.toNat : Int)
  require (d != 0#f.sz.bits) vDE .none
  require (f.fits (n.tdiv (f.int d))) vDE .none
  putReg f.sz .ax (BitVec.ofInt f.sz.bits (n.tdiv (f.int d)))
  putReg f.sz (highAcc f.sz) (BitVec.ofInt f.sz.bits (n.tmod (f.int d)))
  undefStatus

theorem divRm_eq (sz : Size) (rm : Rm) : divRm sz rm = Wide.divide ⟨false, sz, rm⟩ := by
  have hn (hi lo : BitVec sz.bits) : (hi.toNat : Int) * 2 ^ sz.bits + lo.toNat = (hi.toNat * 2 ^ sz.bits + lo.toNat : Nat) := by
    push_cast
    rfl
  have hlt (k : Nat) : (k : Int) < 2 ^ sz.bits ↔ k < 2 ^ sz.bits := by exact_mod_cast Iff.rfl
  simp only [divRm, Wide.divide, Wide.int, Wide.fits, Bool.false_eq_true, if_false, hn, ← Int.ofNat_tdiv, ← Int.ofNat_tmod, hlt,
    BitVec.ofInt_natCast]

theorem idivRm_eq (sz : Size) (rm : Rm) : idivRm sz rm = Wide.divide ⟨true, sz, rm⟩ := rfl

theorem exec_divForm {s : State} {i : Instr} {f : Wide} (h : divForm s i = some f) : exec i s = run f.divide s := by
  cases i with
  | divEb | divEv =>
    cases h
    exact congrArg (run · s) (divRm_eq ..)
  | idivEb | idivEv =>
    cases h
    exact congrArg (run · s) (idivRm_eq ..)
  | _ => cases h

/-- With a divisor and a quotient in range the dividend is replaced and the flags are free; otherwise #DE, nothing written. -/
theorem divide_of_place {f : Wide} {s s1 : State} {p : Place} (h : place f.sz f.rm false s = .ok p s1) :
    f.divide s = if s1.valueAt f.sz p ≠ 0#f.sz.bits ∧ f.fits (f.quotient s (s1.valueAt f.sz p)) = true then
        undefStatus ((s1.setReg f.sz .ax (BitVec.ofInt f.sz.bits (f.quotient s (s1.valueAt f.sz p)))).setReg f.sz (highAcc f.sz)
          (BitVec.ofInt f.sz.bits ((f.dividend s).tmod (f.int (s1.valueAt f.sz p)))))
      else .error (.exc ⟨vDE, .none⟩) s1 := by
  have ht := (touches_place _ _ _).ok h
  rw [Wide.divide, bind_of_ok (readRm_of_place h), bind_of_ok (getReg_apply ..), bind_of_ok (getReg_apply ..), ht.reg, ht.reg,
    require_bind, require_bind, ite_and]
  simp only [bne_iff_ne]
  rfl

/-- Settles O10. -/
theorem divisionAndItsError : Obligations.DivisionAndItsError := by
  intro i s s1 f p hf hl hp d q
  have hd := divide_of_place hp
  rw [exec_divForm hf]
  split
  case isTrue hq =>
    obtain ⟨st, n, h⟩ := undefStatus_ok ((s1.setReg f.sz .ax (BitVec.ofInt f.sz.bits q)).setReg f.sz (highAcc f.sz)
      (BitVec.ofInt f.sz.bits ((f.dividend s).tmod (f.int d))))
    exact ⟨st, n, run_of_ok hl (hd.trans ((if_pos hq).trans h))⟩
  case isFalse hq => exact run_of_error hl (hd.trans (if_neg hq))

end Sys2Proof.Machine
end

section
/-! Decimal arithmetic: what each adjustment writes, and why DAA and DAS give decimal digits (42_decimal_arithmetic.md R320 to R327). -/
namespace Sys2Proof.Machine

/-! ## Adjusting AL -/

/-- The high half-byte of AL needs adjusting (42_decimal_arithmetic.md R322, R323). -/
def adjustHigh (al : BitVec 8) (cf : Bool) : Bool := decide (0x99 < al.toNat) || cf

theorem daaResult_eq (al : BitVec 8) (af cf : Bool) : daaResult al af cf =
    (al + (if adjustLow al af then 6#8 else 0#8) + (if adjustHigh al cf then 0x60#8 else 0#8), adjustLow al af, adjustHigh al cf) := by
  rw [add_ite, add_ite, BitVec.add_zero, BitVec.add_zero]
  rfl

/-- A CF of 1 adjusts the high half-byte already, so that only a borrow of the low half-byte can set CF beyond it. -/
theorem dasResult_eq (al : BitVec 8) (af cf : Bool) : dasResult al af cf =
    (al - (if adjustLow al af then 6#8 else 0#8) - (if adjustHigh al cf then 0x60#8 else 0#8), adjustLow al af,
      adjustHigh al cf || (adjustLow al af && decide (al.toNat < 6))) := by
  have hcf : (adjustHigh al cf || (adjustLow al af && (cf || decide (al.toNat < 6)))) =
      (adjustHigh al cf || (adjustLow al af && decide (al.toNat < 6))) := by
    cases cf with
    | false => rw [Bool.false_or]
    | true => simp only [adjustHigh, Bool.or_true, Bool.true_or]
  rw [sub_ite, sub_ite, BitVec.sub_zero, BitVec.sub_zero, ← hcf]
  rfl

/-! ## What the instructions do -/

/-- DAA and DAS write AL and five flags, and OF is free. -/
theorem putPacked_ok (r : BitVec 8 × Bool × Bool) (s : State) : ∃ of n, putPacked r s =
    .ok () (((s.drawn n).setReg .b .ax r.1).withStatus ⟨r.2.2, parityOf r.1, r.2.1, zeroOf r.1, signOf r.1, of⟩) := ⟨_, _, rfl⟩

theorem decAdjAdd_apply (s : State) : decAdjAdd s =
    putPacked (daaResult (s.reg .b .ax) s.flags.AF s.flags.CF) s := rfl

theorem decAdjSub_apply (s : State) : decAdjSub s =
    putPacked (dasResult (s.reg .b .ax) s.flags.AF s.flags.CF) s := rfl

/-- AAS adds the negated adjustments of AAA. -/
theorem add_ite_neg (c : Bool) (a d : BitVec 8) : (a + if c then -d else 0#8) = a - if c then d else 0#8 := by
  cases c with
  | false => exact (BitVec.add_zero a).trans (BitVec.sub_zero a).symm
  | true => exact (BitVec.sub_eq_add_neg a d).symm

/-- The flags of AAA and AAS: CF and AF say whether AL was adjusted, and the others are drawn (42_decimal_arithmetic.md R324, R325). -/
def putAdjusted (adj : Bool) : M Unit := do
  let pf ← drawBool
  let zf ← drawBool
  let sf ← drawBool
  let of ← drawBool
  putStatus { CF := adj, PF := pf, AF := adj, ZF := zf, SF := sf, OF := of }

theorem putAdjusted_ok (adj : Bool) (s : State) : ∃ st n, st.CF = adj ∧ st.AF = adj ∧
    putAdjusted adj s = .ok () ((s.drawn n).withStatus st) := ⟨_, _, rfl, rfl, rfl⟩

theorem unpackedAdjust_apply (dAl dAh : BitVec 8) (s : State) : unpackedAdjust dAl dAh s =
    putAdjusted (adjustLow (s.reg .b .ax) s.flags.AF)
      ((s.setReg .b .ax ((s.reg .b .ax + if adjustLow (s.reg .b .ax) s.flags.AF then dAl else 0#8) &&& 15#8)).setReg .b .sp
        (s.reg .b .sp + if adjustLow (s.reg .b .ax) s.flags.AF then dAh else 0#8)) := by
  rw [add_ite, add_ite, BitVec.add_zero, BitVec.add_zero]
  rfl

/-- AAM and AAD write SF, ZF and PF from AL, and the other flags are free. -/
theorem putAlFlags_ok (al : BitVec 8) (s : State) : ∃ st n, st.SF = al.msb ∧ st.ZF = decide (al = 0#8) ∧ st.PF = parityOf al ∧
    putAlFlags al s = .ok () ((s.drawn n).withStatus st) := ⟨_, _, rfl, rfl, rfl, rfl⟩

theorem asciiAfterMul_zero (s : State) : asciiAfterMul 0#8 s = .error (.exc ⟨vDE, .none⟩) s := rfl

theorem asciiAfterMul_of_ne_zero {k : BitVec 8} (hk : k ≠ 0#8) (s : State) : asciiAfterMul k s =
    putAlFlags (s.reg .b .ax % k) ((s.setReg .b .sp (s.reg .b .ax / k)).setReg .b .ax (s.reg .b .ax % k)) := by
  rw [asciiAfterMul, require_bind, if_pos (bne_iff_ne.2 hk)]
  rfl

theorem asciiBeforeDiv_apply (k : BitVec 8) (s : State) : asciiBeforeDiv k s =
    putAlFlags (s.reg .b .sp * k + s.reg .b .ax)
      ((s.setReg .b .ax (s.reg .b .sp * k + s.reg .b .ax)).setReg .b .sp 0#8) := rfl

/-- Settles O11: each instruction writes its registers and then flags of which some are free. -/
theorem decimalInstructions : Obligations.DecimalInstructions := by
  refine ⟨fun s hl => ⟨?daa, ?das, ?aaa, ?aas⟩, fun s k hl => ⟨?aamZero, ?aam, ?aad⟩⟩
  case daa =>
    have hr := decAdjAdd_apply s
    rw [daaResult_eq] at hr
    obtain ⟨of, n, h⟩ := putPacked_ok _ s
    exact ⟨of, n, run_of_ok hl (hr.trans h)⟩
  case das =>
    have hr := decAdjSub_apply s
    rw [dasResult_eq] at hr
    obtain ⟨of, n, h⟩ := putPacked_ok _ s
    exact ⟨of, n, run_of_ok hl (hr.trans h)⟩
  case aaa =>
    obtain ⟨st, n, hc, ha, h⟩ := putAdjusted_ok (adjustLow (s.reg .b .ax) s.flags.AF) _
    exact ⟨st, n, hc, ha, run_of_ok hl ((unpackedAdjust_apply 6#8 1#8 s).trans h)⟩
  case aas =>
    have hr := unpackedAdjust_apply (-6#8) (-1#8) s
    rw [add_ite_neg, add_ite_neg] at hr
    obtain ⟨st, n, hc, ha, h⟩ := putAdjusted_ok (adjustLow (s.reg .b .ax) s.flags.AF) _
    exact ⟨st, n, hc, ha, run_of_ok hl (hr.trans h)⟩
  case aamZero =>
    rintro rfl
    exact run_of_error hl (asciiAfterMul_zero s)
  case aam =>
    intro hk
    obtain ⟨st, n, hsf, hzf, hpf, h⟩ := putAlFlags_ok (s.reg .b .ax % k) _
    exact ⟨st, n, hsf, hzf, hpf, run_of_ok hl ((asciiAfterMul_of_ne_zero hk s).trans h)⟩
  case aad =>
    obtain ⟨st, n, hsf, hzf, hpf, h⟩ := putAlFlags_ok (s.reg .b .sp * k + s.reg .b .ax) _
    exact ⟨st, n, hsf, hzf, hpf, run_of_ok hl ((asciiBeforeDiv_apply k s).trans h)⟩

/-! ## Packed digits -/

/-- The packed form of a number: the units in the low half-byte, the tens above them (42_decimal_arithmetic.md R320). A number from
100 up loses what does not fit its byte, as the binary sum of two packed numbers does. -/
def packed (n : Nat) : BitVec 8 := BitVec.ofNat 8 (16 * (n / 10) + n % 10)

/-- Six makes good the half-byte that a decimal carry leaves short of sixteen. -/
theorem packed_add (x y : Nat) : packed x + packed y + (if 10 ≤ x % 10 + y % 10 then 6#8 else 0#8) = packed (x + y) := by
  have hn : 16 * (x / 10) + x % 10 + (16 * (y / 10) + y % 10) + (if 10 ≤ x % 10 + y % 10 then 6 else 0) =
      16 * ((x + y) / 10) + (x + y) % 10 := by
    split <;> omega
  rw [packed, packed, packed, ← hn]
  simp only [BitVec.ofNat_add, apply_ite (BitVec.ofNat 8)]

/-- A packed number and the same number without its hundred differ by sixteen times ten, which 60H completes to 100H. -/
theorem packed_add_hundred (n : Nat) : packed (n + 100) + 0x60#8 = packed n := by
  have hn : 16 * ((n + 100) / 10) + (n + 100) % 10 = 16 * (n / 10) + n % 10 + 160 := by omega
  rw [packed, hn, BitVec.ofNat_add, BitVec.add_assoc]
  exact BitVec.add_zero _

/-- The digits of the difference are those that the sum puts on top of `y`. -/
theorem packed_sub (y z : Nat) : packed (y + z) - packed y - (if (y + z) % 10 < y % 10 then 6#8 else 0#8) = packed z := by
  have hc : (y + z) % 10 < y % 10 ↔ 10 ≤ y % 10 + z % 10 := by omega
  simp only [hc]
  rw [← packed_add y z]
  ring

theorem toNat_packed {n : Nat} (h : n < 100) : (packed n).toNat = 16 * (n / 10) + n % 10 := by
  rw [packed, BitVec.toNat_ofNat]
  omega

/-- A code of digit sums needs 60H exactly when the digits make a hundred. -/
theorem adjusted_iff_hundred {tens units : Nat} (ht : tens ≤ 18) (hu : units ≤ 18) :
    0x99 < (16 * tens + units) % 256 ∨ 256 ≤ 16 * tens + units ↔ 100 ≤ 10 * tens + units := by
  omega

section
variable {x y : Nat} (hx : x < 100) (hy : y < 100)
include hx hy

/-! DAA after the binary sum -/

/-- The low half-byte of a packed sum is adjusted exactly when the low digits carry. -/
theorem adjustLow_packed_add : adjustLow (addFlags (packed x) (packed y) false).1 (addFlags (packed x) (packed y) false).2.AF =
    decide (10 ≤ x % 10 + y % 10) := by
  rw [Bool.eq_iff_iff, adjustLow, Bool.or_eq_true, addFlags_AF, addFlags_result_false, BitVec.toNat_add, toNat_packed hx,
    toNat_packed hy, decide_eq_true_iff, decide_eq_true_iff, Bool.toNat_false]
  omega

/-- The high half-byte of a packed sum is adjusted exactly when the sum has a third digit. -/
theorem adjustHigh_packed_add : adjustHigh (addFlags (packed x) (packed y) false).1 (addFlags (packed x) (packed y) false).2.CF =
    decide (100 ≤ x + y) := by
  rw [Bool.eq_iff_iff, adjustHigh, Bool.or_eq_true, addFlags_CF, addFlags_result_false, BitVec.toNat_add, toNat_packed hx,
    toNat_packed hy, decide_eq_true_iff, decide_eq_true_iff, Bool.toNat_false]
  have hsum : x + y = 10 * (x / 10 + y / 10) + (x % 10 + y % 10) := by omega
  have hcode : 16 * (x / 10) + x % 10 + (16 * (y / 10) + y % 10) = 16 * (x / 10 + y / 10) + (x % 10 + y % 10) := by omega
  rw [hcode, hsum]
  exact adjusted_iff_hundred (by omega) (by omega)

theorem daaResult_packed : daaResult (addFlags (packed x) (packed y) false).1 (addFlags (packed x) (packed y) false).2.AF
    (addFlags (packed x) (packed y) false).2.CF =
      (packed ((x + y) % 100), decide (10 ≤ x % 10 + y % 10), decide (100 ≤ x + y)) := by
  rw [daaResult_eq, adjustLow_packed_add hx hy, adjustHigh_packed_add hx hy, addFlags_result_false]
  simp only [decide_eq_true_iff, packed_add]
  split
  case isTrue h =>
    obtain ⟨n, hn⟩ := Nat.exists_eq_add_of_le' h
    rw [hn, packed_add_hundred, Nat.add_mod_right, Nat.mod_eq_of_lt (show n < 100 by omega)]
  case isFalse h => rw [BitVec.add_zero, Nat.mod_eq_of_lt (Nat.lt_of_not_le h)]

/-! DAS after the binary difference -/

theorem toNat_packed_lt : (packed x).toNat < (packed y).toNat ↔ x < y := by
  rw [toNat_packed hx, toNat_packed hy]
  omega

/-- The low half-byte of a packed difference is adjusted exactly when the low digits borrow. -/
theorem adjustLow_packed_sub : adjustLow (subFlags (packed x) (packed y) false).1 (subFlags (packed x) (packed y) false).2.AF =
    decide (x % 10 < y % 10) := by
  rw [Bool.eq_iff_iff, adjustLow, Bool.or_eq_true, subFlags_AF, subFlags_result_false, BitVec.toNat_sub, toNat_packed hx,
    toNat_packed hy, decide_eq_true_iff, decide_eq_true_iff, Bool.toNat_false]
  omega

/-- The high half-byte of a packed difference is adjusted exactly when the difference is negative. -/
theorem adjustHigh_packed_sub : adjustHigh (subFlags (packed x) (packed y) false).1 (subFlags (packed x) (packed y) false).2.CF =
    decide (x < y) := by
  have hmax : (packed x).toNat ≤ 0x99 := by
    rw [toNat_packed hx]
    omega
  rw [Bool.eq_iff_iff, adjustHigh, Bool.or_eq_true, subFlags_CF, subFlags_result_false, BitVec.toNat_sub, decide_eq_true_iff,
    decide_eq_true_iff, ← toNat_packed_lt hx hy, Bool.toNat_false]
  omega

/-- After a borrow of the low digits the low half-byte is at least 7: DAS sets no CF besides that of the high half-byte. -/
theorem toNat_packed_sub_ge (hlow : x % 10 < y % 10) : 7 ≤ (packed x - packed y).toNat := by
  rw [BitVec.toNat_sub, toNat_packed hx, toNat_packed hy]
  omega

theorem dasResult_packed : dasResult (subFlags (packed x) (packed y) false).1 (subFlags (packed x) (packed y) false).2.AF
    (subFlags (packed x) (packed y) false).2.CF =
      (packed ((100 + x - y) % 100), decide (x % 10 < y % 10), decide (x < y)) := by
  have hcf : (decide (x % 10 < y % 10) && decide ((packed x - packed y).toNat < 6)) = false := by
    have hge := toNat_packed_sub_ge hx hy
    simp only [Bool.and_eq_false_imp, decide_eq_true_iff, decide_eq_false_iff_not]
    omega
  rw [dasResult_eq, adjustLow_packed_sub hx hy, adjustHigh_packed_sub hx hy, subFlags_result_false, hcf, Bool.or_false]
  simp only [decide_eq_true_iff]
  by_cases h : x < y
  case pos =>
    obtain ⟨z, hz⟩ := Nat.exists_eq_add_of_le (show y ≤ x + 100 by omega)
    have hsub := packed_sub y z
    rw [← hz, show (x + 100) % 10 = x % 10 by omega] at hsub
    have hval : packed x - packed y - (if x % 10 < y % 10 then 6#8 else 0#8) - 0x60#8 = packed z := by
      rw [← packed_add_hundred x, ← hsub]
      ring
    rw [if_pos h, hval, show (100 + x - y) % 100 = z by omega]
  case neg =>
    obtain ⟨z, rfl⟩ := Nat.exists_eq_add_of_le (Nat.le_of_not_lt h)
    rw [if_neg h, BitVec.sub_zero, packed_sub, show (100 + (y + z) - y) % 100 = z by omega]

end

/-- Settles O12: each adjustment makes good the carry or borrow of one decimal digit. -/
theorem packedDecimalIsCorrect : Obligations.PackedDecimalIsCorrect := by
  intro x y bcd add sub
  have hadd := daaResult_packed x.isLt y.isLt
  have hsub := dasResult_packed x.isLt y.isLt
  exact ⟨congrArg (·.1) hadd, congrArg (·.2.2) hadd, congrArg (·.1) hsub, congrArg (·.2.2) hsub⟩

end Sys2Proof.Machine
end

section
/-! The single-bit steps of shifts and rotates in closed form (43_logical_shift_bit.md R344 to R346, R350 to R353). -/
namespace Sys2Proof.Machine

theorem one_lt_bits (sz : Size) : 1 < sz.bits := by cases sz <;> decide

/-- The last of `n + 1` steps comes after the first `n`: a closed form goes by induction on the steps made. -/
theorem ShiftOp.steps_succ (op : ShiftOp) {w : Nat} (n : Nat) (v : BitVec w) (cf : Bool) :
    op.steps (n + 1) v cf = op.step (op.steps n v cf).1 (op.steps n v cf).2 := by
  induction n generalizing v cf with
  | zero => rfl
  | succ n ih => exact ih ..

/-! ## The bits of one step -/

section
variable {w : Nat}

/-- A bit enters at the low end. -/
theorem getLsbD_shiftLeft_or_low (v : BitVec w) (b : Bool) {i : Nat} (hi : i < w) :
    (v <<< 1 ||| if b then 1#w else 0#w).getLsbD i = if i = 0 then b else v.getLsbD (i - 1) := by
  have hlow : (if b then 1#w else 0#w).getLsbD i = (b && decide (i = 0)) := by
    cases b with
    | false => exact BitVec.getLsbD_zero
    | true => simp [show 0 < w by omega]
  rw [BitVec.getLsbD_or, BitVec.getLsbD_shiftLeft, hlow]
  by_cases h : i = 0
  case pos => simp [h]
  case neg => simp [h, hi]

/-- A bit enters at the high end. -/
theorem getLsbD_shiftRight_or_high (v : BitVec w) (b : Bool) (i : Nat) :
    (v >>> 1 ||| if b then BitVec.twoPow w (w - 1) else 0#w).getLsbD i = if i + 1 = w then b else v.getLsbD (i + 1) := by
  have hhigh : (if b then BitVec.twoPow w (w - 1) else 0#w).getLsbD i = (b && decide (i + 1 = w)) := by
    cases b with
    | false => exact BitVec.getLsbD_zero
    | true =>
      rw [if_pos rfl, BitVec.getLsbD_twoPow, Bool.true_and, ← Bool.decide_and, decide_eq_decide]
      omega
  rw [BitVec.getLsbD_or, BitVec.getLsbD_ushiftRight, hhigh, Nat.add_comm 1 i]
  by_cases h : i + 1 = w
  case pos => simp [h]
  case neg => simp [h]

theorem getLsbD_rotateLeft_one (hw : 1 < w) (x : BitVec w) {i : Nat} (hi : i < w) :
    (x.rotateLeft 1).getLsbD i = if i = 0 then x.msb else x.getLsbD (i - 1) := by
  rw [BitVec.getLsbD_rotateLeft_of_le hw, BitVec.msb_eq_getLsbD_last]
  by_cases h : i = 0
  case pos => simp [h]
  case neg => simp [h, hi]

theorem getLsbD_rotateRight_one (hw : 1 < w) (x : BitVec w) {i : Nat} (hi : i < w) :
    (x.rotateRight 1).getLsbD i = if i + 1 = w then x.getLsbD 0 else x.getLsbD (i + 1) := by
  rw [BitVec.getLsbD_rotateRight_of_lt hw, Nat.add_comm 1 i]
  by_cases h : i + 1 = w
  case pos =>
    subst h
    simp
  case neg => simp [h, show i < w - 1 by omega]

/-! ## One step as a shift or a rotation by one -/

theorem step_sar (v : BitVec w) (cf : Bool) : (ShiftOp.sar.step v cf).1 = v.sshiftRight 1 := by
  refine BitVec.eq_of_getLsbD_eq fun i hi => ?_
  rw [BitVec.getLsbD_sshiftRight]
  refine (getLsbD_shiftRight_or_high v v.msb i).trans ?_
  by_cases h : i + 1 = w
  case pos => simp [h, hi, Nat.add_comm 1 i]
  case neg => simp [h, hi, Nat.add_comm 1 i, show i + 1 < w by omega]

theorem step_rol (hw : 1 < w) (v : BitVec w) (cf : Bool) : (ShiftOp.rol.step v cf).1 = v.rotateLeft 1 :=
  BitVec.eq_of_getLsbD_eq fun _ hi =>
    (getLsbD_shiftLeft_or_low v v.msb hi).trans (getLsbD_rotateLeft_one hw v hi).symm

theorem step_ror (hw : 1 < w) (v : BitVec w) (cf : Bool) : (ShiftOp.ror.step v cf).1 = v.rotateRight 1 :=
  BitVec.eq_of_getLsbD_eq fun i hi =>
    (getLsbD_shiftRight_or_high v (v.getLsbD 0) i).trans (getLsbD_rotateRight_one hw v hi).symm

/-- CF above the operand: the value RCL and RCR rotate (R352, R353). -/
def carried (r : BitVec w × Bool) : BitVec (1 + w) := BitVec.ofBool r.2 ++ r.1

theorem getLsbD_carried_of_lt (r : BitVec w × Bool) {i : Nat} (hi : i < w) : (carried r).getLsbD i = r.1.getLsbD i := by
  rw [carried, BitVec.getLsbD_append, if_pos hi]

theorem getLsbD_carried_top (r : BitVec w × Bool) : (carried r).getLsbD w = r.2 := by
  rw [carried, BitVec.getLsbD_append, if_neg (Nat.lt_irrefl w), Nat.sub_self]
  exact BitVec.getLsbD_ofBool ..

theorem carried_step_rcl (hw : 0 < w) (v : BitVec w) (cf : Bool) :
    carried (ShiftOp.rcl.step v cf) = (carried (v, cf)).rotateLeft 1 := by
  refine BitVec.eq_of_getLsbD_eq fun i hi => ?_
  have hmsb : (carried (v, cf)).msb = cf := by
    rw [BitVec.msb_eq_getLsbD_last, Nat.add_sub_cancel_left, getLsbD_carried_top]
  rw [getLsbD_rotateLeft_one (by omega) _ hi, hmsb]
  by_cases h : i < w
  case pos =>
    rw [getLsbD_carried_of_lt _ h, getLsbD_carried_of_lt _ (by omega)]
    exact getLsbD_shiftLeft_or_low v cf h
  case neg =>
    obtain rfl : i = w := by omega
    rw [getLsbD_carried_top, if_neg (by omega), getLsbD_carried_of_lt _ (by omega)]
    exact BitVec.msb_eq_getLsbD_last v

theorem carried_step_rcr (hw : 0 < w) (v : BitVec w) (cf : Bool) :
    carried (ShiftOp.rcr.step v cf) = (carried (v, cf)).rotateRight 1 := by
  refine BitVec.eq_of_getLsbD_eq fun i hi => ?_
  rw [getLsbD_rotateRight_one (by omega) _ hi]
  by_cases h : i < w
  case pos =>
    rw [getLsbD_carried_of_lt _ h, if_neg (by omega)]
    refine (getLsbD_shiftRight_or_high v cf i).trans ?_
    split
    case isTrue h1 => rw [h1, getLsbD_carried_top]
    case isFalse h1 => rw [getLsbD_carried_of_lt _ (by omega)]
  case neg =>
    obtain rfl : i = w := by omega
    rw [getLsbD_carried_top, if_pos (by omega), getLsbD_carried_of_lt _ hw]
    rfl

/-! ## Rotations add up -/

theorem rotateLeft_zero (x : BitVec w) : x.rotateLeft 0 = x := by
  rw [BitVec.rotateLeft_def, Nat.zero_mod, Nat.sub_zero, BitVec.shiftLeft_zero, BitVec.ushiftRight_eq_zero (Nat.le_refl w),
    BitVec.or_zero]

theorem rotateRight_zero (x : BitVec w) : x.rotateRight 0 = x := by
  simp [BitVec.rotateRight_def]

theorem rotateLeft_rotateLeft (x : BitVec w) (m n : Nat) : (x.rotateLeft m).rotateLeft n = x.rotateLeft (m + n) := by
  refine BitVec.eq_of_getMsbD_eq fun i hi => ?_
  have hlt : (n + i) % w < w := Nat.mod_lt _ (by omega)
  simp [BitVec.getMsbD_rotateLeft, hi, hlt, Nat.add_assoc]

theorem getLsbD_rotateRight_mod (x : BitVec w) (n : Nat) {i : Nat} (hi : i < w) :
    (x.rotateRight n).getLsbD i = x.getLsbD ((n + i) % w) := by
  have hlt : n % w < w := Nat.mod_lt _ (by omega)
  rw [BitVec.getLsbD_rotateRight, ← Nat.mod_add_mod]
  by_cases h : i < w - n % w
  case pos => simp [h, Nat.mod_eq_of_lt (show n % w + i < w by omega)]
  case neg =>
    have hmod : (n % w + i) % w = i - (w - n % w) := by
      rw [Nat.mod_eq_sub_mod (by omega), Nat.mod_eq_of_lt (by omega)]
      omega
    simp [h, hi, hmod]

theorem rotateRight_rotateRight (x : BitVec w) (m n : Nat) : (x.rotateRight m).rotateRight n = x.rotateRight (m + n) := by
  refine BitVec.eq_of_getLsbD_eq fun i hi => ?_
  have hlt : (n + i) % w < w := Nat.mod_lt _ (by omega)
  rw [getLsbD_rotateRight_mod _ _ hi, getLsbD_rotateRight_mod _ _ hlt, getLsbD_rotateRight_mod _ _ hi, Nat.add_mod_mod,
    Nat.add_assoc]

/-! ## Any number of steps -/

variable (v : BitVec w) (cf : Bool) (n : Nat)

theorem steps_shl_value : (ShiftOp.shl.steps n v cf).1 = v <<< n := by
  induction n with
  | zero => exact (BitVec.shiftLeft_zero v).symm
  | succ n ih =>
    rw [ShiftOp.steps_succ, BitVec.shiftLeft_add, ← ih]
    rfl

theorem steps_shr_value : (ShiftOp.shr.steps n v cf).1 = v >>> n := by
  induction n with
  | zero => exact (BitVec.ushiftRight_zero v).symm
  | succ n ih =>
    rw [ShiftOp.steps_succ, BitVec.shiftRight_add, ← ih]
    rfl

theorem steps_sar_value : (ShiftOp.sar.steps n v cf).1 = v.sshiftRight n := by
  induction n with
  | zero => exact BitVec.sshiftRight_zero.symm
  | succ n ih => rw [ShiftOp.steps_succ, step_sar, ih, BitVec.sshiftRight_add]

theorem steps_rol_value (hw : 1 < w) : (ShiftOp.rol.steps n v cf).1 = v.rotateLeft n := by
  induction n with
  | zero => exact (rotateLeft_zero _).symm
  | succ n ih => rw [ShiftOp.steps_succ, step_rol hw, ih, rotateLeft_rotateLeft]

theorem steps_ror_value (hw : 1 < w) : (ShiftOp.ror.steps n v cf).1 = v.rotateRight n := by
  induction n with
  | zero => exact (rotateRight_zero _).symm
  | succ n ih => rw [ShiftOp.steps_succ, step_ror hw, ih, rotateRight_rotateRight]

theorem carried_steps_rcl (hw : 0 < w) : carried (ShiftOp.rcl.steps n v cf) = (carried (v, cf)).rotateLeft n := by
  induction n with
  | zero => exact (rotateLeft_zero _).symm
  | succ n ih => rw [ShiftOp.steps_succ, carried_step_rcl hw, ih, rotateLeft_rotateLeft]

theorem carried_steps_rcr (hw : 0 < w) : carried (ShiftOp.rcr.steps n v cf) = (carried (v, cf)).rotateRight n := by
  induction n with
  | zero => exact (rotateRight_zero _).symm
  | succ n ih => rw [ShiftOp.steps_succ, carried_step_rcr hw, ih, rotateRight_rotateRight]

/-! ## The last bit moved out -/

theorem steps_shl_carry : (ShiftOp.shl.steps (n + 1) v cf).2 = (decide (n + 1 ≤ w) && v.getLsbD (w - (n + 1))) := by
  have hlast : (ShiftOp.shl.steps (n + 1) v cf).2 = (v <<< n).msb := by
    rw [ShiftOp.steps_succ, ← steps_shl_value v cf]
    rfl
  rw [hlast, BitVec.msb_shiftLeft, BitVec.getMsbD_eq_getLsbD, Nat.sub_sub, Nat.add_comm 1 n]
  rfl

theorem steps_shr_carry : (ShiftOp.shr.steps (n + 1) v cf).2 = v.getLsbD n := by
  have hlast : (ShiftOp.shr.steps (n + 1) v cf).2 = (v >>> n).getLsbD 0 := by
    rw [ShiftOp.steps_succ, ← steps_shr_value v cf]
    rfl
  rw [hlast, BitVec.getLsbD_ushiftRight, Nat.add_zero]

theorem steps_sar_carry (hw : 0 < w) : (ShiftOp.sar.steps (n + 1) v cf).2 = if n + 1 ≤ w then v.getLsbD n else v.msb := by
  have hlast : (ShiftOp.sar.steps (n + 1) v cf).2 = (v.sshiftRight n).getLsbD 0 := by
    rw [ShiftOp.steps_succ, ← steps_sar_value v cf]
    rfl
  have hnot : (!decide (w ≤ 0)) = true := by rw [decide_eq_false (Nat.not_le.2 hw), Bool.not_false]
  rw [hlast, BitVec.getLsbD_sshiftRight, hnot, Bool.true_and]
  rfl

theorem steps_rol_carry (hw : 0 < w) : (ShiftOp.rol.steps (n + 1) v cf).2 = (ShiftOp.rol.steps (n + 1) v cf).1.getLsbD 0 := by
  rw [ShiftOp.steps_succ]
  exact (getLsbD_shiftLeft_or_low _ _ hw).symm

theorem steps_ror_carry (hw : 0 < w) : (ShiftOp.ror.steps (n + 1) v cf).2 = (ShiftOp.ror.steps (n + 1) v cf).1.msb := by
  rw [ShiftOp.steps_succ, BitVec.msb_eq_getLsbD_last]
  exact ((getLsbD_shiftRight_or_high ..).trans (if_pos (by omega))).symm

end

/-- Settles O20. -/
theorem shiftsInClosedForm : Obligations.ShiftsInClosedForm := by
  refine ⟨fun sz v cf c hc => ?_, fun sz v cf c => ?_⟩
  · obtain ⟨n, rfl⟩ := Nat.exists_eq_add_one.2 hc
    exact ⟨Prod.ext (steps_shl_value ..) (steps_shl_carry ..),
      Prod.ext (steps_shr_value ..) (steps_shr_carry ..), Prod.ext (steps_sar_value ..) (steps_sar_carry _ _ _ (bits_pos sz))⟩
  · have hpos := bits_pos sz
    have hw := one_lt_bits sz
    have hrol := steps_rol_value v cf c hw
    have hror := steps_ror_value v cf c hw
    refine ⟨hrol, hror, carried_steps_rcl v cf c hpos, carried_steps_rcr v cf c hpos, fun hc => ?_⟩
    obtain ⟨n, rfl⟩ := Nat.exists_eq_add_one.2 hc
    rw [← hrol, ← hror]
    exact ⟨steps_rol_carry v cf n hpos, steps_ror_carry v cf n hpos⟩

end Sys2Proof.Machine
end

section
/-! Shifts and rotates of an operand, SHLD and SHRD (43_logical_shift_bit.md R343 to R353). -/
namespace Sys2Proof.Machine

/-! ## The seven shifts and rotates -/

theorem exec_shiftForm {s : State} {i : Instr} {f : ShiftForm} (h : shiftForm s i = some f) :
    exec i s = run (shiftBy f.op f.sz f.rm f.count) s := by
  cases i with
  | rolEbIb | rolEvIb | rolEb1 | rolEv1 | rorEbIb | rorEvIb | rorEb1 | rorEv1 | rclEbIb | rclEvIb | rclEb1 | rclEv1 | rcrEbIb
  | rcrEvIb | rcrEb1 | rcrEv1 | shlEbIb | shlEvIb | shlEb1 | shlEv1 | shrEbIb | shrEvIb | shrEb1 | shrEv1 | sarEbIb | sarEvIb
  | sarEb1 | sarEv1 =>
    cases h
    rfl
  | rolEbCl | rolEvCl | rorEbCl | rorEvCl | rclEbCl | rclEvCl | rcrEbCl | rcrEvCl | shlEbCl | shlEvCl | shrEbCl | shrEvCl
  | sarEbCl | sarEvCl =>
    cases h
    exact run_congr rfl
  | _ => cases h

/-- OF is the change of the sign bit after one step and drawn after more; AF is drawn for a shift (R344, R349). -/
theorem putShiftFlags_ok (op : ShiftOp) {w : Nat} (c : Nat) (v : BitVec w) (r : BitVec w × Bool) (s : State) : ∃ af of n,
    putShiftFlags op c v r s = .ok () { s.drawn n with flags := op.flags c v r af of s.flags } := by
  unfold putShiftFlags ShiftOp.flags
  by_cases h : c = 1
  case pos =>
    simp only [if_pos h]
    cases op.isShift with
    | true => exact ⟨_, false, _, rfl⟩
    | false => exact ⟨false, false, s.draws, rfl⟩
  case neg =>
    simp only [if_neg h]
    cases op.isShift with
    | true => exact ⟨_, _, _, rfl⟩
    | false => exact ⟨false, _, _, rfl⟩

theorem shiftBy_zero {count : BitVec 8} (h : count.toNat % 32 = 0) (op : ShiftOp) (sz : Size) (rm : Rm) (s : State) :
    shiftBy op sz rm count s = .ok () s := by
  rw [shiftBy, if_apply, if_pos h, pure_apply]

theorem shiftBy_of_place {count : BitVec 8} {sz : Size} {rm : Rm} {s s1 : State} {p : Place} (hc : count.toNat % 32 ≠ 0)
    (hp : place sz rm true s = .ok p s1) (op : ShiftOp) :
    let v := s1.valueAt sz p
    let r := op.steps (count.toNat % 32) v s1.flags.CF
    ∃ af of n, shiftBy op sz rm count s =
      .ok () ({ s1.drawn n with flags := op.flags (count.toNat % 32) v r af of s1.flags }.putAt sz p r.1) := by
  intro v r
  obtain ⟨af, of, n, hf⟩ := putShiftFlags_ok op (count.toNat % 32) v r s1
  refine ⟨af, of, n, ?_⟩
  rw [shiftBy, if_apply, if_neg hc]
  exact modifyRm_of_place hp (bind_of_ok hf)

/-- Settles O19. -/
theorem shiftsAndRotates : Obligations.ShiftsAndRotates := by
  intro i s f hf hl c
  refine ⟨fun hc => ?_, fun p s1 hc hp => ?_⟩
  · rw [exec_shiftForm hf, run_of_ok hl (shiftBy_zero hc ..)]
  · obtain ⟨af, of, n, h⟩ := shiftBy_of_place hc hp f.op
    refine ⟨af, of, n, ?_, sameBytes_finished _ (State.sameBytes_putAt { s1.drawn n with flags := _ } _ _ _)⟩
    rw [exec_shiftForm hf, run_of_ok hl h]

/-! ## SHLD and SHRD -/

/-- Result and CF of a double shift. -/
def doubleResult (right : Bool) {w : Nat} (d x : BitVec w) (c : Nat) : BitVec w × Bool :=
  if right then shrdResult d x c else shldResult d x c

theorem exec_doubleForm {s : State} {i : Instr} {f : DoubleForm} (h : doubleForm s i = some f) :
    exec i s = run (doubleShift (doubleResult f.right) s.osz f.rm f.r f.count) s := by
  cases i with
  | shldEvGvIb | shrdEvGvIb =>
    cases h
    rfl
  | shldEvGvCl | shrdEvGvCl =>
    cases h
    exact run_congr rfl
  | _ => cases h

theorem doubleResult_carry (right : Bool) {w : Nat} (d x : BitVec w) (c : Nat) :
    (doubleResult right d x c).2 = d.getLsbD (if right then c - 1 else w - c) := by
  cases right <;> rfl

/-- Up to the width, the bits that come in are the source's next to the destination (R347, R348). -/
theorem doubleResult_value (right : Bool) {w : Nat} (d x : BitVec w) {c : Nat} (hc : c ≤ w) :
    (doubleResult right d x c).1 = doubleValue right d x c := by
  refine BitVec.eq_of_getLsbD_eq fun i hi => ?_
  cases right with
  | false =>
    show (d <<< c ||| x >>> (w - c)).getLsbD i = (((d ++ x) <<< c).extractLsb' w w).getLsbD i
    rw [BitVec.getLsbD_or, BitVec.getLsbD_shiftLeft, BitVec.getLsbD_ushiftRight, BitVec.getLsbD_extractLsb',
      BitVec.getLsbD_shiftLeft, BitVec.getLsbD_append]
    by_cases h : i < c
    case pos => simp [h, hi, show w + i < w + w by omega, show ¬ w + i < c by omega, show w + i - c < w by omega,
        show w - c + i = w + i - c by omega]
    case neg => simp [h, hi, show w + i < w + w by omega, show ¬ w + i < c by omega, show ¬ w + i - c < w by omega,
        show w + i - c - w = i - c by omega, BitVec.getLsbD_of_ge x (w - c + i) (by omega)]
  | true =>
    show (d >>> c ||| x <<< (w - c)).getLsbD i = (((x ++ d) >>> c).setWidth w).getLsbD i
    rw [BitVec.getLsbD_or, BitVec.getLsbD_shiftLeft, BitVec.getLsbD_ushiftRight, BitVec.getLsbD_setWidth,
      BitVec.getLsbD_ushiftRight, BitVec.getLsbD_append]
    by_cases h : c + i < w
    case pos => simp [h, hi, show i < w - c by omega]
    case neg => simp [h, hi, show ¬ i < w - c by omega, show i - (w - c) = c + i - w by omega,
        BitVec.getLsbD_of_ge d (c + i) (by omega)]

theorem draw_ok (w : Nat) (s : State) : ∃ x n, draw w s = .ok x (s.drawn n) := ⟨_, _, draw_apply w s⟩

theorem doubleShift_zero {count : BitVec 8} (h : count.toNat % 32 = 0)
    (f : {w : Nat} → BitVec w → BitVec w → Nat → BitVec w × Bool) (sz : Size) (rm : Rm) (r : Reg) (s : State) :
    doubleShift f sz rm r count s = .ok () s := by
  rw [doubleShift, if_apply, if_pos h, pure_apply]

/-- The flags of a double shift up to the width: AF and OF are drawn (R347, R348). -/
def putDoubleFlags {w : Nat} (v : BitVec w × Bool) : M Unit := do
  let af ← drawBool
  let of ← drawBool
  putStatus { CF := v.2, PF := parityOf v.1, AF := af, ZF := zeroOf v.1, SF := signOf v.1, OF := of }

theorem putDoubleFlags_ok {w : Nat} (v : BitVec w × Bool) (s : State) : ∃ st n, st.CF = v.2 ∧ st.SF = v.1.msb ∧
    st.ZF = decide (v.1 = 0#w) ∧ st.PF = parityOf v.1 ∧ putDoubleFlags v s = .ok () ((s.drawn n).withStatus st) :=
  ⟨_, _, rfl, rfl, rfl, rfl, rfl⟩

section
variable {count : BitVec 8} {sz : Size} {rm : Rm} {s s1 : State} {p : Place}
  (hc : count.toNat % 32 ≠ 0) (hp : place sz rm true s = .ok p s1)
include hc hp

theorem doubleShift_above (hw : sz.bits < count.toNat % 32) (f : {w : Nat} → BitVec w → BitVec w → Nat → BitVec w × Bool)
    (r : Reg) : ∃ v st n, doubleShift f sz rm r count s = .ok () (((s1.drawn n).withStatus st).putAt sz p v) := by
  obtain ⟨x, d, hx⟩ := draw_ok sz.bits s1
  obtain ⟨st, n, h⟩ := undefStatus_ok (s1.drawn d)
  refine ⟨x, st, n, ?_⟩
  rw [doubleShift, if_apply, if_neg hc, bind_of_ok (getReg_apply ..)]
  refine modifyRm_of_place hp ?_
  rw [if_pos hw, bind_of_ok hx]
  exact bind_of_ok h

theorem doubleShift_upTo (hw : count.toNat % 32 ≤ sz.bits) (f : {w : Nat} → BitVec w → BitVec w → Nat → BitVec w × Bool)
    (r : Reg) :
    let v := f (s1.valueAt sz p) (s.reg sz r) (count.toNat % 32)
    ∃ st n, st.CF = v.2 ∧ st.SF = v.1.msb ∧ st.ZF = decide (v.1 = 0#sz.bits) ∧ st.PF = parityOf v.1 ∧
      doubleShift f sz rm r count s = .ok () (((s1.drawn n).withStatus st).putAt sz p v.1) := by
  intro v
  obtain ⟨st, n, hcf, hsf, hzf, hpf, h⟩ := putDoubleFlags_ok v s1
  refine ⟨st, n, hcf, hsf, hzf, hpf, ?_⟩
  rw [doubleShift, if_apply, if_neg hc, bind_of_ok (getReg_apply ..)]
  refine modifyRm_of_place hp ?_
  rw [if_neg (Nat.not_lt.2 hw)]
  exact bind_of_ok (f := fun _ => pure v.1) h

end

/-- Settles O21. -/
theorem doubleShifts : Obligations.DoubleShifts := by
  intro i s f hf hl c
  refine ⟨fun hc => ?_, fun p s1 hc hp => ?_⟩
  · rw [exec_doubleForm hf, run_of_ok hl (doubleShift_zero hc ..)]
  · have hframe (v : BitVec s.osz.bits) (st : Status) (n : Nat) :
        s1.sameBytes ((((s1.drawn n).withStatus st).putAt s.osz p v).finished .normal) p.bytes :=
      sameBytes_finished .normal (State.sameBytes_putAt ((s1.drawn n).withStatus st) s.osz p v)
    rw [exec_doubleForm hf]
    by_cases hw : c ≤ s.osz.bits
    case pos =>
      obtain ⟨st, n, hcf, hsf, hzf, hpf, h⟩ := doubleShift_upTo hc hp hw (doubleResult f.right) f.r
      exact ⟨_, st, n, fun _ => ⟨doubleResult_value _ _ _ hw, hcf.trans (doubleResult_carry ..), hsf, hzf, hpf⟩,
        run_of_ok hl h, hframe _ _ _⟩
    case neg =>
      obtain ⟨v, st, n, h⟩ := doubleShift_above hc hp (Nat.lt_of_not_le hw) (doubleResult f.right) f.r
      exact ⟨v, st, n, fun hle => absurd hle hw, run_of_ok hl h, hframe _ _ _⟩

end Sys2Proof.Machine
end

section
/-! BT, BTS, BTR, BTC on an operand and on a bit string, BSF and BSR (43_logical_shift_bit.md R336 to R342). -/
namespace Sys2Proof.Machine

/-! ## One bit of an operand -/

/-- A signed and an unsigned reading of an offset select the same bit of a register (R336). -/
theorem toInt_emod_bits (sz : Size) (x : BitVec sz.bits) : (x.toInt % sz.bits).toNat = x.toNat % sz.bits := by
  have hdvd : (sz.bits : Int) ∣ (2 ^ sz.bits : Nat) := by cases sz <;> decide
  have h : x.toInt % sz.bits = (x.toNat : Int) % sz.bits := by
    rw [← Int.emod_emod_of_dvd _ hdvd, BitVec.toInt_eq_toNat_bmod, Int.bmod_emod, Int.emod_emod_of_dvd _ hdvd]
  rw [h, ← Int.natCast_mod, Int.toNat_natCast]

/-- The operation replaces the selected bit and keeps every other one (R337 to R340). -/
theorem BitOp.getLsbD_apply (op : BitOp) {w : Nat} (v : BitVec w) (n : Nat) {k : Nat} (hk : k < w) :
    (op.apply v n).getLsbD k = if k = n then op.bit (v.getLsbD k) else v.getLsbD k := by
  by_cases h : k = n
  case pos =>
    subst h
    cases op <;> simp [BitOp.apply, BitOp.bit, hk]
  case neg => cases op <;> simp [BitOp.apply, hk, h]

/-- What the bit instructions do at a located operand: CF, and for all but BT the operand written. -/
theorem bitAt_ok (op : BitOp) (sz : Size) (p : Place) (n : Nat) (s : State) :
    ∃ st d, st.CF = (s.valueAt sz p).getLsbD n ∧ bitAt op sz p n s = .ok () (if op = .test then (s.drawn d).withStatus st
      else ((s.drawn d).withStatus st).putAt sz p (op.apply (s.valueAt sz p) n)) := by
  obtain ⟨st, d, hcf, h⟩ := putBitFlags_ok ((s.valueAt sz p).getLsbD n) s
  refine ⟨st, d, hcf, ?_⟩
  rw [bitAt, bind_of_ok (readPlace_apply ..), bind_of_ok h, if_apply, pure_apply, writePlace_apply, apply_ite (EStateM.Result.ok ())]

/-- What a bit instruction does whose bit lies in the operand itself. -/
def BitForm.apply (f : BitForm) (sz : Size) : M Unit := do
  let p ← place sz f.rm (f.op != .test)
  bitAt f.op sz p f.bitNo

theorem bitReg_reg (op : BitOp) (e r : Reg) (s : State) : bitReg op s.osz (.reg e) r s =
    BitForm.apply ⟨op, .reg e, (s.reg s.osz r).toNat % s.osz.bits⟩ s.osz s := by
  rw [← toInt_emod_bits]
  rfl

/-- LOCK may stand before a bit instruction that writes memory (30_encoding.md R224). -/
theorem exec_bitForm {s : State} {i : Instr} {f : BitForm} (h : bitForm s i = some f) :
    exec i s = runNormal (f.op != .test && isMem f.rm) (f.apply s.osz) s := by
  cases i with
  | btEvIb | btsEvIb | btrEvIb | btcEvIb =>
    cases h
    rfl
  | btEvGv rm | btsEvGv rm | btrEvGv rm | btcEvGv rm =>
    cases rm with
    | reg e =>
      cases h
      exact runNormal_congr (bitReg_reg ..)
    | mem => cases h
  | _ => cases h

/-! ## A bit string in memory -/

theorem exec_bitStringForm {s : State} {i : Instr} {op : BitOp} {m : Mem} {r : Reg} (h : bitStringForm i = some (op, m, r)) :
    exec i s = runNormal (op != .test) (bitReg op s.osz (.mem m) r) s := by
  cases i with
  | btEvGv rm | btsEvGv rm | btrEvGv rm | btcEvGv rm =>
    cases rm with
    | reg => cases h
    | mem =>
      cases h
      rfl
  | _ => cases h

/-- With a 16-bit address the unit's offset wraps at 64K (R336). -/
theorem bitUnit_a16 (g : Gpr) (sz : Size) (b : Base16) (d : BitVec 16) (o : Int) : bitUnit g sz (.a16 b d) o =
    ((memEa g (.a16 b d) + BitVec.ofInt 32 (sz.bytes * (o / sz.bits))).setWidth 16).setWidth 32 := by
  have hlow (x : BitVec 32) : x.extractLsb' 0 16 = x.setWidth 16 := (BitVec.setWidth_eq_extractLsb' (by decide)).symm
  rw [← hlow]
  rfl

theorem bitReg_mem {op : BitOp} {sz : Size} {m : Mem} {s s1 : State} {l : Loc} (r : Reg)
    (h : locate (s.memSeg m) (bitUnit s.gpr sz m (s.reg sz r).toInt) sz.bytes (op != .test) s = .ok l s1) :
    bitReg op sz (.mem m) r s = bitAt op sz (.mem l) ((s.reg sz r).toInt % sz.bits).toNat s1 := by
  rw [bitReg, bind_of_ok (getS_apply s)]
  exact bind_of_ok h

/-! ## Bit scans -/

section
variable {w : Nat} (v : BitVec w)

theorem lowestFrom_set {fuel n k : Nat} (hn : n ≤ k) (hk : k < n + fuel) (h : v.getLsbD k = true) :
    v.getLsbD (lowestFrom v fuel n) = true := by
  induction fuel generalizing n with
  | zero => omega
  | succ fuel ih =>
    rw [lowestFrom]
    split
    case isTrue hset => exact hset
    case isFalse hclear =>
      have hne : n ≠ k := fun e => hclear (e ▸ h)
      exact ih (by omega) (by omega)

theorem lowestFrom_least {fuel n k : Nat} (hn : n ≤ k) (hk : k < lowestFrom v fuel n) : v.getLsbD k = false := by
  induction fuel generalizing n with
  | zero => exact absurd hk (Nat.not_lt.2 hn)
  | succ fuel ih =>
    rw [lowestFrom] at hk
    split at hk
    case isTrue => omega
    case isFalse hclear =>
      obtain rfl | hlt := Nat.eq_or_lt_of_le hn
      · exact eq_false_of_ne_true hclear
      · exact ih hlt hk

theorem highestBelow_set {n k : Nat} (hk : k < n) (h : v.getLsbD k = true) : v.getLsbD (highestBelow v n) = true := by
  induction n with
  | zero => omega
  | succ n ih =>
    rw [highestBelow]
    split
    case isTrue hset => exact hset
    case isFalse hclear =>
      have hne : k ≠ n := fun e => hclear (e ▸ h)
      exact ih (by omega)

theorem highestBelow_greatest {n k : Nat} (hn : k < n) (hk : highestBelow v n < k) : v.getLsbD k = false := by
  induction n with
  | zero => omega
  | succ n ih =>
    rw [highestBelow] at hk
    split at hk
    case isTrue => omega
    case isFalse hclear =>
      obtain rfl | hlt := Nat.eq_or_lt_of_le (Nat.le_of_lt_succ hn)
      · exact eq_false_of_ne_true hclear
      · exact ih hlt hk

variable {v}

theorem exists_bit_of_ne_zero (h : v ≠ 0#w) : ∃ k, k < w ∧ v.getLsbD k = true := by
  by_contra hnone
  push Not at hnone
  refine h (BitVec.eq_of_getLsbD_eq fun i hi => ?_)
  rw [BitVec.getLsbD_zero]
  exact eq_false_of_ne_true (hnone i hi)

theorem bsfIndex_set (h : v ≠ 0#w) : v.getLsbD (bsfIndex v) = true := by
  obtain ⟨k, hk, hset⟩ := exists_bit_of_ne_zero h
  exact lowestFrom_set v (Nat.zero_le k) (by omega) hset

theorem bsfIndex_least {k : Nat} (hk : k < bsfIndex v) : v.getLsbD k = false := lowestFrom_least v (Nat.zero_le k) hk

theorem bsrIndex_set (h : v ≠ 0#w) : v.getLsbD (bsrIndex v) = true := by
  obtain ⟨k, hk, hset⟩ := exists_bit_of_ne_zero h
  exact highestBelow_set v hk hset

theorem bsrIndex_greatest {k : Nat} (hk : bsrIndex v < k) : v.getLsbD k = false := by
  by_cases h : k < w
  case pos => exact highestBelow_greatest v h hk
  case neg => exact BitVec.getLsbD_of_ge v k (Nat.le_of_not_lt h)

end

/-- A scan writes the index its source has, a free value when the source has none. -/
theorem bitScan_of_place {sz : Size} {rm : Rm} {s s1 : State} {p : Place} (hp : place sz rm false s = .ok p s1)
    {index : {w : Nat} → BitVec w → Nat} (hset : ∀ {w : Nat} {v : BitVec w}, v ≠ 0#w → v.getLsbD (index v) = true) (r : Reg) :
    let v := s1.valueAt sz p
    ∃ (x : BitVec sz.bits) (st : Status) (n : Nat), st.ZF = decide (v = 0#sz.bits) ∧ (v ≠ 0#sz.bits → x.toNat = index v) ∧
      bitScan index sz r rm s = .ok () (((s1.drawn n).setReg sz r x).withStatus st) := by
  intro v
  rw [bitScan, bind_of_ok (readRm_of_place hp), if_apply]
  by_cases h : v = 0#sz.bits
  case pos =>
    obtain ⟨x, d, hx⟩ := draw_ok sz.bits s1
    obtain ⟨st, n, hzf, hf⟩ := putScanFlags_ok true ((s1.drawn d).setReg sz r x)
    refine ⟨x, st, n, hzf.trans (decide_eq_true h).symm, fun hne => absurd h hne, ?_⟩
    rw [if_pos h, bind_of_ok hx, bind_of_ok (putReg_apply ..)]
    exact hf
  case neg =>
    obtain ⟨st, n, hzf, hf⟩ := putScanFlags_ok false (s1.setReg sz r (BitVec.ofNat sz.bits (index v)))
    have hlt : index v < 2 ^ sz.bits := (BitVec.lt_of_getLsbD (hset h)).trans Nat.lt_two_pow_self
    refine ⟨_, st, n, hzf.trans (decide_eq_false h).symm, fun _ => (BitVec.toNat_ofNat ..).trans (Nat.mod_eq_of_lt hlt), ?_⟩
    rw [if_neg h, bind_of_ok (putReg_apply ..)]
    exact hf

/-- Settles O22. -/
theorem bitTestsAndScans : Obligations.BitTestsAndScans := by
  refine ⟨fun i s s1 f p hf hl hp => ?operand, fun i s s1 op m r l hf hl => ?string,
    fun s s1 r rm p hl hp => ⟨?bsf, ?bsr⟩⟩
  case operand =>
    obtain ⟨st, n, hcf, h⟩ := bitAt_ok f.op s.osz p f.bitNo s1
    refine ⟨_, st, n, hcf, fun k hk => f.op.getLsbD_apply _ _ hk, ?_⟩
    rw [exec_bitForm hf]
    refine runNormal_of_ok ?_ ((bind_of_ok hp).trans h)
    split at hl
    case isTrue => exact .inl hl
    case isFalse ht =>
      rw [bne_iff_ne.2 ht, Bool.true_and]
      exact (lockOk_iff s f.rm).1 hl
  case string =>
    intro o k off hloc
    obtain ⟨st, n, hcf, h⟩ := bitAt_ok op s.osz (.mem l) k s1
    refine ⟨_, st, n, hcf, fun j hj => op.getLsbD_apply _ _ hj, ?_⟩
    rw [exec_bitStringForm hf]
    refine runNormal_of_ok ?_ ((bitReg_mem r ?_).trans h)
    · by_cases ht : op = .test
      case pos => exact .inl (hl ht)
      case neg => exact .inr (bne_iff_ne.2 ht)
    · cases m with
      | a32 => exact hloc
      | a16 =>
        rw [bitUnit_a16]
        exact hloc
  case bsf =>
    obtain ⟨x, st, n, hzf, hx, h⟩ := bitScan_of_place hp bsfIndex_set r
    refine ⟨x, st, n, hzf, fun hv => ?_, run_of_ok hl h⟩
    rw [hx hv]
    exact ⟨bsfIndex_set hv, fun k => bsfIndex_least⟩
  case bsr =>
    obtain ⟨x, st, n, hzf, hx, h⟩ := bitScan_of_place hp bsrIndex_set r
    refine ⟨x, st, n, hzf, fun hv => ?_, run_of_ok hl h⟩
    rw [hx hv]
    exact ⟨bsrIndex_set hv, fun k => bsrIndex_greatest⟩

end Sys2Proof.Machine
end

section
/-! Near control transfer: JMP, Jcc, JCXZ, the loops, CALL and RET (44_control_transfer.md R370 to R374, R380 to R384). -/
namespace Sys2Proof.Machine

/-- An instruction that either goes through or stops at a check of its own: its step is completed, or the exception is taken. -/
theorem run_of_checked {body : M Unit} {s s1 t : State} {c : Prop} [Decidable c] {v : BitVec 8} {e : ErrCode} (hl : s.pfx.lock = false)
    (h : body s = if c then .ok () t else .error (.exc ⟨v, e⟩) s1) :
    run body s = if c then .next (t.finished .normal) else s.takes s1 v e := by
  split at h
  case isTrue hc => rw [run_of_ok hl h, if_pos hc]
  case isFalse hc => rw [run_of_error hl h, outcomeOf_exc, if_neg hc]

/-! ## Targets after an operand was located -/

theorem Touched.eipNext {s t : State} (h : Touched s t) : t.eipNext = s.eipNext := by
  obtain ⟨_, _, _, _, _, _, _, rfl⟩ := h
  rfl

theorem Touched.nearOffset {s t : State} (h : Touched s t) (off : BitVec 32) : t.nearOffset off = s.nearOffset off := by
  rw [State.nearOffset, State.nearOffset, h.attrs]

theorem Touched.inCode {s t : State} (h : Touched s t) (off : BitVec 32) : t.inCode off = s.inCode off := by
  rw [State.inCode, State.inCode, h.seg]

/-- What follows the check of a target is done at the masked target, or not at all (R370). -/
theorem nearTarget_bind {α : Type} (t : BitVec 32) (k : BitVec 32 → M α) (s : State) :
    (nearTarget t >>= k) s =
      if s.inCode (s.nearOffset t) then k (s.nearOffset t) s else .error (.exc ⟨vGP, .sel 0#16⟩) s := by
  rw [bind_apply, nearTarget_apply]
  by_cases hc : s.inCode (s.nearOffset t) = true
  case pos => rw [if_pos hc, if_pos hc]
  case neg => rw [if_neg hc, if_neg hc]

/-- The target is checked against the machine as the instruction found it, whatever locating its operand touched. -/
theorem nearTarget_of_inCode {s s1 : State} {t : BitVec 32} (ht : Touched s s1) (hc : s.inCode (s.nearOffset t) = true) :
    nearTarget t s1 = .ok (s.nearOffset t) s1 := by
  rw [nearTarget_apply, ht.nearOffset, ht.inCode, if_pos hc]

/-- A displacement of the operand size, sign-extended (R371). -/
theorem relV_eq (s : State) (d : BitVec 32) :
    s.relV d = s.eipNext + (if s.attrs.o32 then d else (d.setWidth 16).signExtend 32) := by
  unfold State.relV State.osz
  cases s.attrs.o32
  case false => rfl
  case true => exact congrArg (s.eipNext + ·) ((BitVec.signExtend_eq _).trans (BitVec.setWidth_eq d))

/-! ## Jumps -/

/-- A near transfer goes to its masked target, or is #GP(0) (R370). -/
theorem nearTransfer_apply (t : BitVec 32) (s : State) :
    nearTransfer t s = if s.inCode (s.nearOffset t) then .ok () (s.jump (s.nearOffset t)) else .error (.exc ⟨vGP, .sel 0#16⟩) s :=
  nearTarget_bind t _ s

/-- The jumps with a displacement run the one conditional jump. -/
theorem exec_jumpForm {s : State} {i : Instr} {f : JumpForm} (h : jumpForm s i = some f) :
    exec i s = run (jumpIf f.taken f.target) s := by
  cases i with
  | jmpJb | jccJb | jcxz =>
    cases h
    exact run_congr rfl
  | jmpJv d =>
    cases h
    exact run_congr (congrArg (nearTransfer · s) (relV_eq s d))
  | jccJv cc d =>
    cases h
    exact run_congr (congrArg (jumpIf (condHolds cc s.flags) · s) (relV_eq s d))
  | _ => cases h

/-! ## Loops -/

/-- A loop: the count changes once the target has passed its check (R380, D38). -/
theorem loopWith_apply (go : Eflags → Bool) (d : BitVec 8) (s : State) :
    let n := s.reg s.asz .cx - 1#s.asz.bits
    let t := s.nearOffset (s.rel8 d)
    loopWith go d s =
      if n = 0#s.asz.bits ∨ go s.flags = false then .ok () (s.setReg s.asz .cx n)
      else if s.inCode t then .ok () ((s.setReg s.asz .cx n).jump t)
      else .error (.exc ⟨vGP, .sel 0#16⟩) s := by
  intro n t
  have hgo : (n != 0#s.asz.bits && go s.flags) = true ↔ ¬(n = 0#s.asz.bits ∨ go s.flags = false) := by
    rw [Bool.and_eq_true, bne_iff_ne, not_or, Bool.not_eq_false]
  rw [loopWith, bind_of_ok (getS_apply s), if_apply, if_congr hgo rfl rfl, ite_not, nearTarget_bind]
  rfl

/-- The loops run the one shared operation, each with its condition on ZF. -/
theorem exec_loopForm {s : State} {i : Instr} {d : BitVec 8} {go : Bool} (h : loopForm s i = some (d, go)) :
    ∃ cond : Eflags → Bool, cond s.flags = go ∧ exec i s = run (loopWith cond d) s := by
  cases i with
  | loop | loope | loopne =>
    cases h
    exact ⟨_, rfl, rfl⟩
  | _ => cases h

/-- Settles O23. -/
theorem nearJumpsAndLoops : Obligations.NearJumpsAndLoops := by
  refine ⟨fun i s f hf hl => ?displacement, fun rm s s1 p hl hp => ?operand, fun i s d go hf hl => ?loop⟩
  case displacement =>
    rw [exec_jumpForm hf]
    cases f.taken with
    | false => exact run_of_ok hl rfl
    | true => exact run_of_checked hl (nearTransfer_apply f.target s)
  case operand =>
    have ht := (touches_place _ _ _).ok hp
    refine run_of_checked hl ((bind_of_ok (readRm_of_place hp)).trans ?_)
    rw [nearTransfer_apply, ht.nearOffset, ht.inCode]
    rfl
  case loop =>
    intro n t
    obtain ⟨cond, hcond, hexec⟩ := exec_loopForm hf
    have hbody := loopWith_apply cond d s
    rw [hcond] at hbody
    rw [hexec]
    by_cases hstay : n = 0#s.asz.bits ∨ go = false
    case pos =>
      rw [if_pos hstay]
      exact run_of_ok hl (hbody.trans (if_pos hstay))
    case neg =>
      rw [if_neg hstay]
      exact run_of_checked hl (hbody.trans (if_neg hstay))

/-! ## CALL and RET -/

/-- A call pushes the next EIP once its target has passed its check (R372). -/
theorem callTo_of_locate {s s1 s2 : State} {t : BitVec 32} {l : Loc} (ht : Touched s s1) (hc : s.inCode (s.nearOffset t) = true)
    (h : locate .ss (s.below s.osz.bytes) s.osz.bytes true s1 = .ok l s2) :
    callTo t s1 = .ok () (((s2.store l (s.eipNext.setWidth s.osz.bits)).setStackPtr (s.below s.osz.bytes)).jump (s.nearOffset t)) := by
  rw [callTo, bind_of_ok (nearTarget_of_inCode ht hc), bind_of_ok (getS_apply s1), ht.osz, ht.eipNext,
    bind_of_ok (push_of_touched ht _ h), modS_apply]

/-- A return pops its target, then releases `n` bytes more (R373). -/
theorem retNear_of_locate {s s1 : State} {sz : Size} {l : Loc} (h : locate .ss (s.above 0) sz.bytes false s = .ok l s1) :
    let t := s.nearOffset ((s1.load sz.bits l).setWidth 32)
    s.inCode t = true → ∀ n, retNear sz n s = .ok () ((s1.setStackPtr (s.above (sz.bytes + n))).jump t) := by
  intro t hc n
  have ht := (touches_locate _ _ _ _).ok h
  rw [retNear, bind_of_ok (peek_of_locate h), bind_of_ok (nearTarget_of_inCode ht hc), modS_apply, ht.above]

/-- Settles O24. -/
theorem nearCallsAndReturns : Obligations.NearCallsAndReturns := by
  refine ⟨fun d s s1 l hl => ?rel, fun rm s s1 s2 p l hl hp => ?operand, fun n s s1 l hl hloc => ?ret⟩
  case rel =>
    rw [← relV_eq]
    intro t hc hloc
    exact run_of_ok hl (callTo_of_locate (Touched.refl s) hc hloc)
  case operand =>
    intro t hc hloc
    have hcall := callTo_of_locate ((touches_place _ _ _).ok hp) hc hloc
    exact run_of_ok hl ((bind_of_ok (readRm_of_place hp)).trans hcall)
  case ret =>
    intro t hc
    have hret := retNear_of_locate hloc hc
    exact ⟨run_of_ok hl (hret 0), run_of_ok hl (hret n.toNat)⟩

end Sys2Proof.Machine
end

section
/-! INT, INTO and BOUND (44_control_transfer.md R385 to R388). -/
namespace Sys2Proof.Machine

/-- A software interrupt is one delivery that saves the next EIP, after which RF is as delivery left it (R385 to R387). -/
theorem exec_interruptForm {s : State} {i : Instr} {v : BitVec 8} (h : interruptForm s i = some v) :
    exec i s = runInstr false (do softInt v; pure .keepRF) s := by
  cases i with
  | intIb | int3 =>
    cases h
    rfl
  | into =>
    obtain ⟨hof, hv⟩ := Option.ite_none_right_eq_some.1 h
    cases hv
    refine runInstr_congr ?_
    rw [intOverflow, bind_of_ok (getS_apply s), if_pos hof]
    rfl
  | _ => cases h

/-- INTO looks at OF alone (R387). -/
theorem intOverflow_of_clear {s : State} (h : s.flags.OF = false) : intOverflow s = .ok .normal s := by
  rw [intOverflow, bind_of_ok (getS_apply s), h]
  rfl

/-- BOUND compares the register with both parts of its one operand, as signed numbers (R388). -/
theorem boundCheck_of_locate {sz : Size} {m : Mem} {s s1 : State} {l : Loc} (r : Reg)
    (h : locate (s.memSeg m) (memEa s.gpr m) (2 * sz.bytes) false s = .ok l s1) :
    boundCheck sz r (.mem m) s =
      if (s1.load sz.bits (l.take sz.bytes)).toInt ≤ (s.reg sz r).toInt ∧ (s.reg sz r).toInt ≤ (s1.load sz.bits (l.drop sz.bytes)).toInt
      then .ok () s1 else .error (.exc ⟨vBR, .none⟩) s1 := by
  have ht := (touches_locate _ _ _ _).ok h
  rw [boundCheck, onlyMem, bind_of_ok (pure_apply m s), bind_of_ok (getS_apply s), bind_of_ok h, bind_of_ok (loadLoc_apply ..),
    bind_of_ok (loadLoc_apply ..), bind_of_ok (getReg_apply ..), require_apply, ht.reg]
  exact if_congr (by rw [Bool.and_eq_true, decide_eq_true_eq, decide_eq_true_eq]) rfl rfl

/-- Settles O25. -/
theorem softwareInterruptsAndBound : Obligations.SoftwareInterruptsAndBound := by
  refine ⟨fun i s s1 v hf hl hd => ?interrupt, fun s hof hl => ?into, fun r m s s1 l hl hloc => ?memory, fun r e s hl => ?register⟩
  case interrupt =>
    rw [exec_interruptForm hf]
    exact runInstr_of_ok (.inl hl) (bind_of_ok hd)
  case into => exact runInstr_of_ok (.inl hl) (intOverflow_of_clear hof)
  case memory => exact run_of_checked hl (boundCheck_of_locate r hloc)
  case register => exact run_of_error hl (bind_of_error (raiseUD_apply s))

end Sys2Proof.Machine
end

section
/-! Repeated string instructions: what the repetition looks at again after an element, and how it goes on (45_string.md R400, R401). -/
namespace Sys2Proof.Machine

/-! ## What no element changes -/

/-- What the repetition of a string instruction reads again of the state an element left, but for the flags (R401). -/
structure RepeatView where
  ecx : BitVec 32
  seg : Segs
  pfx : Prefixes
  plat : Platform
  eip : BitVec 32

def State.repeatView (s : State) : RepeatView := ⟨s.gpr.ecx, s.seg, s.pfx, s.plat, s.eip⟩

/-- A computation that leaves what a repetition reads, whether it answers or stops. -/
structure KeepingView {α : Type} (x : M α) : Prop where
  within : Within (fun s t => t.repeatView = s.repeatView) x

theorem Touched.repeatView {s t : State} (h : Touched s t) : t.repeatView = s.repeatView := by
  obtain ⟨_, _, _, _, _, _, _, rfl⟩ := h
  rfl

section
variable {α β : Type}

theorem KeepingView.same {f : State → State} (h : ∀ s, (f s).repeatView = s.repeatView) : KeepingView (modS f) := ⟨within_modS h⟩

theorem KeepingView.bind {x : M α} {f : α → M β} (hx : KeepingView x) (hf : ∀ a, KeepingView (f a)) : KeepingView (x >>= f) :=
  ⟨within_bind (fun _ _ _ h k => k.trans h) hx.within fun a => (hf a).within⟩

theorem KeepingView.get {f : State → M β} (h : ∀ s, KeepingView (f s)) : KeepingView (getS >>= f) :=
  .bind ⟨within_getS fun _ => rfl⟩ h

theorem keepingView_of_touches {x : M α} (h : Touches x) : KeepingView x where
  within s := by
    have := h s
    split at this <;> exact this.repeatView

end

/-! ### Registers and operands -/

/-- A register write keeps the count when it does not go to CX or a byte of it. -/
theorem keepingView_putReg {sz : Size} {r : Reg} (v : BitVec sz.bits) (h : .cx ≠ if sz = .b then (byteHome r).1 else r) :
    KeepingView (putReg sz r v) := .same fun s => by
  have hcx : (s.setReg sz r v).gpr.ecx = s.gpr.ecx := s.gpr.get_write_other r sz v h
  rw [State.repeatView, hcx]
  rfl

theorem keepingView_putAcc (sz : Size) (v : BitVec sz.bits) : KeepingView (putReg sz .ax v) :=
  keepingView_putReg v (by cases sz <;> decide)

theorem keepingView_advance (sz : Size) {r : Reg} (h : r = .si ∨ r = .di) : KeepingView (advance sz r) :=
  .get fun s => keepingView_putReg _ (by rcases h with rfl | rfl <;> cases s.asz <;> decide)

theorem keepingView_putStatus (st : Status) : KeepingView (putStatus st) := .same fun _ => rfl

theorem keepingView_storeLoc {w : Nat} (l : Loc) (v : BitVec w) : KeepingView (storeLoc l v) := .same fun _ => rfl

theorem touches_loadLoc (w : Nat) (l : Loc) : Touches (loadLoc w l) := Touched.refl

theorem keepingView_locate (r : SReg) (off : BitVec 32) (n : Nat) (w : Bool) : KeepingView (locate r off n w) :=
  keepingView_of_touches (touches_locate r off n w)

theorem keepingView_lread (r : SReg) (off : BitVec 32) (sz : Size) : KeepingView (lread r off sz) :=
  (keepingView_locate ..).bind fun l => keepingView_of_touches (touches_loadLoc _ l)

theorem keepingView_lwrite (r : SReg) (off : BitVec 32) (sz : Size) (v : BitVec sz.bits) : KeepingView (lwrite r off sz v) :=
  (keepingView_locate ..).bind fun _ => keepingView_storeLoc ..

theorem keepingView_readSource (sz : Size) : KeepingView (readSource sz) := .get fun _ => keepingView_lread ..

/-! ### Ports -/

theorem touches_require (c : Bool) (v : BitVec 8) (e : ErrCode) : Touches (require c v e) := within_require Touched.refl c v e

theorem touches_sysRead (la : BitVec 32) (n w : Nat) : Touches (sysRead la n w) :=
  touches_bind (touches_resolve _ _ _ _) fun _ => touches_loadLoc _ _

theorem touches_ioMapBits (iobase p n : Nat) : Touches (ioMapBits iobase p n) := by
  induction n generalizing p with
  | zero => exact touches_pure ()
  | succ n ih =>
    exact touches_bind touches_getS fun _ => touches_bind (touches_require _ _ _) fun _ => touches_bind (touches_sysRead _ _ _) fun _ =>
      touches_bind (touches_require _ _ _) fun _ => ih _

/-- The check of a port reads the task state segment and writes nothing of its own (48_system_io.md R520, R521). -/
theorem touches_ioCheck (p : BitVec 16) (n : Nat) : Touches (ioCheck p n) :=
  touches_bind touches_getS fun _ => touches_if (touches_pure _) <| touches_bind touches_getS fun _ =>
    touches_bind (touches_sysRead _ _ _) fun _ => touches_bind (touches_require _ _ _) fun _ => touches_ioMapBits _ _ _

theorem keepingView_ioCheck (p : BitVec 16) (n : Nat) : KeepingView (ioCheck p n) := keepingView_of_touches (touches_ioCheck p n)

theorem keepingView_portRead (sz : Size) (p : BitVec 16) : KeepingView (portRead sz p) := ⟨fun _ => rfl⟩

theorem keepingView_portWrite (sz : Size) (p : BitVec 16) (v : BitVec sz.bits) : KeepingView (portWrite sz p v) := .same fun _ => rfl

/-! ### The elements -/

theorem keepingView_movsElem (sz : Size) : KeepingView (movsElem sz) :=
  (keepingView_readSource _).bind fun _ => .get fun _ => (keepingView_lwrite ..).bind fun _ =>
    (keepingView_advance _ (.inl rfl)).bind fun _ => keepingView_advance _ (.inr rfl)

theorem keepingView_cmpsElem (sz : Size) : KeepingView (cmpsElem sz) :=
  (keepingView_readSource _).bind fun _ => .get fun _ => (keepingView_lread ..).bind fun _ => (keepingView_putStatus _).bind fun _ =>
    (keepingView_advance _ (.inl rfl)).bind fun _ => keepingView_advance _ (.inr rfl)

theorem keepingView_scasElem (sz : Size) : KeepingView (scasElem sz) :=
  .get fun _ => (keepingView_lread ..).bind fun _ => (keepingView_putStatus _).bind fun _ => keepingView_advance _ (.inr rfl)

theorem keepingView_lodsElem (sz : Size) : KeepingView (lodsElem sz) :=
  (keepingView_readSource _).bind fun _ => (keepingView_putAcc ..).bind fun _ => keepingView_advance _ (.inl rfl)

theorem keepingView_stosElem (sz : Size) : KeepingView (stosElem sz) :=
  .get fun _ => (keepingView_lwrite ..).bind fun _ => keepingView_advance _ (.inr rfl)

theorem keepingView_insElem (sz : Size) : KeepingView (insElem sz) :=
  .get fun _ => (keepingView_ioCheck ..).bind fun _ => (keepingView_locate ..).bind fun _ =>
    (keepingView_portRead ..).bind fun _ => (keepingView_storeLoc ..).bind fun _ => keepingView_advance _ (.inr rfl)

theorem keepingView_outsElem (sz : Size) : KeepingView (outsElem sz) :=
  .get fun _ => (keepingView_ioCheck ..).bind fun _ => (keepingView_readSource _).bind fun _ =>
    (keepingView_portWrite ..).bind fun _ => keepingView_advance _ (.inl rfl)

theorem keepingView_stringForm {s : State} {i : Instr} {f : StringForm} (h : stringForm s i = some f) : KeepingView f.element := by
  cases i with
  | movsb | movsv => cases h; exact keepingView_movsElem _
  | cmpsb | cmpsv => cases h; exact keepingView_cmpsElem _
  | stosb | stosv => cases h; exact keepingView_stosElem _
  | lodsb | lodsv => cases h; exact keepingView_lodsElem _
  | scasb | scasv => cases h; exact keepingView_scasElem _
  | insb | insv => cases h; exact keepingView_insElem _
  | outsb | outsv => cases h; exact keepingView_outsElem _
  | _ => cases h

/-! ## Repetition -/

/-- The string instructions run the one `StringStep`, each with its element (R401). -/
theorem exec_stringForm {s : State} {i : Instr} {f : StringForm} (h : stringForm s i = some f) :
    exec i s = runInstr false (stringStep f.compares f.element) s := by
  cases i with
  | movsb | movsv | cmpsb | cmpsv | stosb | stosv | lodsb | lodsv | scasb | scasv | insb | insv | outsb | outsv =>
    cases h
    rfl
  | _ => cases h

theorem reoffer_ok (l : List Byte) (s : State) : ∃ q k, reoffer l s = .ok q (s.drawn k) := by
  induction l generalizing s with
  | nil => exact ⟨_, _, rfl⟩
  | cons b l ih =>
    obtain ⟨q, k, h⟩ := ih (s.drawn (s.draws + 1))
    exact ⟨_, k, (bind_of_ok (drawBool_apply s)).trans (bind_of_ok h)⟩

/-- Running again goes back to the instruction's own address; the queue is the model's choice, empty without prefetching
(log entry 15). -/
theorem runAgain_ok (s : State) : ∃ q k, (s.plat.prefetchDepth = 0 → q = [] ∧ k = s.draws) ∧
    runAgain s = .ok () { s with eipNext := s.eip, pastEnd := false, queue := q, draws := k } := by
  rw [runAgain, bind_of_ok (getS_apply s)]
  by_cases hd : s.plat.prefetchDepth = 0
  case pos =>
    rw [if_pos hd]
    exact ⟨[], s.draws, fun _ => ⟨rfl, rfl⟩, rfl⟩
  case neg =>
    obtain ⟨own, k, h⟩ := reoffer_ok s.fetched s
    rw [if_neg hd, bind_of_ok h]
    exact ⟨_, k, fun h0 => absurd h0 hd, rfl⟩

section
variable {compares : Bool} {prim : M Unit} {s s1 : State}

theorem stringStep_of_unprefixed (hr : s.pfx.rep = .none) (h : prim s = .ok () s1) : stringStep compares prim s = .ok .normal s1 := by
  rw [stringStep, bind_of_ok (getS_apply s), if_pos hr]
  exact bind_of_ok h

theorem stringStep_of_zero (hr : s.pfx.rep ≠ .none) (hc : s.reg s.asz .cx = 0#s.asz.bits) :
    stringStep compares prim s = .ok .normal s := by
  rw [stringStep, bind_of_ok (getS_apply s), if_neg hr, if_pos hc]
  rfl

/-- The count and its width are as they were. -/
theorem reg_cx_of_view (hv : s1.repeatView = s.repeatView) (sz : Size) : s1.reg sz .cx = s.reg sz .cx := by
  have hcx : s1.gpr.get .cx = s.gpr.get .cx := congrArg RepeatView.ecx hv
  cases sz with
  | b => exact congrArg (BitVec.extractLsb' 0 8) hcx
  | w => exact congrArg (BitVec.extractLsb' 0 16) hcx
  | d => exact hcx

theorem asz_of_view (hv : s1.repeatView = s.repeatView) : s1.asz = s.asz :=
  congrArg (fun v : RepeatView => vSize (v.seg.cs.db != v.pfx.adsize)) hv

/-- A repetition with elements left does one and counts it; then it ends, or the instruction runs again (R401). -/
theorem stringStep_of_counted (hr : s.pfx.rep ≠ .none) (hc : s.reg s.asz .cx ≠ 0#s.asz.bits) (h : prim s = .ok () s1)
    (hv : s1.repeatView = s.repeatView) :
    let n := s.reg s.asz .cx - 1#s.asz.bits
    let t := s1.setReg s.asz .cx n
    stringStep compares prim s =
      if n = 0#s.asz.bits ∨ (compares = true ∧ (s.pfx.rep = .rep ∧ s1.flags.ZF = false ∨ s.pfx.rep = .repne ∧ s1.flags.ZF = true))
      then .ok .normal t else (runAgain >>= fun _ => pure .element) t := by
  intro n t
  have hpfx : s1.pfx = s.pfx := congrArg RepeatView.pfx hv
  rw [stringStep, bind_of_ok (getS_apply s), if_neg hr, if_neg hc, bind_of_ok h, bind_of_ok (getS_apply s1), asz_of_view hv,
    reg_cx_of_view hv, hpfx, bind_of_ok (putReg_apply ..), if_apply, if_apply, if_apply, ← ite_or, ← ite_or]
  refine if_congr (or_assoc.trans (or_congr_right ?_)) rfl rfl
  simp only [Bool.and_eq_true, beq_iff_eq, Bool.not_eq_true', and_assoc, and_or_left]

end

/-- Settles O26. -/
theorem stringRepetition : Obligations.StringRepetition := by
  intro i s f hf hl
  rw [exec_stringForm hf]
  refine ⟨fun hr hc => ?zero, fun s1 h => ⟨fun hr => ?unprefixed, fun hr hc => ?counted⟩⟩
  case zero => exact runInstr_of_ok (.inl hl) (stringStep_of_zero hr hc)
  case unprefixed => exact runInstr_of_ok (.inl hl) (stringStep_of_unprefixed hr h)
  case counted =>
    intro n t
    have hv : s1.repeatView = s.repeatView := (keepingView_stringForm hf).within.ok h
    have hstep := stringStep_of_counted (compares := f.compares) hr hc h hv
    split
    case isTrue hend => exact runInstr_of_ok (.inl hl) (hstep.trans (if_pos hend))
    case isFalse hgo =>
      have hplat : t.plat = s.plat := congrArg RepeatView.plat hv
      have heip : t.eip = s.eip := congrArg RepeatView.eip hv
      obtain ⟨q, k, hq, hagain⟩ := runAgain_ok t
      rw [← hplat, ← heip]
      exact ⟨q, k, hq, runInstr_of_ok (.inl hl) ((hstep.trans (if_neg hgo)).trans (bind_of_ok hagain))⟩

end Sys2Proof.Machine
end

section
/-! One element of a string instruction in a plain state (45_string.md R400 to R406; 48_system_io.md R534, R535). -/
namespace Sys2Proof.Machine

/-- An index is moved in the address size: what lies above it takes no part (R400). -/
theorem setWidth_index_add (a32 : Bool) (g : Gpr) (r : Reg) (d : BitVec 32) :
    (wrapOff a32 (g.get r) + d).setWidth (vSize a32).bits = g.read (vSize a32) r + d.setWidth (vSize a32).bits := by
  cases a32 with
  | true =>
    show (g.get r + d).setWidth 32 = g.get r + d.setWidth 32
    rw [BitVec.setWidth_eq, BitVec.setWidth_eq]
  | false =>
    show (((g.get r).extractLsb' 0 16).setWidth 32 + d).setWidth 16 = (g.get r).extractLsb' 0 16 + d.setWidth 16
    rw [BitVec.setWidth_add _ _ (by decide), BitVec.setWidth_setWidth_of_le _ (by decide), BitVec.setWidth_eq]

theorem advance_apply (sz : Size) (r : Reg) (s : State) : advance sz r s = .ok () (s.stepIndex sz r) := by
  have hw : s.asz.bits ≤ 32 := by cases s.asz <;> decide
  have hd : (s.delta sz).setWidth s.asz.bits =
      if s.flags.DF then -BitVec.ofNat s.asz.bits sz.bytes else BitVec.ofNat s.asz.bits sz.bytes := by
    rw [State.delta, apply_ite (BitVec.setWidth s.asz.bits), BitVec.setWidth_neg_of_le hw, BitVec.setWidth_ofNat_of_le hw]
  have hi : (s.index r + s.delta sz).setWidth s.asz.bits = s.reg s.asz r + (s.delta sz).setWidth s.asz.bits :=
    setWidth_index_add s.attrs.a32 s.gpr r (s.delta sz)
  rw [advance, bind_of_ok (getS_apply s), putReg_apply, hi, hd, State.stepIndex, add_ite, ← BitVec.sub_eq_add_neg]

section
variable {s : State} {sz : Size} (hp : s.plain = true)
include hp

theorem readSource_plain (h : s.segOk (s.segFor .ds) (s.index .si) sz.bytes .read = true) :
    readSource sz s = .ok (s.load sz.bits (s.bytesAt (s.segFor .ds) (s.index .si) sz.bytes)) s :=
  (bind_of_ok (getS_apply s)).trans (lread_plain hp h)

theorem lwrite_plain {r : SReg} {off : BitVec 32} (v : BitVec sz.bits) (h : s.segOk r off sz.bytes .write = true) :
    lwrite r off sz v s = .ok () (s.store (s.bytesAt r off sz.bytes) v) :=
  lwrite_of_locate v (locate_plain hp h)

theorem movsElem_plain (hsrc : s.segOk (s.segFor .ds) (s.index .si) sz.bytes .read = true)
    (hdst : s.segOk .es (s.index .di) sz.bytes .write = true) :
    movsElem sz s = .ok () (((s.store (s.bytesAt .es (s.index .di) sz.bytes)
      (s.load sz.bits (s.bytesAt (s.segFor .ds) (s.index .si) sz.bytes))).stepIndex sz .si).stepIndex sz .di) := by
  rw [movsElem, bind_of_ok (readSource_plain hp hsrc), bind_of_ok (getS_apply s), bind_of_ok (lwrite_plain hp _ hdst),
    bind_of_ok (advance_apply ..), advance_apply]

theorem cmpsElem_plain (hsrc : s.segOk (s.segFor .ds) (s.index .si) sz.bytes .read = true)
    (hdst : s.segOk .es (s.index .di) sz.bytes .read = true) :
    cmpsElem sz s = .ok () (((s.withStatus (subFlags (s.load sz.bits (s.bytesAt (s.segFor .ds) (s.index .si) sz.bytes))
      (s.load sz.bits (s.bytesAt .es (s.index .di) sz.bytes)) false).2).stepIndex sz .si).stepIndex sz .di) := by
  rw [cmpsElem, bind_of_ok (readSource_plain hp hsrc), bind_of_ok (getS_apply s), bind_of_ok (lread_plain hp hdst),
    bind_of_ok (putStatus_apply ..), bind_of_ok (advance_apply ..), advance_apply]

theorem stosElem_plain (hdst : s.segOk .es (s.index .di) sz.bytes .write = true) :
    stosElem sz s = .ok () ((s.store (s.bytesAt .es (s.index .di) sz.bytes) (s.reg sz .ax)).stepIndex sz .di) := by
  rw [stosElem, bind_of_ok (getS_apply s), bind_of_ok (lwrite_plain hp _ hdst), advance_apply]

theorem lodsElem_plain (hsrc : s.segOk (s.segFor .ds) (s.index .si) sz.bytes .read = true) :
    lodsElem sz s = .ok () ((s.setReg sz .ax (s.load sz.bits (s.bytesAt (s.segFor .ds) (s.index .si) sz.bytes))).stepIndex sz .si) := by
  rw [lodsElem, bind_of_ok (readSource_plain hp hsrc), bind_of_ok (putReg_apply ..), advance_apply]

theorem scasElem_plain (hdst : s.segOk .es (s.index .di) sz.bytes .read = true) :
    scasElem sz s = .ok () ((s.withStatus (subFlags (s.reg sz .ax)
      (s.load sz.bits (s.bytesAt .es (s.index .di) sz.bytes)) false).2).stepIndex sz .di) := by
  rw [scasElem, bind_of_ok (getS_apply s), bind_of_ok (lread_plain hp hdst), bind_of_ok (putStatus_apply ..), advance_apply]

/-- INS stores what the port gave, a free value (48_system_io.md R534). -/
theorem insElem_plain (hio : ioCheck (s.reg .w .dx) sz.bytes s = .ok () s) (hdst : s.segOk .es (s.index .di) sz.bytes .write = true) :
    ∃ v : BitVec sz.bits, insElem sz s =
      .ok () (((s.drawn (s.draws + 1)).store (s.bytesAt .es (s.index .di) sz.bytes) v).stepIndex sz .di) := by
  refine ⟨(Config.portInput s.draws (s.reg .w .dx) sz.bytes).setWidth sz.bits, ?_⟩
  rw [insElem, bind_of_ok (getS_apply s), bind_of_ok hio, bind_of_ok (locate_plain hp hdst),
    bind_of_ok (show portRead sz (s.reg .w .dx) s = .ok _ (s.drawn (s.draws + 1)) from rfl), bind_of_ok (storeLoc_apply ..), advance_apply]
  rfl

theorem outsElem_plain (hio : ioCheck (s.reg .w .dx) sz.bytes s = .ok () s)
    (hsrc : s.segOk (s.segFor .ds) (s.index .si) sz.bytes .read = true) :
    outsElem sz s = .ok () ({ s with ioOut := ⟨s.reg .w .dx, sz.bytes,
      (s.load sz.bits (s.bytesAt (s.segFor .ds) (s.index .si) sz.bytes)).setWidth 32⟩ :: s.ioOut }.stepIndex sz .si) := by
  rw [outsElem, bind_of_ok (getS_apply s), bind_of_ok hio, bind_of_ok (readSource_plain hp hsrc), portWrite, bind_of_ok (modS_apply ..),
    advance_apply]

end

/-- A port may be used without the map in real-address mode, and where CPL is at most IOPL (48_system_io.md R520). -/
theorem ioCheck_of_level {s : State} (h : s.protectedMode = false ∨ s.cpl.toNat ≤ s.flags.IOPL.toNat) (p : BitVec 16) (n : Nat) :
    ioCheck p n s = .ok () s := by
  have hc : (!s.protectedMode || decide (s.cpl.toNat ≤ s.flags.IOPL.toNat)) = true := by
    rwa [Bool.or_eq_true, Bool.not_eq_true', decide_eq_true_eq]
  rw [ioCheck, bind_of_ok (getS_apply s), if_pos hc]
  rfl

theorem element_of_stringResult {s t : State} {i : Instr} {f : StringForm} (hf : stringForm s i = some f)
    (ht : stringResult s i = some t) (hp : s.plain = true) (ha : stringAccess s i = true) : f.element s = .ok () t := by
  cases i with
  | movsb | movsv =>
    cases hf
    cases ht
    obtain ⟨hsrc, hdst⟩ := Bool.and_eq_true_iff.1 ha
    exact movsElem_plain hp hsrc hdst
  | cmpsb | cmpsv =>
    cases hf
    cases ht
    obtain ⟨hsrc, hdst⟩ := Bool.and_eq_true_iff.1 ha
    exact cmpsElem_plain hp hsrc hdst
  | stosb | stosv =>
    cases hf
    cases ht
    exact stosElem_plain hp ha
  | lodsb | lodsv =>
    cases hf
    cases ht
    exact lodsElem_plain hp ha
  | scasb | scasv =>
    cases hf
    cases ht
    exact scasElem_plain hp ha
  | _ => cases ht

/-- Settles O27. -/
theorem stringElementEffects : Obligations.StringElementEffects :=
  ⟨fun _ _ _ _ hf ht hp ha => element_of_stringResult hf ht hp ha, fun _ _ hp hio =>
    ⟨insElem_plain hp (ioCheck_of_level hio ..), outsElem_plain hp (ioCheck_of_level hio ..)⟩⟩

end Sys2Proof.Machine
end

section
/-! The flag instructions, NOP, the prefixes, the undefined opcodes, and LOCK before a form it may not precede
(46_block_flag_coproc_misc.md R424 to R429, R446; 30_encoding.md R203, R224, R240). -/
namespace Sys2Proof.Machine

/-! ## LOCK -/

/-- Every instruction but a prefix runs a body, and LOCK may precede exactly the forms with a destination in memory that
30_encoding.md R224 lists. -/
theorem exec_lockableForm {i : Instr} (h : prefixForm i = none) (s : State) : ∃ body, exec i s = runInstr (lockableForm i) body s := by
  cases i with
  | prefixEs | prefixCs | prefixSs | prefixDs | prefixFs | prefixGs | prefixOpsize | prefixAdsize | prefixLock | prefixRepne
  | prefixRep => cases h
  | addEbGb rm | addEvGv rm | addEbIb rm | addEvIv rm | addEvIb rm | orEbGb rm | orEvGv rm | orEbIb rm | orEvIv rm | orEvIb rm
  | adcEbGb rm | adcEvGv rm | adcEbIb rm | adcEvIv rm | adcEvIb rm | sbbEbGb rm | sbbEvGv rm | sbbEbIb rm | sbbEvIv rm | sbbEvIb rm
  | andEbGb rm | andEvGv rm | andEbIb rm | andEvIv rm | andEvIb rm | subEbGb rm | subEvGv rm | subEbIb rm | subEvIv rm | subEvIb rm
  | xorEbGb rm | xorEvGv rm | xorEbIb rm | xorEvIv rm | xorEvIb rm | incEb rm | incEv rm | decEb rm | decEv rm | notEb rm | notEv rm
  | negEb rm | negEv rm | btsEvGv rm | btsEvIb rm | btrEvGv rm | btrEvIb rm | btcEvGv rm | btcEvIb rm | xchgEbGb rm
  | xchgEvGv rm => cases rm <;> exact ⟨_, rfl⟩
  | _ => exact ⟨_, rfl⟩

theorem exec_locked {i : Instr} {s : State} (hl : s.pfx.lock = true) (hp : prefixForm i = none) (hf : lockableForm i = false) :
    exec i s = s.takes s vUD .none := by
  obtain ⟨body, h⟩ := exec_lockableForm hp s
  rw [h, hf, runInstr_locked hl]

/-! ## NOP, prefixes and undefined opcodes -/

theorem exec_prefixForm {i : Instr} {f : Prefixes → Prefixes} (h : prefixForm i = some f) (s : State) :
    exec i s = .next (s.withPrefix f) := by
  cases i with
  | prefixEs | prefixCs | prefixSs | prefixDs | prefixFs | prefixGs | prefixOpsize | prefixAdsize | prefixLock | prefixRepne
  | prefixRep =>
    cases h
    rfl
  | _ => cases h

/-- An undefined opcode is #UD with LOCK before it and without (30_encoding.md R240). -/
theorem run_raiseUD (s : State) : run raiseUD s = s.takes s vUD .none := by
  cases hl : s.pfx.lock with
  | true => exact runInstr_locked hl
  | false => exact run_of_error hl (raiseUD_apply s)

/-- Settles O30. -/
theorem nopPrefixesAndUndefinedOpcodes : Obligations.NopPrefixesAndUndefinedOpcodes := fun s =>
  ⟨fun hl => run_of_ok hl (pure_apply () s), fun _ _ h => exec_prefixForm h s, fun _ hl hp hf => exec_locked hl hp hf,
    run_raiseUD s, run_raiseUD s, run_raiseUD s⟩

/-! ## Flags -/

theorem run_modFlags {s : State} (hl : s.pfx.lock = false) (f : Eflags → Eflags) :
    run (modFlags f) s = .next ({ s with flags := f s.flags }.finished .normal) := run_of_ok hl (modFlags_apply f s)

/-- Settles O18. -/
theorem flagControlInstructions : Obligations.FlagControlInstructions := by
  refine ⟨fun a s hl => ⟨⟨rfl, run_modFlags hl _⟩, ⟨rfl, run_modFlags hl _⟩, ⟨rfl, run_modFlags hl _⟩,
    ⟨rfl, run_modFlags hl _⟩, ⟨rfl, run_modFlags hl _⟩⟩, fun i s hi hl => ?_⟩
  have hforms : ∀ i ∈ [Instr.stc, .clc, .cmc, .cld, .std], (prefixForm i).isNone = true ∧ lockableForm i = false := by decide
  obtain ⟨hp, hf⟩ := hforms i hi
  exact exec_locked hl (Option.isNone_iff_eq_none.1 hp) hf

end Sys2Proof.Machine
end

section
/-! ENTER and LEAVE (46_block_flag_coproc_misc.md R420, R421). -/
namespace Sys2Proof.Machine

/-! ## Where nothing but memory has changed -/

theorem touched_store (s : State) {w : Nat} (l : Loc) (v : BitVec w) : Touched s (s.store l v) := ⟨_, _, _, _, _, _, _, rfl⟩

theorem Touched.ssz32 {s t : State} (h : Touched s t) : t.ssz32 = s.ssz32 := congrArg (fun g : Segs => g.ss.db) h.seg

theorem Touched.plain {s t : State} (h : Touched s t) : t.plain = s.plain := by
  obtain ⟨_, _, _, _, _, _, _, rfl⟩ := h
  rfl

theorem Touched.segOk {s t : State} (h : Touched s t) (r : SReg) (off : BitVec 32) (n : Nat) (k : AccessKind) :
    t.segOk r off n k = s.segOk r off n k := by
  obtain ⟨_, _, _, _, _, _, _, rfl⟩ := h
  rfl

theorem Touched.bytesAt {s t : State} (h : Touched s t) (r : SReg) (off : BitVec 32) (n : Nat) :
    t.bytesAt r off n = s.bytesAt r off n := by
  obtain ⟨_, _, _, _, _, _, _, rfl⟩ := h
  rfl

/-- Stores alone touch no more than memory. -/
theorem touched_foldl_store {s t : State} {α : Type} {w : Nat} (l : α → Loc) (v : State → α → BitVec w) (xs : List α)
    (h : Touched s t) : Touched s (xs.foldl (fun t x => t.store (l x) (v t x)) t) := by
  induction xs generalizing t with
  | nil => exact h
  | cons x xs ih => exact ih (h.trans (touched_store t ..))

/-! ## Stack offsets and the stack pointer -/

theorem wrapOff_wrapOff_sub (b : Bool) (x y : BitVec 32) : wrapOff b (wrapOff b x - y) = wrapOff b (x - y) := by
  cases b with
  | true => rfl
  | false =>
    apply BitVec.eq_of_toNat_eq
    simp only [wrapOff, Bool.false_eq_true, if_false, BitVec.toNat_setWidth, BitVec.extractLsb'_toNat, Nat.shiftRight_zero,
      BitVec.toNat_sub]
    omega

theorem wrapOff_wrapOff (b : Bool) (x : BitVec 32) : wrapOff b (wrapOff b x) = wrapOff b x := by
  simpa using wrapOff_wrapOff_sub b x 0#32

/-- The offset `m + n` bytes below another is `n` bytes below the one `m` bytes below it. -/
theorem wrapOff_sub_add (b : Bool) (x : BitVec 32) (m n : Nat) :
    wrapOff b (wrapOff b (x - BitVec.ofNat 32 m) - BitVec.ofNat 32 n) = wrapOff b (x - BitVec.ofNat 32 (m + n)) := by
  rw [wrapOff_wrapOff_sub, BitVec.sub_sub, BitVec.ofNat_add]

theorem stackPtr_setStackPtr (s : State) (v : BitVec 32) : (s.setStackPtr v).stackPtr = wrapOff s.ssz32 v := by
  show wrapOff s.ssz32 (if s.ssz32 then v else setWordLo s.gpr.esp (v.extractLsb' 0 16)) = _
  cases s.ssz32 with
  | true => rfl
  | false => exact congrArg (BitVec.setWidth 32) (extract_setWordLo ..)

/-- Below a stack pointer that was itself set below another, when nothing but memory has changed. -/
theorem below_setStackPtr {s t : State} (ht : Touched s t) (m n : Nat) : (t.setStackPtr (s.below m)).below n = s.below (m + n) := by
  rw [State.below, stackPtr_setStackPtr]
  show wrapOff t.ssz32 (wrapOff t.ssz32 (wrapOff s.ssz32 _) - _) = _
  rw [ht.ssz32, wrapOff_wrapOff, wrapOff_sub_add]
  rfl

theorem setWordLo_setWordLo (x : BitVec 32) (v w : BitVec 16) : setWordLo (setWordLo x v) w = setWordLo x w := by
  rw [setWordLo, extract_high_setWordLo, setWordLo]

theorem setStackPtr_setStackPtr (s : State) (v w : BitVec 32) : (s.setStackPtr v).setStackPtr w = s.setStackPtr w := by
  have h (b : Bool) (e : BitVec 32) :
      (if b then w else setWordLo (if b then v else setWordLo e (v.extractLsb' 0 16)) (w.extractLsb' 0 16)) =
        if b then w else setWordLo e (w.extractLsb' 0 16) := by
    cases b with
    | true => rw [if_pos rfl, if_pos rfl]
    | false => rw [if_neg Bool.false_ne_true, if_neg Bool.false_ne_true, if_neg Bool.false_ne_true, setWordLo_setWordLo]
  exact congrArg (fun e => { s with gpr := { s.gpr with esp := e } }) (h s.ssz32 s.gpr.esp)

theorem setReg_bp_setStackPtr (s : State) (sz : Size) (v : BitVec sz.bits) (w : BitVec 32) :
    (s.setStackPtr w).setReg sz .bp v = (s.setReg sz .bp v).setStackPtr w := by cases sz <;> rfl

theorem below_setReg_bp (s : State) {sz : Size} (v : BitVec sz.bits) (n : Nat) : (s.setReg sz .bp v).below n = s.below n := by
  cases sz <;> rfl

/-! ## Pushes in a plain state -/

/-- The item pushed after `k` others, when nothing but memory has changed (10_state.md R46). -/
theorem push_below {s t : State} (ht : Touched s t) (hp : s.plain = true) {sz : Size} {k : Nat}
    (h : s.segOk .ss (s.below ((k + 1) * sz.bytes)) sz.bytes .write = true) (v : BitVec sz.bits) :
    push sz v (t.setStackPtr (s.below (k * sz.bytes))) =
      .ok () ((t.store (s.slot sz.bytes (k + 1)) v).setStackPtr (s.below ((k + 1) * sz.bytes))) := by
  have hb : (t.setStackPtr (s.below (k * sz.bytes))).below sz.bytes = s.below ((k + 1) * sz.bytes) := by
    rw [below_setStackPtr ht, ← Nat.succ_mul]
  have hl : locate .ss (s.below ((k + 1) * sz.bytes)) sz.bytes true (t.setStackPtr (s.below (k * sz.bytes))) =
      .ok (s.slot sz.bytes (k + 1)) (t.setStackPtr (s.below (k * sz.bytes))) := by
    rw [State.slot, ← ht.bytesAt]
    exact locate_plain (ht.plain.trans hp) ((ht.segOk ..).trans h)
  rw [push_of_locate v (hb.symm ▸ hl), hb]
  exact congrArg (EStateM.Result.ok ()) (setStackPtr_setStackPtr (t.store (s.slot sz.bytes (k + 1)) v) _ _)

/-! ## ENTER -/

/-- What ENTER does last: the frame pointer, then room for the locals, which must lie in the SS limit (R420, D40). -/
def openFrame (sz : Size) (bytes : BitVec 16) (frame : BitVec sz.bits) : M Unit := do
  putReg sz .bp frame
  modS fun s => s.setStackPtr (s.below bytes.toNat)
  let s ← getS
  require (bytes == 0#16 || s.seg.ss.inLimit s.stackPtr bytes.toNat) vSS (zeroCode false)

theorem openFrame_apply {sz : Size} {n : BitVec 16} {frame : BitVec sz.bits} {t u : State}
    (hu : (t.setReg sz .bp frame).setStackPtr (t.below n.toNat) = u) :
    openFrame sz n frame t = if n = 0#16 ∨ u.seg.ss.inLimit u.stackPtr n.toNat = true then .ok () u
      else .error (.exc ⟨vSS, zeroCode false⟩) u := by
  rw [openFrame, bind_of_ok (putReg_apply ..), bind_of_ok (modS_apply ..), below_setReg_bp, hu, bind_of_ok (getS_apply u), require_apply]
  exact if_congr (by rw [Bool.or_eq_true, beq_iff_eq]) rfl rfl

/-- The same, after the pushes: the locals lie below what was pushed. -/
theorem openFrame_pushed {sz : Size} {n : BitVec 16} {frame : BitVec sz.bits} {s t : State} {m : Nat} (ht : Touched s t) :
    let u := (t.setReg sz .bp frame).setStackPtr (s.below (m + n.toNat))
    openFrame sz n frame (t.setStackPtr (s.below m)) = if n = 0#16 ∨ u.seg.ss.inLimit u.stackPtr n.toNat = true then .ok () u
      else .error (.exc ⟨vSS, zeroCode false⟩) u :=
  openFrame_apply (by rw [below_setStackPtr ht, setReg_bp_setStackPtr, setStackPtr_setStackPtr])

theorem enterFrame_flat {sz : Size} {n : BitVec 16} {lvl : BitVec 8} {s t : State} (h0 : lvl.toNat % 32 = 0)
    (h : push sz (s.reg sz .bp) s = .ok () t) : enterFrame sz n lvl s = openFrame sz n (t.stackPtr.setWidth sz.bits) t := by
  rw [enterFrame, bind_of_ok (getS_apply s), bind_of_ok h, bind_of_ok (getS_apply t), if_pos h0]
  rfl

theorem enterFrame_nested {sz : Size} {n : BitVec 16} {lvl : BitVec 8} {frame : BitVec sz.bits} {s t u v : State}
    (h0 : lvl.toNat % 32 ≠ 0) (h : push sz (s.reg sz .bp) s = .ok () t) (ht : t.stackPtr.setWidth sz.bits = frame)
    (hcopy : copyDisplay sz (lvl.toNat % 32 - 1) s.gpr.ebp t = .ok () u) (hframe : push sz frame u = .ok () v) :
    enterFrame sz n lvl s = openFrame sz n frame v := by
  rw [enterFrame, bind_of_ok (getS_apply s), bind_of_ok h, bind_of_ok (getS_apply t), if_neg h0, ht, bind_of_ok hcopy,
    bind_of_ok hframe]
  rfl

/-! ## The display -/

/-- The offset of the `j`-th entry of the enclosing display (R420). -/
def State.displayOffset (s : State) (n j : Nat) : BitVec 32 := wrapOff s.ssz32 (s.gpr.ebp - BitVec.ofNat 32 (j * n))

/-- The `j`-th entry of the enclosing display of `s`, as memory in `t` holds it. -/
def State.displayEntry (s : State) (sz : Size) (t : State) (j : Nat) : BitVec sz.bits :=
  t.load sz.bits (s.bytesAt .ss (s.displayOffset sz.bytes j) sz.bytes)

/-- An entry of the display is read at the same place, whatever was pushed meanwhile. -/
theorem lread_display {s t : State} (ht : Touched s t) (hp : s.plain = true) {sz : Size} {j : Nat}
    (h : s.segOk .ss (s.displayOffset sz.bytes j) sz.bytes .read = true) (sp : BitVec 32) :
    lread .ss (s.displayOffset sz.bytes j) sz (t.setStackPtr sp) = .ok (s.displayEntry sz t j) (t.setStackPtr sp) := by
  rw [State.displayEntry, ← ht.bytesAt]
  exact lread_plain (s := t.setStackPtr sp) (ht.plain.trans hp) ((ht.segOk ..).trans h)

/-- Memory after BP and then `k` entries of the enclosing display have been pushed (R420). -/
def State.display (s : State) (sz : Size) (k : Nat) : State :=
  (List.range k).foldl (fun t j => t.store (s.slot sz.bytes (j + 2)) (s.displayEntry sz t (j + 1)))
    (s.store (s.slot sz.bytes 1) (s.reg sz .bp))

theorem display_succ (s : State) (sz : Size) (k : Nat) :
    s.display sz (k + 1) = (s.display sz k).store (s.slot sz.bytes (k + 2)) (s.displayEntry sz (s.display sz k) (k + 1)) := by
  rw [State.display, List.range_succ, List.foldl_append]
  rfl

theorem touched_display (s : State) (sz : Size) (k : Nat) : Touched s (s.display sz k) :=
  touched_foldl_store _ _ _ (touched_store ..)

section
variable {s : State} {sz : Size} (hp : s.plain = true)
include hp

/-- One entry after another is read below the frame pointer and pushed; `bp` is wherever the entry before was found. -/
theorem copyDisplay_plain {k n : Nat} {bp : BitVec 32} (hbp : wrapOff s.ssz32 bp = s.displayOffset sz.bytes k)
    (hpush : ∀ j, 1 ≤ j → j ≤ k + n + 1 → s.segOk .ss (s.below (j * sz.bytes)) sz.bytes .write = true)
    (hread : ∀ j, 1 ≤ j → j ≤ k + n → s.segOk .ss (s.displayOffset sz.bytes j) sz.bytes .read = true) :
    copyDisplay sz n bp ((s.display sz k).setStackPtr (s.below ((k + 1) * sz.bytes))) =
      .ok () ((s.display sz (k + n)).setStackPtr (s.below ((k + n + 1) * sz.bytes))) := by
  induction n generalizing k bp with
  | zero => rfl
  | succ n ih =>
    have ht := touched_display s sz k
    have hnext : wrapOff s.ssz32 (bp - BitVec.ofNat 32 sz.bytes) = s.displayOffset sz.bytes (k + 1) := by
      rw [← wrapOff_wrapOff_sub, hbp, State.displayOffset, wrapOff_sub_add, ← Nat.succ_mul]
      rfl
    have hentry := lread_display ht hp (hread (k + 1) (by omega) (by omega)) (s.below ((k + 1) * sz.bytes))
    have hitem := push_below ht hp (hpush (k + 2) (by omega) (by omega)) (s.displayEntry sz (s.display sz k) (k + 1))
    rw [← display_succ] at hitem
    have hrest := ih (k := k + 1) (bp := s.displayOffset sz.bytes (k + 1)) (wrapOff_wrapOff ..)
      (fun j hj hn => hpush j hj (by omega)) fun j hj hn => hread j hj (by omega)
    have hsize : ((s.display sz k).setStackPtr (s.below ((k + 1) * sz.bytes))).ssz32 = s.ssz32 := ht.ssz32
    rw [copyDisplay, bind_of_ok (getS_apply _), hsize, hnext, bind_of_ok hentry, bind_of_ok hitem, hrest,
      show k + 1 + n = k + (n + 1) by omega]

/-- ENTER at a level of 1 to 31 pushes BP, the entries of the enclosing display and the frame pointer (R420). -/
theorem enterFrame_nested_plain {n : BitVec 16} {lvl : BitVec 8} (h1 : 1 ≤ lvl.toNat % 32)
    (hpush : ∀ j, 1 ≤ j → j ≤ lvl.toNat % 32 + 1 → s.segOk .ss (s.below (j * sz.bytes)) sz.bytes .write = true)
    (hread : ∀ j, 1 ≤ j → j < lvl.toNat % 32 → s.segOk .ss (s.displayOffset sz.bytes j) sz.bytes .read = true) :
    let frame := (s.below sz.bytes).setWidth sz.bits
    let pushed := (s.display sz (lvl.toNat % 32 - 1)).store (s.slot sz.bytes (lvl.toNat % 32 + 1)) frame
    let u := (pushed.setReg sz .bp frame).setStackPtr (s.below ((lvl.toNat % 32 + 1) * sz.bytes + n.toNat))
    enterFrame sz n lvl s = if n = 0#16 ∨ u.seg.ss.inLimit u.stackPtr n.toNat = true then .ok () u
      else .error (.exc ⟨vSS, zeroCode false⟩) u := by
  generalize hlevel : lvl.toNat % 32 = level at *
  obtain ⟨k, rfl⟩ : ∃ k, level = k + 1 := ⟨level - 1, by omega⟩
  intro frame pushed u
  have htouch := touched_display s sz k
  have hfirst : push sz (s.reg sz .bp) s = .ok () ((s.display sz 0).setStackPtr (s.below sz.bytes)) := by
    have hloc := locate_plain (w := true) hp (hpush 1 (Nat.le_refl 1) (by omega))
    rw [Nat.one_mul] at hloc
    rw [push_of_locate _ hloc, State.display, State.slot, Nat.one_mul]
    rfl
  have htop : ((s.display sz 0).setStackPtr (s.below sz.bytes)).stackPtr = s.below sz.bytes :=
    (stackPtr_setStackPtr ..).trans (wrapOff_wrapOff ..)
  have hcopy := copyDisplay_plain hp (k := 0) (n := k) (bp := s.gpr.ebp) (by rw [State.displayOffset, Nat.zero_mul, BitVec.sub_zero])
    (fun j hj hn => hpush j hj (by omega)) fun j hj hn => hread j hj (by omega)
  rw [Nat.zero_add, Nat.zero_add, Nat.one_mul] at hcopy
  have hframe := push_below htouch hp (hpush (k + 2) (by omega) (by omega)) frame
  exact (enterFrame_nested (by omega) hfirst (congrArg _ htop) (by rwa [hlevel]) hframe).trans
    (openFrame_pushed (htouch.trans (touched_store ..)))

end

/-- Settles O28. -/
theorem stackFrames : Obligations.StackFrames := by
  refine ⟨?flat, ?nested, ?leave⟩
  case flat =>
    intro n k s s1 l hl h0 hloc t u hroom
    have hbody : enterFrame s.osz n k s = .ok () u := by
      rw [enterFrame_flat h0 (push_of_locate _ hloc), openFrame_apply rfl, if_pos hroom]
    exact run_of_ok hl hbody
  case nested =>
    intro n k s hp h1 level w source hpush hread frame display u
    obtain ⟨-, -, -, hl⟩ := s.plain_iff.1 hp
    exact run_of_checked hl (enterFrame_nested_plain hp h1 hpush hread)
  case leave =>
    intro s s1 l hl t hloc
    have hpop : leaveFrame s.osz s = .ok () ((s1.setStackPtr (t.above s.osz.bytes)).setReg s.osz .bp (s1.load s.osz.bits l)) := by
      rw [leaveFrame, bind_of_ok (modS_apply ..), bind_of_ok (pop_of_locate hloc), putReg_apply]
    exact run_of_ok hl hpop

end Sys2Proof.Machine
end

section
/-! WAIT, ESC, and the operand the coprocessor transfers (46_block_flag_coproc_misc.md R440, R441; 61_debug_coproc_multiproc.md R694). -/
namespace Sys2Proof.Machine

/-! ## WAIT -/

/-- A check that something is not so raises where it is, and else goes on. -/
theorem require_not_bind {α : Type} (c : Bool) (v : BitVec 8) (e : ErrCode) (f : Unit → M α) (s : State) :
    (require (!c) v e >>= f) s = if c = true then .error (.exc ⟨v, e⟩) s else f () s := by
  cases c <;> rfl

/-- WAIT asks for MP and TS, then for BUSY#, then for ERROR# (R441, D43). -/
theorem waitCop_apply (s : State) : waitCop s =
    if (s.cr0.MP && s.cr0.TS) = true then .error (.exc ⟨vNM, .none⟩) s
    else if s.pins.busy = true then (runAgain >>= fun _ => pure .again) s
    else if (s.cr0.EM || !s.pins.error) = true then .ok .normal s else .error (.exc ⟨vMF, .none⟩) s := by
  rw [waitCop, bind_of_ok (getS_apply s), require_not_bind, if_apply, require_bind]
  rfl

theorem exec_wait_notAvailable {s : State} (hl : s.pfx.lock = false) (hmp : s.cr0.MP = true) (hts : s.cr0.TS = true) :
    exec .wait s = s.takes s vNM .none := by
  have hbody : waitCop s = .error (.exc ⟨vNM, .none⟩) s := by rw [waitCop_apply, hmp, hts, if_pos (Bool.and_self true)]
  exact runInstr_of_error (.inl hl) hbody

/-- What WAIT does where the coprocessor is available to the task. -/
theorem exec_wait_available {s : State} (hl : s.pfx.lock = false) (hav : s.cr0.MP = false ∨ s.cr0.TS = false) :
    (s.pins.busy = true → ∃ q k, (s.plat.prefetchDepth = 0 → q = [] ∧ k = s.draws) ∧
      exec .wait s = .next ({ s with eipNext := s.eip, pastEnd := false, queue := q, draws := k }.finished .again)) ∧
    (s.pins.busy = false → s.pins.error = true → s.cr0.EM = false → exec .wait s = s.takes s vMF .none) ∧
    (s.pins.busy = false → (s.pins.error = false ∨ s.cr0.EM = true) → exec .wait s = .next (s.finished .normal)) := by
  have hav : ¬ (s.cr0.MP && s.cr0.TS) = true := by rwa [Bool.not_eq_true, Bool.and_eq_false_iff]
  refine ⟨fun hb => ?busy, fun hb he hem => ?error, fun hb he => ?done⟩
  case busy =>
    obtain ⟨q, k, hq, hagain⟩ := runAgain_ok s
    have hbody := (waitCop_apply s).trans ((if_neg hav).trans ((if_pos hb).trans (bind_of_ok hagain)))
    exact ⟨q, k, hq, runInstr_of_ok (.inl hl) hbody⟩
  case error =>
    have hbody : waitCop s = .error (.exc ⟨vMF, .none⟩) s := by
      rw [waitCop_apply, if_neg hav, hb, if_neg Bool.false_ne_true, he, hem, if_neg (by decide)]
    exact runInstr_of_error (.inl hl) hbody
  case done =>
    have hok : (s.cr0.EM || !s.pins.error) = true := by rwa [Bool.or_eq_true, Bool.not_eq_true', or_comm]
    have hbody : waitCop s = .ok .normal s := by
      rw [waitCop_apply, if_neg hav, hb, if_neg Bool.false_ne_true, if_pos hok]
    exact runInstr_of_ok (.inl hl) hbody

/-! ## The operand of ESC -/

theorem copOffset_eq (g : SegReg) (ea : BitVec 32) (k : Nat) : g.copOffset ea k =
    if (g.small && decide (ea.toNat ≤ 0xFFFF)) = true then ((ea + BitVec.ofNat 32 k).setWidth 16).setWidth 32
    else ea + BitVec.ofNat 32 k := by
  rw [SegReg.copOffset, wrapOff, ← BitVec.setWidth_eq_extractLsb' (x := ea + BitVec.ofNat 32 k) (by decide)]
  cases g.small && decide (ea.toNat ≤ 0xFFFF) <;> rfl

/-- The fault of a byte outside its segment (21_protection.md R170). -/
def segHalt (r : SReg) : Halt := .exc ⟨if r = .ss then vSS else vGP, zeroCode false⟩

theorem segFault_apply {α : Type} (r : SReg) (s : State) : (segFault r : M α) s = .error (segHalt r) s := by
  cases r <;> rfl

/-- Byte `k` of an operand passes its segment checks. -/
def State.copPasses (s : State) (r : SReg) (ea : BitVec 32) (w : Bool) (k : Nat) : Prop :=
  s.segOk r ((s.seg.get r).copOffset ea k) 1 (if w then .write else .read) = true

/-- The address of byte `k` of an operand in a plain state. -/
def State.copAddr (s : State) (r : SReg) (ea : BitVec 32) (k : Nat) : BitVec 32 := (s.seg.get r).base + (s.seg.get r).copOffset ea k

section
variable {s : State} {r : SReg} {ea : BitVec 32} {w : Bool}

theorem copByteAt_bad {k : Nat} (h : ¬ s.copPasses r ea w k) : copByteAt r ea w k s = .error (segHalt r) s := by
  rw [copByteAt, bind_of_ok (getS_apply s)]
  exact locate_bad (Bool.eq_false_iff.2 h)

variable (hp : s.plain = true)
include hp

theorem copByteAt_plain {k : Nat} (h : s.copPasses r ea w k) : copByteAt r ea w k s = .ok [s.copAddr r ea k] s := by
  rw [copByteAt, bind_of_ok (getS_apply s)]
  exact locate_plain hp h

theorem copBytesAt_plain {k n : Nat} (h : ∀ j, k ≤ j → j < k + n → s.copPasses r ea w j) :
    copBytesAt r ea w k n s = .ok ((List.range' k n).map (s.copAddr r ea)) s := by
  induction n generalizing k with
  | zero => rfl
  | succ n ih =>
    rw [copBytesAt, bind_of_ok (copByteAt_plain hp (h k (by omega) (by omega))),
      bind_of_ok (ih fun j hj hn => h j (by omega) (by omega))]
    rfl

/-- The first byte that fails its checks stops the location. -/
theorem copBytesAt_bad {k n : Nat} (h : ∃ j, k ≤ j ∧ j < k + n ∧ ¬ s.copPasses r ea w j) :
    copBytesAt r ea w k n s = .error (segHalt r) s := by
  obtain ⟨j, hkj, hjn, hj⟩ := h
  induction n generalizing k with
  | zero => omega
  | succ n ih =>
    rw [copBytesAt]
    by_cases hk : s.copPasses r ea w k
    · have hne : k ≠ j := fun h => hj (h ▸ hk)
      rw [bind_of_ok (copByteAt_plain hp hk), bind_of_error (ih (by omega) (by omega))]
    · exact bind_of_error (copByteAt_bad hk)

end

/-! ### The middle bytes -/

section
variable {s t : State} {r : SReg} {x : M Loc} {wraps : Bool}

theorem raiseOverrun_apply {α : Type} (s : State) : ∃ ret, (raiseOverrun : M α) s = .error (.abort ret) (s.drawn (s.draws + 1)) :=
  ⟨_, rfl⟩

theorem orOverrun_of_straight : orOverrun r false x s = x s := by
  rw [orOverrun, Bool.false_and, if_neg Bool.false_ne_true]
  cases x s with
  | ok => rfl
  | error e => cases e <;> rfl

theorem orOverrun_of_wrap_ok {l : Loc} (hm : s.protectedMode = true) (hx : x s = .ok l s) :
    orOverrun r true x s = .error (segHalt r) s := by
  rw [orOverrun, hm, hx]
  exact segFault_apply r s

theorem orOverrun_of_wrap_real (hm : s.protectedMode = false) : orOverrun r true x s = raiseOverrun s := by
  rw [orOverrun, hm]
  rfl

theorem orOverrun_of_wrap_bad {e : Exc} (hx : x s = .error (.exc e) s) : orOverrun r true x s = raiseOverrun s := by
  rw [orOverrun, hx]
  cases s.protectedMode <;> rfl

end

/-! ### The whole operand -/

theorem ends_append_middle {α : Type} (f : Nat → α) (m : Nat) :
    [f 0] ++ (List.range' 1 m).map f ++ [f (m + 1)] = (List.range (m + 2)).map f := by
  rw [List.range_succ, List.map_append, List.range_eq_range', List.range'_succ]
  rfl

section
variable {s : State} {r : SReg} {ea : BitVec 32} {w : Bool} (hp : s.plain = true) {n : Nat}
include hp

/-- An operand of which an end is not accessible is an ordinary fault. -/
theorem copOperand_bad (hn : 2 ≤ n) (h : ¬ s.copPasses r ea w 0 ∨ ¬ s.copPasses r ea w (n - 1)) :
    copOperand r ea n w s = .error (segHalt r) s := by
  rw [copOperand, bind_of_ok (getS_apply s), if_neg (by omega)]
  by_cases h0 : s.copPasses r ea w 0
  · have hlast : ¬ s.copPasses r ea w (n - 1) := h.resolve_left (not_not_intro h0)
    rw [bind_of_ok (copByteAt_plain hp h0), if_neg (by omega), bind_of_error (copByteAt_bad hlast)]
  · exact bind_of_error (copByteAt_bad h0)

/-- With both ends accessible, what lies between decides. -/
theorem copOperand_of_ends (hn : 2 ≤ n) (h0 : s.copPasses r ea w 0) (hlast : s.copPasses r ea w (n - 1)) :
    copOperand r ea n w s = (orOverrun r ((s.seg.get r).copWraps ea n) (copBytesAt r ea w 1 (n - 2)) >>= fun middle =>
      pure ([s.copAddr r ea 0] ++ middle ++ [s.copAddr r ea (n - 1)])) s := by
  rw [copOperand, bind_of_ok (getS_apply s), if_neg (by omega), bind_of_ok (copByteAt_plain hp h0), if_neg (by omega),
    bind_of_ok (copByteAt_plain hp hlast)]

theorem copOperand_plain (h : ∀ k, k < n → s.copPasses r ea w k) (hw : (s.seg.get r).copWraps ea n = false) :
    copOperand r ea n w s = .ok ((List.range n).map (s.copAddr r ea)) s := by
  rcases n with _ | _ | m
  case zero => rfl
  case succ.zero =>
    rw [copOperand, bind_of_ok (getS_apply s), if_neg (by omega), bind_of_ok (copByteAt_plain hp (h 0 (by omega)))]
    rfl
  case succ.succ =>
    have hmiddle : orOverrun r false (copBytesAt r ea w 1 m) s = .ok ((List.range' 1 m).map (s.copAddr r ea)) s :=
      orOverrun_of_straight.trans (copBytesAt_plain hp fun j _ hj => h j (by omega))
    rw [copOperand_of_ends (n := m + 2) hp (by omega) (h 0 (by omega)) (h (m + 1) (by omega)), hw, Nat.add_sub_cancel, bind_of_ok hmiddle]
    exact congrArg (EStateM.Result.ok · s) (ends_append_middle (s.copAddr r ea) m)

/-- An operand that wraps over accessible bytes alone (21_protection.md R172, D29). -/
theorem copOperand_wraps (hn : 2 ≤ n) (h : ∀ k, k < n → s.copPasses r ea w k) (hw : (s.seg.get r).copWraps ea n = true)
    (hm : s.protectedMode = true) : copOperand r ea n w s = .error (segHalt r) s := by
  have hmiddle := copBytesAt_plain hp (r := r) (ea := ea) (w := w) (k := 1) (n := n - 2) fun j _ hj => h j (by omega)
  rw [copOperand_of_ends hp hn (h 0 (by omega)) (h (n - 1) (by omega)), hw, bind_of_error (orOverrun_of_wrap_ok hm hmiddle)]

/-- An operand with accessible ends that wraps in real-address mode, or over a byte that is not accessible (R694). -/
theorem copOperand_overrun (hn : 2 ≤ n) (h0 : s.copPasses r ea w 0) (hlast : s.copPasses r ea w (n - 1))
    (hw : (s.seg.get r).copWraps ea n = true) (h : s.protectedMode = false ∨ ∃ k, k < n ∧ ¬ s.copPasses r ea w k) :
    ∃ ret, copOperand r ea n w s = .error (.abort ret) (s.drawn (s.draws + 1)) := by
  have hmiddle : orOverrun r true (copBytesAt r ea w 1 (n - 2)) s = raiseOverrun s := by
    rcases h with hm | ⟨k, hk, hbad⟩
    · exact orOverrun_of_wrap_real hm
    · have hfirst : k ≠ 0 := fun h => hbad (h ▸ h0)
      have hend : k ≠ n - 1 := fun h => hbad (h ▸ hlast)
      exact orOverrun_of_wrap_bad (copBytesAt_bad hp ⟨k, by omega, by omega, hbad⟩)
  obtain ⟨ret, hret⟩ := raiseOverrun_apply (α := Loc) s
  exact ⟨ret, by rw [copOperand_of_ends hp hn h0 hlast, hw, bind_of_error (hmiddle.trans hret)]⟩

end

/-! ### An operand inside its segment -/

/-- The bytes of an access inside the limit lie below the end of the offsets, which for a small segment is 2^16. -/
theorem end_le_of_inLimit {g : SegReg} {ea : BitVec 32} {n : Nat} (h : g.inLimit ea n = true) :
    ea.toNat + n ≤ 0x100000000 ∧ (g.small = true → ea.toNat + n ≤ 0x10000) := by
  have hlim := g.limit.isLt
  rw [SegReg.inLimit] at h
  rw [SegReg.small]
  split at h
  case isTrue hd =>
    rw [Bool.and_eq_true, decide_eq_true_iff, decide_eq_true_iff] at h
    rw [if_pos hd]
    cases hdb : g.db <;> simp [hdb] at h ⊢ <;> omega
  case isFalse hd =>
    rw [decide_eq_true_iff] at h
    rw [if_neg hd, decide_eq_true_iff]
    omega

/-- Inside the limit the offsets of an operand's bytes do not wrap. -/
theorem copOffset_of_inLimit {g : SegReg} {ea : BitVec 32} {n k : Nat} (h : g.inLimit ea n = true) (hk : k < n) :
    g.copOffset ea k = ea + BitVec.ofNat 32 k ∧ (ea + BitVec.ofNat 32 k).toNat = ea.toNat + k := by
  obtain ⟨hend, hsmall⟩ := end_le_of_inLimit h
  have hnat : (ea + BitVec.ofNat 32 k).toNat = ea.toNat + k := by
    rw [BitVec.toNat_add, BitVec.toNat_ofNat]
    omega
  refine ⟨?_, hnat⟩
  rw [copOffset_eq]
  split
  case isTrue hs =>
    have := hsmall (Bool.and_eq_true_iff.1 hs).1
    apply BitVec.eq_of_toNat_eq
    rw [BitVec.toNat_setWidth, BitVec.toNat_setWidth, hnat]
    omega
  case isFalse => rfl

theorem Loc.from_eq_map (a : BitVec 32) (n : Nat) : Loc.from a n = (List.range n).map fun k => a + BitVec.ofNat 32 k := by
  induction n generalizing a with
  | zero => rfl
  | succ n ih =>
    rw [Loc.from, ih, List.range_succ_eq_map, List.map_cons, List.map_map, BitVec.add_zero]
    refine congrArg _ (List.map_congr_left fun k _ => ?_)
    rw [Function.comp_apply, BitVec.add_assoc, Nat.succ_eq_one_add, BitVec.ofNat_add]

theorem copOperand_of_segOk {s : State} {r : SReg} {ea : BitVec 32} {w : Bool} {m n : Nat} (hp : s.plain = true) (hn : n ≤ m) (hm : 0 < m)
    (h : s.segOk r ea m (if w then .write else .read) = true) : copOperand r ea n w s = .ok (s.bytesAt r ea n) s := by
  obtain ⟨ht, hl⟩ := segOk_eq_true.1 h
  have hpass (k : Nat) (hk : k < n) : s.copPasses r ea w k := by
    obtain ⟨hoff, hnat⟩ := copOffset_of_inLimit hl (hk.trans_le hn)
    rw [State.copPasses, hoff]
    exact segOk_eq_true.2 ⟨ht, SegReg.inLimit_of_part (by omega) (by omega) hl⟩
  have hwrap : (s.seg.get r).copWraps ea n = false := by
    obtain ⟨hoff, hnat⟩ := copOffset_of_inLimit (k := n - 1) hl (by omega)
    rw [SegReg.copWraps, hoff, hnat, decide_eq_false_iff_not]
    omega
  rw [copOperand_plain hp hpass hwrap, State.bytesAt, Loc.from_eq_map]
  refine congrArg (EStateM.Result.ok · s) (List.map_congr_left fun k hk => ?_)
  rw [State.copAddr, (copOffset_of_inLimit hl ((List.mem_range.1 hk).trans_le hn)).1, BitVec.add_assoc]

/-! ## ESC -/

/-- ESC asks for EM and TS, then for ERROR#, then for a coprocessor (R440, D42). -/
theorem escape_apply (op n : BitVec 3) (rm : Rm) (s : State) : escape op n rm s =
    if s.cr0.EM = true ∨ s.cr0.TS = true then .error (.exc ⟨vNM, .none⟩) s
    else if (s.pins.error && Config.escChecksError op n rm) = true then .error (.exc ⟨vMF, .none⟩) s
    else if s.plat.coprocessor = .absent then .error (.refuse .coprocessorAbsent) s else copExecute op n rm s := by
  rw [escape, bind_of_ok (getS_apply s), require_not_bind, require_not_bind, require_not_bind, if_apply, ← ite_or]
  rfl

/-- A command handed to the coprocessor. -/
def State.handing (s : State) (c : CopCommand) : State := { s with copOut := c :: s.copOut }

/-- A register form writes AX or nothing. -/
theorem copExecute_reg (op n : BitVec 3) (e : Reg) (s : State) : ∃ (ax : Option (BitVec 16)) (k : Nat),
    let t := (s.drawn k).handing ⟨op, n, .reg e, none, []⟩
    copExecute op n (.reg e) s = .ok () (match ax with | none => t | some v => t.setReg .w .ax v) := by
  refine ⟨(Config.copAction s.plat.coprocessor s.draws op n (.reg e)).ax, s.draws + 1, ?_⟩
  rw [copExecute, bind_of_ok (getS_apply s), bind_of_ok (modS_apply ..)]
  generalize Config.copAction s.plat.coprocessor s.draws op n (.reg e) = a
  cases a.ax <;> rfl

theorem bytesOf_plain {s : State} (hp : s.plain = true) (l : Loc) : s.bytesOf l = l.map s.byteAt := by
  obtain ⟨-, -, hm, -⟩ := s.plain_iff.1 hp
  refine List.map_congr_left fun a _ => State.load_byte ?_
  rw [State.kindAt, hm]
  rfl

/-- A memory form transfers the operand it located, one way or the other. -/
theorem copExecute_of_operand {op n : BitVec 3} {m : Mem} {a : CopAction} {s t : State} {l : Loc}
    (ha : Config.copAction s.plat.coprocessor s.draws op n (.mem m) = a)
    (hl : copOperand (s.memSeg m) (memEa s.gpr m) (min a.bytes copMax) a.stores (s.drawn (s.draws + 1)) = .ok l t) :
    copExecute op n (.mem m) s = .ok () (if a.stores then
        (t.store l (BitVec.ofNat (8 * min a.bytes copMax) (copValue s.draws 0 (min a.bytes copMax)))).handing
          ⟨op, n, .mem m, some (s.memSeg m, memEa s.gpr m), []⟩
      else t.handing ⟨op, n, .mem m, some (s.memSeg m, memEa s.gpr m), t.bytesOf l⟩) := by
  rw [copExecute, bind_of_ok (getS_apply s), bind_of_ok (modS_apply ..), ha]
  refine (bind_of_ok hl).trans ?_
  cases a.stores <;> rfl

/-- A memory form reads its operand for the coprocessor, or stores what the coprocessor answers; where 108 bytes are accessible, no
operand wraps (R694). -/
theorem copExecute_mem (op n : BitVec 3) (m : Mem) {s : State} (hp : s.plain = true)
    (hr : s.segOk (s.memSeg m) (memEa s.gpr m) 108 .read = true) (hw : s.segOk (s.memSeg m) (memEa s.gpr m) 108 .write = true) :
    let r := s.memSeg m
    let ea := memEa s.gpr m
    ∃ len k : Nat, len ≤ 108 ∧
      (copExecute op n (.mem m) s =
          .ok () ((s.drawn k).handing ⟨op, n, .mem m, some (r, ea), (s.bytesAt r ea len).map s.byteAt⟩) ∨
       ∃ v : BitVec (8 * len), copExecute op n (.mem m) s =
          .ok () (((s.drawn k).store (s.bytesAt r ea len) v).handing ⟨op, n, .mem m, some (r, ea), []⟩)) := by
  intro r ea
  obtain ⟨a, ha⟩ : ∃ a, Config.copAction s.plat.coprocessor s.draws op n (.mem m) = a := ⟨_, rfl⟩
  have hok : s.segOk r ea 108 (if a.stores then .write else .read) = true := by
    split
    · exact hw
    · exact hr
  have hlen : min a.bytes copMax ≤ 108 := Nat.min_le_right ..
  have hexec := copExecute_of_operand ha (copOperand_of_segOk (s := s.drawn (s.draws + 1)) hp hlen (by omega) hok)
  refine ⟨min a.bytes copMax, s.draws + 1, hlen, ?_⟩
  cases hst : a.stores with
  | true =>
    rw [hst] at hexec
    exact .inr ⟨_, hexec⟩
  | false =>
    rw [hst, bytesOf_plain (s := s.drawn (s.draws + 1)) hp] at hexec
    exact .inl hexec

/-- Settles O29. -/
theorem coprocessorInstructions : Obligations.CoprocessorInstructions := by
  refine ⟨fun s hl => ⟨fun op n rm => ⟨fun h => ?notAvailable, fun hem hts => ?available⟩, exec_wait_notAvailable hl,
    exec_wait_available hl⟩, ?operand, fun _ _ _ => rfl⟩
  case notAvailable => exact run_of_error hl ((escape_apply ..).trans (if_pos h))
  case available =>
    have hesc := (escape_apply op n rm s).trans (if_neg (by simp [hem, hts]))
    split
    case isTrue he => exact run_of_error hl (hesc.trans (if_pos he))
    case isFalse he =>
      have hesc := hesc.trans (if_neg he)
      split
      case isTrue habs => exact run_of_error hl (hesc.trans (if_pos habs))
      case isFalse habs =>
        have hesc := hesc.trans (if_neg habs)
        refine ⟨fun e hrm => ?reg, fun m hrm hp => ?mem⟩
        case reg =>
          subst hrm
          obtain ⟨ax, k, hcop⟩ := copExecute_reg op n e s
          exact ⟨ax, k, run_of_ok hl (hesc.trans hcop)⟩
        case mem =>
          intro r ea hr hw
          subst hrm
          obtain ⟨len, k, hlen, hcop⟩ := copExecute_mem op n m hp hr hw
          exact ⟨len, k, hlen, hcop.imp (fun h => run_of_ok hl (hesc.trans h)) fun ⟨v, h⟩ => ⟨v, run_of_ok hl (hesc.trans h)⟩⟩
  case operand =>
    intro s r ea n w hp hn _ g small off passes wraps
    have hoff (k : Nat) : off k = g.copOffset ea k := (copOffset_eq g ea k).symm
    have hpass (k : Nat) : passes k ↔ s.copPasses r ea w k := by
      rw [State.copPasses, ← hoff]
    have hwraps : wraps ↔ g.copWraps ea n = true := by
      rw [SegReg.copWraps, ← hoff, decide_eq_true_iff]
    simp only [hpass, hwraps, hoff, Bool.not_eq_true]
    exact ⟨copOperand_bad hp hn, copOperand_plain hp, copOperand_wraps hp hn, copOperand_overrun hp hn⟩

end Sys2Proof.Machine
end

section
/-! HLT, CLI and STI, and the moves to and from the control, debug and test registers (48_system_io.md R505 to R507, R510, R526,
R527; 10_state.md R60 to R83). -/
namespace Sys2Proof.Machine

/-! ## The checks -/

/-- A privileged instruction at level 0 goes on (21_protection.md R184). -/
theorem privileged_of_level0 {s : State} (h : s.cpl = 0#2) : privileged s = .ok () s := by
  rw [privileged, bind_of_ok (getS_apply s), require_apply, h]
  rfl

theorem privileged_bind {α : Type} {s : State} (h : s.cpl = 0#2) (f : Unit → M α) : (privileged >>= f) s = f () s :=
  bind_of_ok (privileged_of_level0 h)

/-- A body that raises an exception before it has changed anything: the instruction takes it. -/
theorem run_of_raise {body : M Unit} {s : State} {v : BitVec 8} {e : ErrCode} (hl : s.pfx.lock = false)
    (h : body s = .error (.exc ⟨v, e⟩) s) : run body s = s.takes s v e := run_of_error hl h

/-! ## HLT, CLI, STI -/

/-- IF may be changed: outside protected mode, or at a level that IOPL admits (R526). -/
def State.mayChangeIf (s : State) : Prop := s.protectedMode = false ∨ s.cpl.toNat ≤ s.flags.IOPL.toNat

theorem ioplCheck_passes {s : State} (h : s.mayChangeIf) : ioplCheck s = .ok () s := by
  have hc : (!s.protectedMode || decide (s.cpl.toNat ≤ s.flags.IOPL.toNat)) = true := by simpa [State.mayChangeIf] using h
  rw [ioplCheck, bind_of_ok (getS_apply s), require_apply, if_pos hc]

theorem ioplCheck_fails {s : State} (hm : s.protectedMode = true) (h : s.flags.IOPL.toNat < s.cpl.toNat) :
    ioplCheck s = .error (.exc ⟨vGP, zeroCode false⟩) s := by
  rw [ioplCheck, bind_of_ok (getS_apply s), require_apply, if_neg (by simpa [hm] using h)]

/-- STI opens its shadow only where it sets IF (R527, D49). -/
theorem setIf_apply {s : State} (h : s.mayChangeIf) :
    setIf s = .ok (if s.flags.IF then .normal else .opensSti) { s with flags := { s.flags with IF := true } } := by
  rw [setIf, bind_of_ok (ioplCheck_passes h)]
  rfl

/-- Settles O42. -/
theorem haltAndInterruptFlag : Obligations.HaltAndInterruptFlag := by
  refine fun s hl => ⟨fun h0 => ?_, fun h => ⟨?_, ?_⟩, fun hm h => ⟨?_, ?_⟩⟩
  · exact run_of_ok hl (privileged_bind h0 _)
  · exact run_of_ok hl (bind_of_ok (ioplCheck_passes h))
  · exact runInstr_of_ok (.inl hl) (setIf_apply h)
  · exact run_of_raise hl (bind_of_error (ioplCheck_fails hm h))
  · exact runInstr_of_error (.inl hl) (bind_of_error (ioplCheck_fails hm h))

/-! ## Control registers -/

/-- An instruction that ends by leaving the status flags undefined. -/
theorem run_undefStatus {x : M Unit} {s t : State} (hl : s.pfx.lock = false) (h : x s = .ok () t) :
    ∃ st n, run (x >>= fun _ => undefStatus) s = .next (((t.drawn n).withStatus st).finished .normal) := by
  obtain ⟨st, n, hu⟩ := undefStatus_ok t
  exact ⟨st, n, run_of_ok hl ((bind_of_ok h).trans hu)⟩

theorem writeCr0_apply (v : BitVec 32) (s : State) :
    let t := { s with cr0 := ⟨v.getLsbD 0, v.getLsbD 1, v.getLsbD 2, v.getLsbD 3, v.getLsbD 4, v.getLsbD 31⟩ }
    writeCr0 v s = if !v.getLsbD 31 || v.getLsbD 0 then .ok () (if s.cr0.PG = v.getLsbD 31 then t else t.flushTlb)
      else .error (.exc ⟨vGP, zeroCode false⟩) s := by
  intro t
  rw [writeCr0, require_bind, modS_apply]
  simp only [beq_iff_eq]
  rfl

/-- The image of CR0 has its defined bits at their places, whatever the undefined ones are (10_state.md R60). -/
theorem cr0Image_ok (s : State) : ∃ x : BitVec 32, (x.getLsbD 31 = s.cr0.PG ∧ x.getLsbD 4 = s.cr0.ET ∧ x.getLsbD 3 = s.cr0.TS ∧
    x.getLsbD 2 = s.cr0.EM ∧ x.getLsbD 1 = s.cr0.MP ∧ x.getLsbD 0 = s.cr0.PE) ∧ cr0Image s = .ok x (s.drawn (s.draws + 1)) := by
  refine ⟨_, ?_, rfl⟩
  simp only [bit, BitVec.getLsbD_append]
  simp

/-- The write of each control register that exists (R505). -/
def writeCr (n : BitVec 3) (v : BitVec 32) : M Unit :=
  if n = 0#3 then writeCr0 v
  else if n = 2#3 then modS fun s => { s with cr2 := v }
  else modS fun s => { s with cr3 := v.extractLsb' 12 20 }.flushTlb

theorem movToCr_of_exists {n : BitVec 3} (hn : crExists n = true) (r : Reg) :
    movToCr n r = (do privileged; let v ← getReg .d r; writeCr n v; undefStatus) := by
  unfold movToCr writeCr
  rw [if_pos hn]
  refine congrArg (privileged >>= ·) (funext fun _ => congrArg (getReg .d r >>= ·) (funext fun v => ?_))
  split
  case isTrue => rfl
  case isFalse =>
    split
    case isTrue => rfl
    case isFalse => rfl

section
variable {s : State} (r : Reg) (hl : s.pfx.lock = false)
include hl

/-- MOV to a control register that exists: its write, then the flags. -/
theorem exec_movCdRd_of_write {k : BitVec 3} {t : State} (h0 : s.cpl = 0#2) (hk : crExists k = true)
    (hw : writeCr k (s.reg .d r) s = .ok () t) :
    ∃ st n, exec (.movCdRd k r) s = .next (((t.drawn n).withStatus st).finished .normal) := by
  obtain ⟨st, n, hu⟩ := run_undefStatus hl hw
  refine ⟨st, n, Eq.trans (run_congr ?_) hu⟩
  rw [movToCr_of_exists hk, privileged_bind h0, bind_of_ok (getReg_apply ..)]

/-- MOV from a control register that exists. -/
theorem exec_movRdCd_of_image {k : BitVec 3} {x : BitVec 32} {m : Nat} (h0 : s.cpl = 0#2) (hk : crExists k = true)
    (hi : crImage k s = .ok x (s.drawn m)) :
    ∃ st n, exec (.movRdCd r k) s = .next ((((s.drawn n).setReg .d r x).withStatus st).finished .normal) := by
  have hbody : (crImage k >>= fun v => putReg .d r v) s = .ok () ((s.drawn m).setReg .d r x) := bind_of_ok hi
  obtain ⟨st, n, hu⟩ := run_undefStatus hl hbody
  refine ⟨st, n, Eq.trans (run_congr ?_) hu⟩
  rw [movFromCr, if_pos hk, bind_assoc]
  exact privileged_bind h0 _

theorem exec_movCr_missing {k : BitVec 3} (hk : crExists k = false) :
    exec (.movCdRd k r) s = s.takes s 6#8 .none ∧ exec (.movRdCd r k) s = s.takes s 6#8 .none := by
  constructor <;> refine run_of_raise hl ?_
  · rw [movToCr, hk]
    rfl
  · rw [movFromCr, hk]
    rfl

end

/-- Settles O39. -/
theorem controlRegisterMoves : Obligations.ControlRegisterMoves := by
  refine fun s r hl h0 => ⟨fun hpg hpe => ?pgWithoutPe, fun hok => ?cr0, ?cr2, ?cr3, ?fromCr0, ?fromCr2, ?fromCr3, fun k k0 k2 k3 => ?missing⟩
  case pgWithoutPe =>
    have hbad : writeCr 0#3 (s.reg .d r) s = .error (.exc ⟨vGP, zeroCode false⟩) s := by
      rw [writeCr, if_pos rfl, writeCr0_apply, hpg, hpe]
      rfl
    refine run_of_raise hl ?_
    rw [movToCr_of_exists rfl, privileged_bind h0, bind_of_ok (getReg_apply ..)]
    exact bind_of_error hbad
  case cr0 =>
    refine exec_movCdRd_of_write r hl h0 rfl ?_
    rw [writeCr, if_pos rfl, writeCr0_apply, if_pos (by simpa using hok)]
  case cr2 => exact exec_movCdRd_of_write r hl h0 rfl (by rw [writeCr, if_neg (by decide), if_pos rfl, modS_apply])
  case cr3 => exact exec_movCdRd_of_write r hl h0 rfl (by rw [writeCr, if_neg (by decide), if_neg (by decide), modS_apply])
  case fromCr0 =>
    obtain ⟨x, ⟨h31, h4, h3, h2, h1, h0'⟩, hx⟩ := cr0Image_ok s
    have hi : crImage 0#3 s = .ok x (s.drawn (s.draws + 1)) := by rwa [crImage, bind_of_ok (getS_apply s), if_pos rfl]
    obtain ⟨st, n, h⟩ := exec_movRdCd_of_image r hl h0 rfl hi
    exact ⟨x, st, n, h31, h4, h3, h2, h1, h0', h⟩
  case fromCr2 =>
    have hi : crImage 2#3 s = .ok s.cr2 (s.drawn s.draws) := by
      rw [crImage, bind_of_ok (getS_apply s), if_neg (by decide), if_pos rfl]
      rfl
    exact exec_movRdCd_of_image r hl h0 rfl hi
  case fromCr3 =>
    have hi : crImage 3#3 s = .ok (s.cr3 ++ (Config.freeValue s.draws).setWidth 12) (s.drawn (s.draws + 1)) := by
      rw [crImage, bind_of_ok (getS_apply s), if_neg (by decide), if_neg (by decide), bind_of_ok (draw_apply ..)]
      rfl
    obtain ⟨st, n, h⟩ := exec_movRdCd_of_image r hl h0 rfl hi
    exact ⟨_, st, n, BitVec.extractLsb'_append_eq_left, h⟩
  case missing =>
    refine exec_movCr_missing r hl ?_
    simp [crExists, k0, k2, k3]


/-! ## Debug registers -/

/-- DR4 and DR5 do not exist (R506, D48). -/
theorem debugCheck_missing {s : State} {n : BitVec 3} (h : n = 4#3 ∨ n = 5#3) : debugCheck n s = .error (.exc ⟨vUD, .none⟩) s := by
  rw [debugCheck, if_pos h]
  rfl

theorem debugCheck_of_exists {s : State} {n : BitVec 3} (h0 : s.cpl = 0#2) (h4 : n ≠ 4#3) (h5 : n ≠ 5#3) :
    debugCheck n s = generalDetect s := by
  rw [debugCheck, if_neg (not_or.2 ⟨h4, h5⟩)]
  exact privileged_bind h0 _

theorem generalDetect_of_free {s : State} (h : s.plat.iceInUse = false) : generalDetect s = .ok () s := by
  rw [generalDetect, bind_of_ok (getS_apply s), h, if_neg Bool.false_ne_true]
  rfl

theorem debugCheck_of_free {s : State} {n : BitVec 3} (h0 : s.cpl = 0#2) (hi : s.plat.iceInUse = false) (h4 : n ≠ 4#3) (h5 : n ≠ 5#3) :
    debugCheck n s = .ok () s := (debugCheck_of_exists h0 h4 h5).trans (generalDetect_of_free hi)

section
variable {s : State} (r : Reg) (hl : s.pfx.lock = false)
include hl

/-- MOV to a debug register that exists, with the emulator off the debug registers. -/
theorem exec_movDdRd_of_free {k : BitVec 3} (h0 : s.cpl = 0#2) (hi : s.plat.iceInUse = false) (h4 : k ≠ 4#3) (h5 : k ≠ 5#3) :
    ∃ st n, exec (.movDdRd k r) s =
      .next (((({ s with dbg := s.dbg.write k (s.reg .d r) }).drawn n).withStatus st).finished .normal) := by
  have hw : (modS fun s' => { s' with dbg := s'.dbg.write k (s.reg .d r) }) s = .ok () { s with dbg := s.dbg.write k (s.reg .d r) } := rfl
  obtain ⟨st, n, hu⟩ := run_undefStatus hl hw
  refine ⟨st, n, Eq.trans (run_congr ?_) hu⟩
  rw [movToDr, bind_of_ok (debugCheck_of_free h0 hi h4 h5), bind_of_ok (getReg_apply ..)]

/-- MOV from a debug register that exists, with the emulator off the debug registers. -/
theorem exec_movRdDd_of_free {k : BitVec 3} (h0 : s.cpl = 0#2) (hi : s.plat.iceInUse = false) (h4 : k ≠ 4#3) (h5 : k ≠ 5#3) :
    ∃ st n, exec (.movRdDd r k) s = .next ((((s.drawn n).setReg .d r (s.dbg.read k)).withStatus st).finished .normal) := by
  obtain ⟨st, n, hu⟩ := run_undefStatus hl (putReg_apply .d r (s.dbg.read k) s)
  refine ⟨st, n, Eq.trans (run_congr ?_) hu⟩
  rw [movFromDr, bind_of_ok (debugCheck_of_free h0 hi h4 h5), bind_of_ok (getS_apply s)]

theorem exec_movDr_missing {k : BitVec 3} (h : k = 4#3 ∨ k = 5#3) :
    exec (.movDdRd k r) s = s.takes s 6#8 .none ∧ exec (.movRdDd r k) s = s.takes s 6#8 .none :=
  ⟨run_of_raise hl (bind_of_error (debugCheck_missing h)), run_of_raise hl (bind_of_error (debugCheck_missing h))⟩

end

/-! ## Test registers -/

/-- A computation that takes free values and does nothing else to the machine. -/
def Draws {α : Type} (x : M α) : Prop := ∀ s, ∃ a n, x s = .ok a (s.drawn n)

theorem Draws.bind_apply {α β : Type} {x : M α} (h : Draws x) (f : α → M β) (s : State) :
    ∃ a n, (x >>= f) s = f a (s.drawn n) := by
  obtain ⟨a, n, hx⟩ := h s
  exact ⟨a, n, bind_of_ok hx⟩

theorem Draws.bind_drawn {α β : Type} {x : M α} (h : Draws x) (f : α → M β) (s : State) (k : Nat) :
    ∃ a n, (x >>= f) (s.drawn k) = f a (s.drawn n) := h.bind_apply f (s.drawn k)

theorem draws_pure {α : Type} (a : α) : Draws (pure a : M α) := fun s => ⟨a, s.draws, rfl⟩
theorem draws_drawBool : Draws drawBool := fun _ => ⟨_, _, rfl⟩
theorem draws_draw (w : Nat) : Draws (draw w) := fun _ => ⟨_, _, rfl⟩

theorem Draws.ite {α : Type} {c : Prop} [Decidable c] {x y : M α} (hx : Draws x) (hy : Draws y) : Draws (if c then x else y) := by
  split
  · exact hx
  · exact hy

theorem draws_tlbPair (x nx : Bool) : Draws (tlbPair x nx) := (draws_pure _).ite draws_drawBool

theorem draws_tlbPairMatches (x nx b : Bool) : Draws (tlbPairMatches x nx b) := (draws_pure _).ite draws_drawBool

theorem draws_tlbProbe (c : BitVec 32) (k : Nat) : Draws (tlbProbe c k) := by
  intro s
  rw [tlbProbe, bind_of_ok (getS_apply s)]
  obtain ⟨d, _, h⟩ := (draws_tlbPairMatches (c.getLsbD 10) (c.getLsbD 9) _).bind_apply _ s
  rw [h]
  obtain ⟨u, _, h⟩ := (draws_tlbPairMatches (c.getLsbD 8) (c.getLsbD 7) _).bind_drawn _ s _
  rw [h]
  obtain ⟨w, n, h⟩ := (draws_tlbPairMatches (c.getLsbD 6) (c.getLsbD 5) _).bind_drawn _ s _
  rw [h]
  exact ⟨_, n, rfl⟩

/-- A lookup command writes TR6 and TR7 (20_memory.md R142). -/
theorem tlbLookup_frame (c : BitVec 32) (s : State) :
    ∃ t, tlbLookup c s = .ok () t ∧ t = ({ s with tr6 := t.tr6, tr7 := t.tr7 }).drawn t.draws := by
  rw [tlbLookup]
  obtain ⟨m0, _, h⟩ := (draws_tlbProbe c 0).bind_apply _ s
  rw [h]
  obtain ⟨m1, _, h⟩ := (draws_tlbProbe c 1).bind_drawn _ s _
  rw [h]
  obtain ⟨m2, _, h⟩ := (draws_tlbProbe c 2).bind_drawn _ s _
  rw [h]
  obtain ⟨m3, _, h⟩ := (draws_tlbProbe c 3).bind_drawn _ s _
  rw [h]
  obtain ⟨phys, _, h⟩ := (draws_draw 20).bind_drawn _ s _
  rw [h]
  obtain ⟨rep, _, h⟩ := (draws_draw 2).bind_drawn _ s _
  rw [h]
  obtain ⟨ht, _, h⟩ := draws_drawBool.bind_drawn _ s _
  rw [h, bind_of_ok (getS_apply _), if_apply]
  split
  case isTrue => exact ⟨_, rfl, rfl⟩
  case isFalse =>
    generalize [m0, m1, m2, m3].filterMap id = hits
    rcases hits with _ | ⟨⟨k, e⟩, _ | ⟨_, _⟩⟩ <;> exact ⟨_, rfl, rfl⟩

/-- A write command changes the TLB at most (20_memory.md R142). -/
theorem tlbWrite_frame (c : BitVec 32) (s : State) :
    ∃ t, tlbWrite c s = .ok () t ∧ t = ({ s with tlb := t.tlb }).drawn t.draws := by
  rw [tlbWrite]
  obtain ⟨d, _, h⟩ := (draws_tlbPair (c.getLsbD 10) (c.getLsbD 9)).bind_apply _ s
  rw [h]
  obtain ⟨u, _, h⟩ := (draws_tlbPair (c.getLsbD 8) (c.getLsbD 7)).bind_drawn _ s _
  rw [h]
  obtain ⟨w, _, h⟩ := (draws_tlbPair (c.getLsbD 6) (c.getLsbD 5)).bind_drawn _ s _
  rw [h]
  obtain ⟨other, k, h⟩ := draws_drawBool.bind_drawn _ s _
  rw [h, bind_of_ok (getS_apply _), if_apply]
  split
  case isTrue =>
    rw [if_apply]
    split
    case isTrue =>
      obtain ⟨b, n, hb, -⟩ := drawTlb_length 32 (s.drawn k)
      exact ⟨_, (bind_of_ok hb).trans (modS_apply ..), rfl⟩
    case isFalse => exact ⟨_, rfl, rfl⟩
  case isFalse => exact ⟨_, rfl, rfl⟩

theorem testCheck_passes {s : State} {n : BitVec 3} (h0 : s.cpl = 0#2) (h : n = 6#3 ∨ n = 7#3) : testCheck n s = .ok () s := by
  rw [testCheck, if_pos h]
  exact privileged_of_level0 h0

theorem testCheck_missing {s : State} {n : BitVec 3} (h6 : n ≠ 6#3) (h7 : n ≠ 7#3) : testCheck n s = .error (.exc ⟨vUD, .none⟩) s := by
  rw [testCheck, if_neg (not_or.2 ⟨h6, h7⟩)]
  rfl

/-- The write of a test register: TR6 performs its command (R507). -/
def writeTr (n : BitVec 3) (v : BitVec 32) : M Unit :=
  if n = 6#3 then do
    modS fun s => { s with tr6 := v &&& 0xFFFFFFE1#32 }
    if v.getLsbD 0 then tlbLookup v else tlbWrite v
  else modS fun s => { s with tr7 := v &&& 0xFFFFF01C#32 }

theorem movToTr_eq (n : BitVec 3) (r : Reg) : movToTr n r = (do testCheck n; let v ← getReg .d r; writeTr n v; undefStatus) := by
  unfold movToTr writeTr
  refine congrArg (testCheck n >>= ·) (funext fun _ => congrArg (getReg .d r >>= ·) (funext fun v => ?_))
  split
  case isTrue =>
    rw [bind_assoc]
    refine congrArg (modS _ >>= ·) (funext fun _ => ?_)
    split
    case isTrue => rfl
    case isFalse => rfl
  case isFalse => rfl

section
variable {s : State} (r : Reg) (hl : s.pfx.lock = false)
include hl

/-- MOV to a test register that exists: its write, then the flags. -/
theorem exec_movTdRd_of_write {k : BitVec 3} {t : State} (h0 : s.cpl = 0#2) (hk : k = 6#3 ∨ k = 7#3)
    (hw : writeTr k (s.reg .d r) s = .ok () t) :
    ∃ st n, exec (.movTdRd k r) s = .next (((t.drawn n).withStatus st).finished .normal) := by
  obtain ⟨st, n, hu⟩ := run_undefStatus hl hw
  refine ⟨st, n, Eq.trans (run_congr ?_) hu⟩
  rw [movToTr_eq, bind_of_ok (testCheck_passes h0 hk), bind_of_ok (getReg_apply ..)]

/-- MOV from a test register that exists. -/
theorem exec_movRdTd_of_exists {k : BitVec 3} (h0 : s.cpl = 0#2) (hk : k = 6#3 ∨ k = 7#3) :
    ∃ st n, exec (.movRdTd r k) s =
      .next ((((s.drawn n).setReg .d r (if k = 6#3 then s.tr6 else s.tr7)).withStatus st).finished .normal) := by
  obtain ⟨st, n, hu⟩ := run_undefStatus hl (putReg_apply .d r (if k = 6#3 then s.tr6 else s.tr7) s)
  refine ⟨st, n, Eq.trans (run_congr ?_) hu⟩
  rw [movFromTr, bind_of_ok (testCheck_passes h0 hk), bind_of_ok (getS_apply s)]

/-- A lookup, then the flags. -/
theorem exec_movTdRd_lookup (h0 : s.cpl = 0#2) (h : (s.reg .d r).getLsbD 0 = true) :
    ∃ st n t6 t7, exec (.movTdRd 6#3 r) s =
      .next (((({ s with tr6 := t6, tr7 := t7 }).drawn n).withStatus st).finished .normal) := by
  obtain ⟨t, ht, hframe⟩ := tlbLookup_frame (s.reg .d r) { s with tr6 := s.reg .d r &&& 0xFFFFFFE1#32 }
  have hw : writeTr 6#3 (s.reg .d r) s = .ok () (({ s with tr6 := t.tr6, tr7 := t.tr7 }).drawn t.draws) := by
    rw [writeTr, if_pos rfl, bind_of_ok (modS_apply ..), if_pos h, ht]
    exact congrArg _ hframe
  obtain ⟨st, n, hx⟩ := exec_movTdRd_of_write r hl h0 (.inl rfl) hw
  exact ⟨st, n, t.tr6, t.tr7, hx⟩

/-- A write command, then the flags. -/
theorem exec_movTdRd_command (h0 : s.cpl = 0#2) (h : (s.reg .d r).getLsbD 0 = false) :
    ∃ st n b, exec (.movTdRd 6#3 r) s =
      .next (((({ s with tr6 := s.reg .d r &&& 0xFFFFFFE1#32, tlb := b }).drawn n).withStatus st).finished .normal) := by
  obtain ⟨t, ht, hframe⟩ := tlbWrite_frame (s.reg .d r) { s with tr6 := s.reg .d r &&& 0xFFFFFFE1#32 }
  have hw : writeTr 6#3 (s.reg .d r) s =
      .ok () (({ s with tr6 := s.reg .d r &&& 0xFFFFFFE1#32, tlb := t.tlb }).drawn t.draws) := by
    rw [writeTr, if_pos rfl, bind_of_ok (modS_apply ..), h, if_neg Bool.false_ne_true, ht]
    exact congrArg _ hframe
  obtain ⟨st, n, hx⟩ := exec_movTdRd_of_write r hl h0 (.inl rfl) hw
  exact ⟨st, n, t.tlb, hx⟩

end

/-- Settles O40. -/
theorem debugAndTestRegisterMoves : Obligations.DebugAndTestRegisterMoves := by
  intro s r hl h0 v writes reads
  refine ⟨fun hi => ?debug, fun k hk => exec_movDr_missing r hl hk, exec_movRdTd_of_exists r hl h0 (.inl rfl),
    exec_movRdTd_of_exists r hl h0 (.inr rfl), exec_movTdRd_of_write r hl h0 (.inr rfl) rfl, ?lookup, ?command,
    fun k h6 h7 => ?missing⟩
  case debug =>
    have hw {k : BitVec 3} (h4 : k ≠ 4#3) (h5 : k ≠ 5#3) : writes k (s.dbg.write k v) := exec_movDdRd_of_free r hl h0 hi h4 h5
    have hr {k : BitVec 3} (h4 : k ≠ 4#3) (h5 : k ≠ 5#3) : reads k (s.dbg.read k) := exec_movRdDd_of_free r hl h0 hi h4 h5
    refine ⟨hw ?_ ?_, hw ?_ ?_, hw ?_ ?_, hw ?_ ?_, hw ?_ ?_, hw ?_ ?_, hr ?_ ?_, hr ?_ ?_, hr ?_ ?_, hr ?_ ?_, hr ?_ ?_, hr ?_ ?_⟩ <;>
      decide
  case lookup =>
    by_cases h : v.getLsbD 0 = true
    · obtain ⟨st, n, t6, t7, hx⟩ := exec_movTdRd_lookup r hl h0 h
      exact ⟨st, n, t6, t7, fun _ => hx⟩
    · exact ⟨⟨false, false, false, false, false, false⟩, 0, 0#32, 0#32, fun h' => absurd h' h⟩
  case command =>
    by_cases h : v.getLsbD 0 = false
    · obtain ⟨st, n, b, hx⟩ := exec_movTdRd_command r hl h0 h
      exact ⟨st, n, b, fun _ => hx⟩
    · exact ⟨⟨false, false, false, false, false, false⟩, 0, [], fun h' => absurd h' h⟩
  case missing =>
    exact ⟨run_of_raise hl (bind_of_error (testCheck_missing h6 h7)), run_of_raise hl (bind_of_error (testCheck_missing h6 h7))⟩

end Sys2Proof.Machine
end

section
/-! LGDT, LIDT, SGDT and SIDT: a pseudo-descriptor of six bytes in memory, limit first (48_system_io.md R490 to R493;
21_protection.md R172). -/
namespace Sys2Proof.Machine

/-! ## Operands accessed in parts -/

theorem onlyMem_mem (m : Mem) (s : State) : onlyMem (.mem m) s = .ok m s := rfl

theorem onlyMem_reg (r : Reg) (s : State) : onlyMem (.reg r) s = .error (.exc ⟨vUD, .none⟩) s := rfl

theorem checkWhole_passes {s : State} {m : Mem} {n : Nat} {k : AccessKind} (h : s.segOk (s.memSeg m) (memEa s.gpr m) n k = true) :
    checkWhole m n k s = .ok () s := by rw [checkWhole_eq, if_pos h]

/-- A whole operand that fails its checks raises the exception of its segment (21_protection.md R170). -/
theorem checkWhole_fails {s : State} {m : Mem} {n : Nat} {k : AccessKind} (h : s.segOk (s.memSeg m) (memEa s.gpr m) n k = false) :
    checkWhole m n k s = .error (segHalt (s.memSeg m)) s := by
  rw [checkWhole_eq, h, if_neg Bool.false_ne_true, segFault_apply]

theorem touched_of_locate {r : SReg} {off : BitVec 32} {n : Nat} {w : Bool} {s t : State} {l : Loc} (h : locate r off n w s = .ok l t) :
    Touched s t := (touches_locate _ _ _ _).ok h

theorem touched_of_place {sz : Size} {rm : Rm} {w : Bool} {s t : State} {p : Place} (h : place sz rm w s = .ok p t) :
    Touched s t := (touches_place _ _ _).ok h

theorem Touched.memSeg {s t : State} (h : Touched s t) (m : Mem) : t.memSeg m = s.memSeg m := by
  rw [State.memSeg, State.segFor, h.pfx]
  rfl

/-- A part of a memory operand, read where nothing but locating other parts has happened. -/
theorem readPart_of_locate {s s1 s2 : State} {m : Mem} {n : Nat} {sz : Size} {l : Loc} (ht : Touched s s1)
    (h : locate (s.memSeg m) (memEa s.gpr m + BitVec.ofNat 32 n) sz.bytes false s1 = .ok l s2) :
    readPart sz m n s1 = .ok (s2.load sz.bits l) s2 := by
  rw [readPart, bind_of_ok (getS_apply s1), ht.memSeg, ht.gpr, lread_of_locate h]

/-- The first part of a memory operand. -/
theorem readPart_zero_of_locate {s s1 : State} {m : Mem} {sz : Size} {l : Loc}
    (h : locate (s.memSeg m) (memEa s.gpr m) sz.bytes false s = .ok l s1) : readPart sz m 0 s = .ok (s1.load sz.bits l) s1 :=
  readPart_of_locate (Touched.refl s) (by rwa [BitVec.add_zero])

/-- The instruction takes the exception of a segment check that failed. -/
theorem run_of_segHalt {body : M Unit} {s : State} {r : SReg} (hl : s.pfx.lock = false) (h : body s = .error (segHalt r) s) :
    run body s = s.takes s (if r = .ss then 12#8 else 13#8) (.sel 0#16) := run_of_error hl h

/-! ## Pseudo-descriptors -/

section
variable {s s1 s2 : State} {m : Mem} {l0 l1 : Loc}

theorem readTable_of_locate (h0 : s.cpl = 0#2) (hc : s.segOk (s.memSeg m) (memEa s.gpr m) 6 .read = true)
    (hlim : locate (s.memSeg m) (memEa s.gpr m) 2 false s = .ok l0 s1)
    (hbase : locate (s.memSeg m) (memEa s.gpr m + 2#32) 4 false s1 = .ok l1 s2) :
    readTable (.mem m) s =
      .ok ⟨if s.attrs.o32 then s2.load 32 l1 else (s2.load 32 l1) &&& 0x00FFFFFF#32, s1.load 16 l0⟩ s2 := by
  have ht1 : Touched s s1 := touched_of_locate hlim
  have ht2 : Touched s s2 := ht1.trans (touched_of_locate hbase)
  have hl : readPart .w m 0 s = .ok (s1.load 16 l0) s1 := readPart_zero_of_locate hlim
  have hb : readPart .d m 2 s1 = .ok (s2.load 32 l1) s2 := readPart_of_locate ht1 hbase
  rw [readTable, bind_of_ok (onlyMem_mem m s), privileged_bind h0, bind_of_ok (checkWhole_passes hc), bind_of_ok hl, bind_of_ok hb,
    bind_of_ok (getS_apply s2), ht2.attrs]
  rfl

/-- The base stored keeps its low 24 bits, and all of them with a 32-bit operand size (R491). -/
theorem storeTable_of_locate (t : TableReg) (hc : s.segOk (s.memSeg m) (memEa s.gpr m) 6 .write = true)
    (hlim : locate (s.memSeg m) (memEa s.gpr m) 2 true s = .ok l0 s1)
    (hbase : locate (s.memSeg m) (memEa s.gpr m + 2#32) 4 true s1 = .ok l1 s2) :
    ∃ (b : BitVec 32) (n : Nat), b.setWidth 24 = t.base.setWidth 24 ∧ (s.attrs.o32 = true → b = t.base) ∧
      storeTable (.mem m) t s = .ok () (((s2.drawn n).store l0 t.limit).store l1 b) := by
  refine ⟨if s.attrs.o32 then t.base else (Config.freeValue s2.draws).setWidth 8 ++ t.base.extractLsb' 0 24, s2.draws + 1,
    ?low, fun h => if_pos h, ?body⟩
  case low =>
    split
    case isTrue => rfl
    case isFalse =>
      apply BitVec.eq_of_getLsbD_eq
      intro i hi
      rw [BitVec.getLsbD_setWidth, BitVec.getLsbD_setWidth, BitVec.getLsbD_append]
      simp [hi]
  case body =>
    rw [storeTable, bind_of_ok (onlyMem_mem m s), bind_of_ok (checkWhole_passes hc), bind_of_ok (getS_apply s), bind_of_ok hlim,
      bind_of_ok hbase, bind_of_ok (draw_apply ..), bind_of_ok (storeLoc_apply ..), storeLoc_apply]
    rfl

theorem readTable_fails (h0 : s.cpl = 0#2) (hc : s.segOk (s.memSeg m) (memEa s.gpr m) 6 .read = false) :
    readTable (.mem m) s = .error (segHalt (s.memSeg m)) s := by
  rw [readTable, bind_of_ok (onlyMem_mem m s), privileged_bind h0, bind_of_error (checkWhole_fails hc)]

theorem storeTable_fails (t : TableReg) (hc : s.segOk (s.memSeg m) (memEa s.gpr m) 6 .write = false) :
    storeTable (.mem m) t s = .error (segHalt (s.memSeg m)) s := by
  rw [storeTable, bind_of_ok (onlyMem_mem m s), bind_of_error (checkWhole_fails hc)]

end

/-- Settles O36. -/
theorem tableRegisterInstructions : Obligations.TableRegisterInstructions := by
  refine fun s hl => ⟨fun m l0 l1 s1 s2 h0 hc hlim hbase => ?loads, fun m l0 l1 s1 s2 hc hlim hbase => ?stores,
    fun m => ⟨fun h0 hc => ?loadFails, fun hc => ?storeFails⟩, fun e => ?registers⟩
  case loads =>
    have h := readTable_of_locate h0 hc hlim hbase
    exact ⟨run_of_ok hl (bind_of_ok h), run_of_ok hl (bind_of_ok h)⟩
  case stores =>
    have h (t : TableReg) := storeTable_of_locate t hc hlim hbase
    obtain ⟨b, n, hb, h32, hg⟩ := h s.gdtr
    obtain ⟨b', n', hb', h32', hi⟩ := h s.idtr
    exact ⟨⟨b, n, hb, h32, run_of_ok hl hg⟩, b', n', hb', h32', run_of_ok hl hi⟩
  case loadFails =>
    have h := readTable_fails h0 hc
    exact ⟨run_of_segHalt hl (bind_of_error h), run_of_segHalt hl (bind_of_error h)⟩
  case storeFails => exact ⟨run_of_segHalt hl (storeTable_fails s.gdtr hc), run_of_segHalt hl (storeTable_fails s.idtr hc)⟩
  case registers =>
    have hread : readTable (.reg e) s = .error (.exc ⟨vUD, .none⟩) s := bind_of_error (onlyMem_reg e s)
    have hstore (t : TableReg) : storeTable (.reg e) t s = .error (.exc ⟨vUD, .none⟩) s := bind_of_error (onlyMem_reg e s)
    exact ⟨run_of_raise hl (bind_of_error hread), run_of_raise hl (bind_of_error hread), run_of_raise hl (hstore s.gdtr),
      run_of_raise hl (hstore s.idtr)⟩

end Sys2Proof.Machine
end

section
/-! SLDT, STR, SMSW, LMSW, CLTS, LLDT and LTR (48_system_io.md R494 to R500; 70_reset_and_hazards.md R708). -/
namespace Sys2Proof.Machine

/-! ## The check for protected mode -/

theorem protectedOnly_passes {s : State} (hm : s.protectedMode = true) : protectedOnly s = .ok () s := by
  rw [protectedOnly, bind_of_ok (getS_apply s), if_pos hm, pure_apply]

theorem protectedOnly_fails {s : State} (hm : s.protectedMode = false) : protectedOnly s = .error (.exc ⟨vUD, .none⟩) s := by
  rw [protectedOnly, bind_of_ok (getS_apply s), hm, if_neg Bool.false_ne_true, raiseUD_apply]

/-- In real-address mode an instruction that begins with the check is #UD (70_reset_and_hazards.md R708). -/
theorem run_protectedOnly_real {s : State} (hl : s.pfx.lock = false) (hm : s.protectedMode = false) (f : Unit → M Unit) :
    run (protectedOnly >>= f) s = s.takes s 6#8 .none := run_of_raise hl (bind_of_error (protectedOnly_fails hm))

/-! ## Words stored -/

theorem storeWord_mem {m : Mem} {p : Place} {s s1 : State} (v : BitVec 16) (h : place .w (.mem m) true s = .ok p s1) :
    storeWord (.mem m) v s = .ok () (s1.putAt .w p v) := by
  rw [storeWord, bind_of_ok (getS_apply s)]
  exact writeRm_of_place (sz := .w) v h

/-- A register destination of 32 bits has its upper half undefined (D45). -/
theorem storeWord_reg (e : Reg) (v : BitVec 16) (s : State) : ∃ (x : BitVec s.osz.bits) (n : Nat), x.setWidth 16 = v ∧
    storeWord (.reg e) v s = .ok () ((s.drawn n).setReg s.osz e x) := by
  obtain ⟨x, n, hx, hp⟩ := padSel_ok s.osz v s (osz_ne_b s)
  refine ⟨x, n, hx, ?_⟩
  rw [storeWord, bind_of_ok (getS_apply s)]
  exact (bind_of_ok hp).trans (putReg_apply ..)

/-- SLDT and STR: the check, then a selector that the state holds is stored (R495, R497). -/
def storeSelector (f : State → BitVec 16) (rm : Rm) : M Unit := do
  protectedOnly
  let s ← getS
  storeWord rm (f s)

theorem storeLdt_eq (rm : Rm) : storeLdt rm = storeSelector (fun s => s.ldtr.sel) rm := rfl

theorem storeTask_eq (rm : Rm) : storeTask rm = storeSelector (fun s => s.tr.sel) rm := rfl

theorem storeSelector_apply {s : State} (hm : s.protectedMode = true) (f : State → BitVec 16) (rm : Rm) :
    storeSelector f rm s = storeWord rm (f s) s := by
  rw [storeSelector, bind_of_ok (protectedOnly_passes hm), bind_of_ok (getS_apply s)]

/-- The low bits of a value are those of its low word. -/
theorem getLsbD_of_setWidth {w : Nat} {x : BitVec w} {v : BitVec 16} (h : x.setWidth 16 = v) {i : Nat} (hi : i < 16) :
    x.getLsbD i = v.getLsbD i := by
  rw [← h, BitVec.getLsbD_setWidth, decide_eq_true hi, Bool.true_and]

/-- The machine status word as SMSW finds it (R499). -/
theorem cr0Image_low (s : State) : ∃ x : BitVec 32, ((x.extractLsb' 0 16).getLsbD 0 = s.cr0.PE ∧
    (x.extractLsb' 0 16).getLsbD 1 = s.cr0.MP ∧ (x.extractLsb' 0 16).getLsbD 2 = s.cr0.EM ∧ (x.extractLsb' 0 16).getLsbD 3 = s.cr0.TS ∧
    (x.extractLsb' 0 16).getLsbD 4 = s.cr0.ET) ∧ cr0Image s = .ok x (s.drawn (s.draws + 1)) := by
  obtain ⟨x, ⟨-, h4, h3, h2, h1, h0⟩, hx⟩ := cr0Image_ok s
  exact ⟨x, by simpa using And.intro h0 ⟨h1, h2, h3, h4⟩, hx⟩

/-! ## LLDT and LTR -/

/-- A system descriptor has one type. -/
theorem isSystem_other {d : Desc} {a b : BitVec 4} (h : d.isSystem a = true) (hab : a ≠ b) : d.isSystem b = false := by
  simp only [Desc.isSystem, Bool.and_eq_true, Bool.not_eq_true', beq_iff_eq] at h ⊢
  obtain ⟨hs, ht⟩ := h
  simp [hs, ht, hab]

section
variable {s : State} {rm : Rm} {p : Place} {la : BitVec 32} (hm : s.protectedMode = true) (h0 : s.cpl = 0#2)
  (hpl : place .w rm false s = .ok p s)
include hm h0 hpl

/-- What LLDT does with the selector it has read. -/
theorem loadLdt_apply : loadLdt rm s =
    (if nullSel (s.valueAt .w p) then modS fun s' => { s' with ldtr := { s'.ldtr with sel := s.valueAt .w p, valid := false } }
    else do
      require (!tiOf (s.valueAt .w p)) vGP (selCode (s.valueAt .w p) false)
      let d ← fetchDescOr (s.valueAt .w p) vGP (selCode (s.valueAt .w p) false)
      require (d.isSystem 2#4) vGP (selCode (s.valueAt .w p) false)
      require d.p vNP (selCode (s.valueAt .w p) false)
      putLdt d (s.valueAt .w p) : M Unit) s := by
  rw [loadLdt, bind_of_ok (protectedOnly_passes hm), privileged_bind h0, bind_of_ok (readRm_of_place hpl)]

theorem loadLdt_null (hn : nullSel (s.valueAt .w p) = true) :
    loadLdt rm s = .ok () { s with ldtr := { s.ldtr with sel := s.valueAt .w p, valid := false } } := by
  rw [loadLdt_apply hm h0 hpl, if_pos hn, modS_apply]

theorem loadLdt_of_entry (hp : s.plain = true) (hn : nullSel (s.valueAt .w p) = false) (hti : tiOf (s.valueAt .w p) = false)
    (he : s.entryAddr (s.valueAt .w p) = some la) (ht : (s.descAt la).isSystem 2#4 = true) (hpr : (s.descAt la).p = true) :
    loadLdt rm s = .ok () { s.asserting .descriptor [la] with ldtr := (s.descAt la).toLdt (s.valueAt .w p) } := by
  rw [loadLdt_apply hm h0 hpl, hn, if_neg Bool.false_ne_true, require_bind, hti, Bool.not_false, if_pos rfl,
    bind_of_ok (fetchDescOr_plain hp he ..), require_bind, if_pos ht, require_bind, if_pos hpr]
  rfl

/-- LTR of a null selector is #GP(0) (R496). -/
theorem loadTr_null (hn : nullSel (s.valueAt .w p) = true) : loadTr rm s = .error (.exc ⟨vGP, zeroCode false⟩) s := by
  rw [loadTr, bind_of_ok (protectedOnly_passes hm), privileged_bind h0, bind_of_ok (readRm_of_place hpl), require_bind, hn]
  rfl

theorem loadTr_of_entry (hp : s.plain = true) (hn : nullSel (s.valueAt .w p) = false) (hti : tiOf (s.valueAt .w p) = false)
    (he : s.entryAddr (s.valueAt .w p) = some la) (ht : (s.descAt la).isSystem 9#4 = true) (hpr : (s.descAt la).p = true) :
    let l := Loc.from (la + 4#32) 4
    loadTr rm s = .ok () { (s.store l ((s.descAt la).hi ||| 0x200#32)).asserting .busyBit l with
      tr := ⟨s.valueAt .w p, (s.descAt la).base, (s.descAt la).limit, true⟩ } := by
  intro l
  rw [loadTr, bind_of_ok (protectedOnly_passes hm), privileged_bind h0, bind_of_ok (readRm_of_place hpl), require_bind, hn,
    Bool.not_false, if_pos rfl, require_bind, hti, Bool.not_false, if_pos rfl, bind_of_ok (fetchDescOr_plain hp he ..),
    isSystem_other ht (by decide), if_neg Bool.false_ne_true, require_bind, if_pos ht, require_bind, if_pos hpr,
    bind_of_ok (resolve_plain hp ..)]
  rfl

end

/-- Settles O37. -/
theorem systemRegisterAndTaskRegisterInstructions : Obligations.SystemRegisterAndTaskRegisterInstructions := by
  refine ⟨fun s hl => ⟨fun m p s1 hm hpl => ?storesMem, fun e hm => ?storesReg, fun e => ?smswReg, ?smswMem, fun rm p s1 h0 hpl => ?lmsw,
    fun h0 => ?clts, fun rm r hm => ?real⟩, fun s rm p hm hp h0 hpl => ?loads⟩
  case storesMem =>
    have h (f : State → BitVec 16) : storeSelector f (.mem m) s = .ok () (s1.putAt .w p (f s)) := by
      rw [storeSelector_apply hm, storeWord_mem (f s) hpl]
    exact ⟨run_of_ok hl ((congrFun (storeLdt_eq _) s).trans (h _)), run_of_ok hl ((congrFun (storeTask_eq _) s).trans (h _))⟩
  case storesReg =>
    have h (f : State → BitVec 16) : ∃ (x : BitVec s.osz.bits) (n : Nat), x.setWidth 16 = f s ∧
        storeSelector f (.reg e) s = .ok () ((s.drawn n).setReg s.osz e x) := by
      rw [storeSelector_apply hm]
      exact storeWord_reg e (f s) s
    obtain ⟨x, n, hx, hldt⟩ := h fun s => s.ldtr.sel
    obtain ⟨y, k, hy, htr⟩ := h fun s => s.tr.sel
    exact ⟨⟨x, n, hx, run_of_ok hl ((congrFun (storeLdt_eq _) s).trans hldt)⟩,
      y, k, hy, run_of_ok hl ((congrFun (storeTask_eq _) s).trans htr)⟩
  case smswReg =>
    obtain ⟨c, ⟨h0, h1, h2, h3, h4⟩, hc⟩ := cr0Image_low s
    obtain ⟨x, n, hx, hst⟩ := storeWord_reg e (c.extractLsb' 0 16) (s.drawn (s.draws + 1))
    have hbit {i : Nat} (hi : i < 16) := getLsbD_of_setWidth hx hi
    exact ⟨x, n, (hbit (by decide)).trans h0, (hbit (by decide)).trans h1, (hbit (by decide)).trans h2, (hbit (by decide)).trans h3,
      (hbit (by decide)).trans h4, run_of_ok hl ((bind_of_ok hc).trans hst)⟩
  case smswMem =>
    obtain ⟨c, ⟨h0, h1, h2, h3, h4⟩, hc⟩ := cr0Image_low s
    exact ⟨c.extractLsb' 0 16, s.draws + 1, h0, h1, h2, h3, h4,
      fun m p s1 hpl => run_of_ok hl ((bind_of_ok hc).trans (storeWord_mem _ hpl))⟩
  case lmsw =>
    intro v
    have hbody : loadMsw rm s = .ok () { s1 with cr0 := { s1.cr0 with PE := s1.cr0.PE || v.getLsbD 0, MP := v.getLsbD 1,
                                                                      EM := v.getLsbD 2, TS := v.getLsbD 3 } } := by
      rw [loadMsw, privileged_bind h0, bind_of_ok (readRm_of_place hpl), modS_apply]
    rw [← (touched_of_place hpl).cr0]
    exact run_of_ok hl hbody
  case clts => exact run_of_ok hl (privileged_bind h0 _)
  case real =>
    have hud (f : Unit → M Unit) := run_protectedOnly_real hl hm f
    have htest (ok : BitVec 2 → BitVec 2 → Desc → Bool) : selectorTest rm ok s = .error (.exc ⟨vUD, .none⟩) s :=
      bind_of_error (protectedOnly_fails hm)
    exact ⟨hud _, hud _, hud _, hud _, run_of_raise hl (bind_of_error (htest verrOk)), run_of_raise hl (bind_of_error (htest verwOk)),
      hud _, run_of_raise hl (bind_of_error (htest larOk)), run_of_raise hl (bind_of_error (htest lslOk))⟩
  case loads =>
    obtain ⟨-, -, -, hl⟩ := s.plain_iff.1 hp
    refine ⟨fun hn => ?_, fun hn => ?_, fun la hn hti he => ⟨fun ht hpr => ?_, fun ht hpr => ?_⟩⟩
    · exact run_of_ok hl (loadLdt_null hm h0 hpl hn)
    · exact run_of_raise hl (loadTr_null hm h0 hpl hn)
    · exact run_of_ok hl (loadLdt_of_entry hm h0 hpl hp hn hti he ht hpr)
    · exact run_of_ok hl (loadTr_of_entry hm h0 hpl hp hn hti he ht hpr)

end Sys2Proof.Machine
end

section
/-! VERR, VERW, LAR, LSL and ARPL (48_system_io.md R540 to R544). -/
namespace Sys2Proof.Machine

/-! ## Fetching a descriptor only touches -/

theorem touches_readDesc (la : BitVec 32) : Touches (readDesc la) :=
  touches_bind (touches_sysRead _ _ _) fun _ => touches_bind (touches_sysRead _ _ _) fun _ => touches_pure _

theorem touches_fetchDesc (sel : BitVec 16) : Touches (fetchDesc sel) := by
  refine touches_bind touches_getS fun s => ?_
  split
  case h_1 => exact touches_pure _
  case h_2 => exact touches_bind (touches_readDesc _) fun _ => touches_pure _

theorem Touched.plat {s t : State} (h : Touched s t) : t.plat = s.plat := by
  obtain ⟨_, _, _, _, _, _, _, rfl⟩ := h
  rfl

theorem fetchDesc_outside {s : State} {sel : BitVec 16} (h : s.entryAddr sel = none) : fetchDesc sel s = .ok none s := by
  rw [fetchDesc, bind_of_ok (getS_apply s), h]
  rfl

/-! ## The tests -/

/-- The test each instruction makes of a descriptor. -/
def SelectorTest.ok : SelectorTest → BitVec 2 → BitVec 2 → Desc → Bool
  | .verr => verrOk
  | .verw => verwOk
  | .lar => larOk
  | .lsl => lslOk

/-- The privilege rule, on the descriptor's second doubleword (R541). -/
theorem visible_eq (d : Desc) (cpl rpl : BitVec 2) : d.visible cpl rpl =
    (d.hi.getLsbD 12 && d.hi.getLsbD 11 && d.hi.getLsbD 10 ||
      decide (cpl.toNat ≤ (d.hi.extractLsb' 13 2).toNat) && decide (rpl.toNat ≤ (d.hi.extractLsb' 13 2).toNat)) := by
  rw [Desc.visible, Bool.eq_iff_iff, Bool.or_eq_true, Bool.or_eq_true, dataPrivOk_iff, Bool.and_eq_true (decide _), decide_eq_true_iff,
    decide_eq_true_iff]
  rfl

/-- The invalid types, and those LSL reports, by number (R541, R542). -/
theorem larType_eq : ∀ t : BitVec 4, (t == 0#4 || t == 8#4 || t == 0xA#4 || t == 0xD#4) = [0, 8, 10, 13].contains t.toNat := by decide

theorem lslType_eq : ∀ t : BitVec 4,
    (t == 1#4 || t == 2#4 || t == 3#4 || t == 9#4 || t == 0xB#4) = [1, 2, 3, 9, 11].contains t.toNat := by decide

/-- Each test is the one of R541 to R544. -/
theorem selectorTest_ok_eq (t : SelectorTest) (cpl rpl : BitVec 2) (d : Desc) : t.ok cpl rpl d = t.passes cpl rpl d.hi := by
  cases t with
  | verr => exact congrArg (_ && ·) (visible_eq d cpl rpl)
  | verw => exact congrArg (_ && ·) (visible_eq d cpl rpl)
  | lar =>
    rw [SelectorTest.ok, larOk, visible_eq, larType_eq]
    rfl
  | lsl =>
    have hassoc : (d.s || d.typ == 1#4 || d.typ == 2#4 || d.typ == 3#4 || d.typ == 9#4 || d.typ == 0xB#4) =
        (d.s || (d.typ == 1#4 || d.typ == 2#4 || d.typ == 3#4 || d.typ == 9#4 || d.typ == 0xB#4)) := by simp only [Bool.or_assoc]
    rw [SelectorTest.ok, lslOk, visible_eq, hassoc, lslType_eq]
    rfl

section
variable {s s1 s2 : State} {rm : Rm} {p : Place} {ok : BitVec 2 → BitVec 2 → Desc → Bool} (hm : s.protectedMode = true)
  (hpl : place .w rm false s = .ok p s1)
include hm hpl

/-- A null selector, or one outside its table, names no descriptor to test. -/
theorem selectorTest_none (h : nullSel (s1.valueAt .w p) = true ∨ s1.entryAddr (s1.valueAt .w p) = none) :
    selectorTest rm ok s = .ok none s1 := by
  rw [selectorTest, bind_of_ok (protectedOnly_passes hm), bind_of_ok (readRm_of_place hpl), if_apply]
  split
  case isTrue => exact pure_apply ..
  case isFalse hn =>
    rw [bind_of_ok (fetchDesc_outside (h.resolve_left hn)), bind_of_ok (getS_apply s1)]
    rfl

/-- A descriptor that was fetched is tested at the level the instruction runs at. -/
theorem selectorTest_of_fetch {d : Desc} (hn : nullSel (s1.valueAt .w p) = false) (hf : fetchDesc (s1.valueAt .w p) s1 = .ok (some d) s2) :
    selectorTest rm ok s = .ok (if ok s.cpl (rplOf (s1.valueAt .w p)) d then some d else none) s2 := by
  have hcpl : s2.cpl = s.cpl := ((touched_of_place hpl).trans ((touches_fetchDesc _).ok hf)).cpl
  rw [selectorTest, bind_of_ok (protectedOnly_passes hm), bind_of_ok (readRm_of_place hpl), hn, if_neg Bool.false_ne_true,
    bind_of_ok hf, bind_of_ok (getS_apply s2), hcpl]
  rfl

end

/-! ## What a test that passed does -/

/-- The machine after a test of `d` that passed: ZF, and the accessed bit where the platform sets it (R541, D28). -/
def State.tested (s : State) (d : Desc) : State :=
  let t := { s with flags := { s.flags with ZF := true } }
  if s.plat.seltestSetsAccessed = true ∧ d.s = true ∧ d.hi.getLsbD 8 = false then t.loadedDesc d else t

theorem testPassed_apply {s : State} {d : Desc}
    (h : ¬ (s.plat.seltestSetsAccessed = true ∧ d.s = true ∧ d.hi.getLsbD 8 = false) ∨ s.plain = true) :
    testPassed d s = .ok () (s.tested d) := by
  have hc : (s.plat.seltestSetsAccessed && d.s && !d.hi.getLsbD 8) = true ↔
      s.plat.seltestSetsAccessed = true ∧ d.s = true ∧ d.hi.getLsbD 8 = false := by simp [and_assoc]
  rw [testPassed, bind_of_ok (getS_apply s), bind_of_ok (modFlags_apply ..), if_apply, State.tested]
  by_cases hw : s.plat.seltestSetsAccessed = true ∧ d.s = true ∧ d.hi.getLsbD 8 = false
  · rw [if_pos (hc.2 hw), if_pos hw]
    exact setAccessed_plain (s := { s with flags := { s.flags with ZF := true } }) (h.resolve_left (not_not_intro hw)) d
  · rw [if_neg (mt hc.1 hw), if_neg hw, pure_apply]

/-- What each test does with a descriptor that passed: LAR and LSL load their register first. -/
def afterTest (sz : Size) : SelectorTest → Option Reg → Desc → M Unit
  | .lar, some r, d => do
    let u ← draw 4
    putReg sz r (((d.hi &&& 0x00F0FF00#32) ||| (0#12 ++ u ++ 0#16)).setWidth sz.bits)
    testPassed d
  | .lsl, some r, d => do
    putReg sz r (d.limit.setWidth sz.bits)
    testPassed d
  | _, _, d => testPassed d

/-- The four instructions make their test, then clear ZF or go on with the descriptor. -/
theorem exec_selectorForm {i : Instr} {rm : Rm} {test : SelectorTest} {dst : Option Reg} (h : selectorForm i = some (rm, test, dst))
    (s : State) :
    exec i s = run (selectorTest rm test.ok >>= fun d? => d?.elim testFailed (afterTest s.osz test dst)) s := by
  have hk (x : Option Desc → M Unit) (hx : ∀ d?, x d? = d?.elim testFailed (afterTest s.osz test dst)) :
      run (selectorTest rm test.ok >>= x) s =
        run (selectorTest rm test.ok >>= fun d? => d?.elim testFailed (afterTest s.osz test dst)) s := by
    rw [funext hx]
  cases i with
  | verrEw | verwEw | larGvEw | lslGvEw =>
    cases h
    exact hk _ fun d? => by cases d? <;> rfl
  | _ => cases h

/-- The access-rights bytes LAR loads: bits 19 to 16 are free (R541). -/
theorem rights_masked (hi : BitVec 32) (u : BitVec 4) :
    ((hi &&& 0x00F0FF00#32) ||| (0#12 ++ u ++ 0#16)) &&& 0xFFF0FFFF#32 = hi &&& 0x00F0FF00#32 := by
  have hfree : (0#12 ++ u ++ 0#16) &&& (0xFFF#12 ++ 0#4 ++ 0xFFFF#16) = 0#32 := by
    simp only [BitVec.and_append, BitVec.and_zero, BitVec.zero_and]
    decide
  have hmask : 0x00F0FF00#32 &&& 0xFFF0FFFF#32 = 0x00F0FF00#32 := by decide
  rw [BitVec.and_or_distrib_right, BitVec.and_assoc, hmask]
  exact (congrArg (hi &&& 0x00F0FF00#32 ||| ·) hfree).trans (BitVec.or_zero ..)

/-- LAR writes its register, then sets ZF. -/
theorem afterTest_lar (sz : Size) (r : Reg) (d : Desc) (s : State) : ∃ (v : BitVec 32) (n : Nat),
    v &&& 0xFFF0FFFF#32 = d.hi &&& 0x00F0FF00#32 ∧
      afterTest sz .lar (some r) d s = testPassed d ((s.drawn n).setReg sz r (v.setWidth sz.bits)) :=
  ⟨_, s.draws + 1, rights_masked d.hi ((Config.freeValue s.draws).setWidth 4), bind_of_ok (draw_apply 4 s)⟩

/-! ## ARPL -/

/-- The low two bits of a selector replaced (R540). -/
theorem withRpl_eq (a b : BitVec 16) : withRpl a (rplOf b) = (a &&& 0xFFFC#16) ||| (b &&& 3#16) := by
  have split (x : BitVec 16) : x = x.extractLsb' 2 14 ++ x.extractLsb' 0 2 := by
    apply BitVec.eq_of_getLsbD_eq
    intro i hi
    rw [BitVec.getLsbD_append]
    by_cases h : i < 2
    · simp [h]
    · simp [h, hi, show 2 + (i - 2) = i by omega, show i - 2 < 14 by omega]
  have hmask : (a.extractLsb' 2 14 ++ a.extractLsb' 0 2) &&& (0x3FFF#14 ++ 0#2) ||| (b.extractLsb' 2 14 ++ b.extractLsb' 0 2) &&& (0#14 ++ 3#2) =
      a.extractLsb' 2 14 ++ b.extractLsb' 0 2 := by
    have h14 : 0x3FFF#14 = BitVec.allOnes 14 := by decide
    have h2 : 3#2 = BitVec.allOnes 2 := by decide
    simp only [BitVec.and_append, BitVec.or_append, BitVec.and_zero, BitVec.or_zero, BitVec.zero_or, h14, h2, BitVec.and_allOnes]
  exact hmask.symm.trans (congrArg₂ (fun x y => x &&& 0xFFFC#16 ||| y &&& 3#16) (split a).symm (split b).symm)

section
variable {s s1 : State} {rm : Rm} {r : Reg} {p : Place} (hm : s.protectedMode = true) (hpl : place .w rm false s = .ok p s1)
include hm hpl

/-- What ARPL does with both selectors read. -/
theorem adjustRpl_apply : adjustRpl rm r s =
    (if (rplOf (s1.valueAt .w p)).toNat < (rplOf (s.reg .w r)).toNat then do
      writeRm .w rm (withRpl (s1.valueAt .w p) (rplOf (s.reg .w r)))
      modFlags fun f => { f with ZF := true }
    else modFlags fun f => { f with ZF := false } : M Unit) s1 := by
  rw [adjustRpl, bind_of_ok (protectedOnly_passes hm), bind_of_ok (readRm_of_place hpl), bind_of_ok (getReg_apply ..),
    (touched_of_place hpl).reg]

theorem adjustRpl_keeps (h : (rplOf (s.reg .w r)).toNat ≤ (rplOf (s1.valueAt .w p)).toNat) :
    adjustRpl rm r s = .ok () { s1 with flags := { s1.flags with ZF := false } } := by
  rw [adjustRpl_apply hm hpl, if_neg (by omega), modFlags_apply]

theorem adjustRpl_raises {q : Place} {s2 : State} (h : (rplOf (s1.valueAt .w p)).toNat < (rplOf (s.reg .w r)).toNat)
    (hq : place .w rm true s1 = .ok q s2) :
    adjustRpl rm r s = .ok () { s2.putAt .w q ((s1.valueAt .w p &&& 0xFFFC#16) ||| (s.reg .w r &&& 3#16)) with
      flags := { s2.flags with ZF := true } } := by
  rw [adjustRpl_apply hm hpl, if_pos h, bind_of_ok (writeRm_of_place _ hq), modFlags_apply, State.putAt_flags, withRpl_eq]

end

/-- Settles O38. -/
theorem selectorTests : Obligations.SelectorTests := by
  refine ⟨fun i s s1 rm test dst p hi hl hm hpl => ?tests, fun s s1 rm r p hl hm hpl => ?arpl⟩
  case tests =>
    intro sel
    have hx := exec_selectorForm hi s
    have hfails {s2 : State} (h : selectorTest rm test.ok s = .ok none s2) :
        exec i s = .next ({ s2 with flags := { s2.flags with ZF := false } }.finished .normal) := by
      rw [hx]
      exact run_of_ok hl (bind_of_ok h)
    refine ⟨fun h => hfails (selectorTest_none hm hpl h), fun d s2 hn hf => ?_⟩
    have ht : Touched s s2 := (touched_of_place hpl).trans ((touches_fetchDesc _).ok hf)
    have htest := selectorTest_of_fetch (ok := test.ok) hm hpl hn hf
    refine ⟨fun hfail => ?_, fun hpass => ?_⟩
    · have hno : test.ok s.cpl (rplOf (s1.valueAt .w p)) d = false := (selectorTest_ok_eq ..).trans hfail
      rw [hno, if_neg Bool.false_ne_true] at htest
      exact hfails htest
    · have hyes : test.ok s.cpl (rplOf (s1.valueAt .w p)) d = true := (selectorTest_ok_eq ..).trans hpass
      rw [if_pos hyes] at htest
      intro writes t u hw
      rw [← ht.plain] at hw
      have hbody {x : State} (h : afterTest s.osz test dst d s2 = testPassed d x) (hplat : x.plat = s2.plat)
          (hplain : x.plain = s2.plain) :
          exec i s = .next ((u { x with flags := { x.flags with ZF := true } }).finished .normal) := by
        have hplat' : x.plat = s.plat := hplat.trans ht.plat
        have hpassed : testPassed d x = .ok () (x.tested d) := testPassed_apply (by rwa [hplat', hplain])
        have hu : x.tested d = u { x with flags := { x.flags with ZF := true } } := by rw [State.tested, hplat']
        rw [hx, ← hu]
        exact run_of_ok hl ((bind_of_ok htest).trans (h.trans hpassed))
      refine ⟨fun hdst => ?_, fun r hlsl => ?_, fun r hlar => ?_⟩
      · subst hdst
        exact hbody (x := s2) (by cases test <;> rfl) rfl rfl
      · subst hlsl
        cases hi
        exact hbody (x := s2.setReg s.osz r (d.limit.setWidth s.osz.bits)) rfl rfl rfl
      · subst hlar
        cases hi
        obtain ⟨v, n, hv, hdraw⟩ := afterTest_lar s.osz r d s2
        have hstep := hbody hdraw rfl rfl
        exact ⟨v, n, hv, hstep⟩
  case arpl =>
    intro a b
    exact ⟨fun h => run_of_ok hl (adjustRpl_keeps hm hpl h), fun q s2 h hq => run_of_ok hl (adjustRpl_raises hm hpl h hq)⟩

end Sys2Proof.Machine
end

section
/-! IN and OUT, and the I/O permission map (48_system_io.md R520, R521, R530, R531). -/
namespace Sys2Proof.Machine

/-! ## The instructions -/

/-- The eight port instructions run one of the two shared operations. -/
theorem exec_portForm {s : State} {i : Instr} {f : PortForm} (h : portForm s i = some f) :
    exec i s = run (if f.input then inPort f.sz f.port else outPort f.sz f.port) s := by
  cases i with
  | inAlIb | inEaxIb | inAlDx | inEaxDx | outIbAl | outIbEax | outDxAl | outDxEax =>
    cases h
    rfl
  | _ => cases h

section
variable {s s1 : State} {sz : Size} {p : BitVec 16}

/-- IN loads the accumulator with whatever the port gives (R530). -/
theorem inPort_of_check (h : ioCheck p sz.bytes s = .ok () s1) :
    ∃ (v : BitVec sz.bits) (n : Nat), inPort sz p s = .ok () ((s1.drawn n).setReg sz .ax v) :=
  ⟨_, s1.draws + 1, bind_of_ok h⟩

/-- OUT sends the accumulator as it was before the check (R531). -/
theorem outPort_of_check (h : ioCheck p sz.bytes s = .ok () s1) :
    outPort sz p s = .ok () { s1 with ioOut := ⟨p, sz.bytes, (s.reg sz .ax).setWidth 32⟩ :: s1.ioOut } := by
  rw [outPort, bind_of_ok h, bind_of_ok (getReg_apply ..), ((touches_ioCheck _ _).ok h).reg, portWrite, modS_apply]

theorem port_of_failing {b : Bool} {e : Halt} (h : ioCheck p sz.bytes s = .error e s1) :
    (if b then inPort sz p else outPort sz p) s = .error e s1 := by
  cases b with
  | true => exact bind_of_error h
  | false => exact bind_of_error h

end

/-! ## The permission map -/

/-- The permission bit of port `q` is inside the TSS limit and 0. -/
def State.portOpen (s : State) (map q : Nat) : Prop :=
  map + q / 8 ≤ s.tr.limit.toNat ∧ (s.byteAt (s.tr.base + BitVec.ofNat 32 (map + q / 8))).getLsbD (q % 8) = false

section
variable {s : State} (hp : s.plain = true)
include hp

theorem sysRead_byte_plain (la : BitVec 32) : sysRead la 1 8 s = .ok (s.byteAt la) s := by
  obtain ⟨-, -, hm, -⟩ := s.plain_iff.1 hp
  have hh : (s.kindAt la).holds = true := by
    rw [State.kindAt, hm]
    rfl
  rw [sysRead_plain hp]
  exact congrArg (EStateM.Result.ok · s) (State.load_byte hh)

/-- One port at a time, and the first closed one stops the check (R521). -/
theorem ioMapBits_succ (map p n : Nat) : (s.portOpen map p → ioMapBits map p (n + 1) s = ioMapBits map (p + 1) n s) ∧
    (¬ s.portOpen map p → ioMapBits map p (n + 1) s = .error (.exc ⟨vGP, zeroCode false⟩) s) := by
  rw [ioMapBits, bind_of_ok (getS_apply s), require_bind]
  by_cases hlim : map + p / 8 ≤ s.tr.limit.toNat
  · rw [if_pos (decide_eq_true hlim), bind_of_ok (sysRead_byte_plain hp _), require_bind]
    refine ⟨fun ⟨_, hbit⟩ => ?_, fun h => ?_⟩
    · rw [hbit, Bool.not_false, if_pos rfl]
    · have hbit : ¬ (s.byteAt (s.tr.base + BitVec.ofNat 32 (map + p / 8))).getLsbD (p % 8) = false := fun hb => h ⟨hlim, hb⟩
      rw [if_neg (by simpa using hbit)]
  · rw [decide_eq_false hlim, if_neg Bool.false_ne_true]
    exact ⟨fun h => absurd h.1 hlim, fun _ => rfl⟩

/-- The bits of consecutive ports are all open, or the check is #GP(0) (R521). -/
theorem ioMapBits_plain (map p n : Nat) :
    ((∀ q, p ≤ q → q < p + n → s.portOpen map q) → ioMapBits map p n s = .ok () s) ∧
    (¬ (∀ q, p ≤ q → q < p + n → s.portOpen map q) → ioMapBits map p n s = .error (.exc ⟨vGP, zeroCode false⟩) s) := by
  induction n generalizing p with
  | zero => exact ⟨fun _ => rfl, fun h => absurd (fun q hq hn => by omega) h⟩
  | succ n ih =>
    obtain ⟨hopen, hclosed⟩ := ioMapBits_succ hp map p n
    refine ⟨fun h => ?_, fun h => ?_⟩
    · rw [hopen (h p (by omega) (by omega))]
      exact (ih (p + 1)).1 fun q hq hn => h q (by omega) (by omega)
    · by_cases h0 : s.portOpen map p
      · rw [hopen h0]
        refine (ih (p + 1)).2 fun hrest => h fun q hq hn => ?_
        rcases Nat.eq_or_lt_of_le hq with rfl | hlt
        · exact h0
        · exact hrest q hlt (by omega)
      · exact hclosed h0

/-- Where the level does not suffice, the permission map decides (R520, R521). -/
theorem ioCheck_map (hm : s.protectedMode = true) (hcpl : s.flags.IOPL.toNat < s.cpl.toNat) (p : BitVec 16) (n : Nat) :
    ioCheck p n s = if (s.load 16 (Loc.from (s.tr.base + 0x66#32) 2)).toNat < s.tr.limit.toNat
      then ioMapBits (s.load 16 (Loc.from (s.tr.base + 0x66#32) 2)).toNat p.toNat n s else .error (.exc ⟨vGP, zeroCode false⟩) s := by
  rw [ioCheck, bind_of_ok (getS_apply s), if_neg (by simpa [hm] using hcpl), ioMapCheck, bind_of_ok (getS_apply s),
    bind_of_ok (sysRead_plain hp ..), require_bind]
  simp only [decide_eq_true_iff]

end

/-- Settles O43. -/
theorem portInstructions : Obligations.PortInstructions := by
  refine ⟨fun i s f hf hl => ⟨fun h => ioCheck_of_level h .., fun s1 h => ⟨fun hin => ?input, fun hout => ?output⟩, fun s1 h => ?fails⟩,
    fun s p n hp hm hcpl => ?map⟩
  case input =>
    obtain ⟨v, n, hv⟩ := inPort_of_check h
    rw [exec_portForm hf, if_pos hin]
    exact ⟨v, n, run_of_ok hl hv⟩
  case output =>
    rw [exec_portForm hf, hout, if_neg Bool.false_ne_true]
    exact run_of_ok hl (outPort_of_check h)
  case fails =>
    rw [exec_portForm hf]
    exact run_of_error hl (port_of_failing h)
  case map =>
    intro map granted
    obtain ⟨hopen, hclosed⟩ := ioMapBits_plain hp map p.toNat n
    rw [ioCheck_map hp hm hcpl]
    refine ⟨fun ⟨hmap, hbits⟩ => ?_, fun h => ?_⟩
    · rw [if_pos hmap]
      exact hopen hbits
    · split
      case isTrue hmap => exact hclosed fun hbits => h ⟨hmap, hbits⟩
      case isFalse => rfl

end Sys2Proof.Machine
end

section
/-! MOV, PUSH and POP of segment registers, and LDS, LES, LFS, LGS, LSS (47_segment_far_transfer.md R450 to R454). -/
namespace Sys2Proof.Machine

/-! ## MOV -/

theorem movToSeg_eq {n : BitVec 3} {r : SReg} (hn : SReg.ofCode? n = some r) (hr : r ≠ .cs) (rm : Rm) :
    movToSeg n rm = (do let v ← readRm .w rm; loadSeg r v; pure (loadEnds r)) := by
  rw [movToSeg, hn]
  cases r with
  | cs => exact absurd rfl hr
  | es | ss | ds | fs | gs => rfl

theorem movToSeg_of_place {n : BitVec 3} {rm : Rm} {r : SReg} {p : Place} {s s1 s2 : State} (hn : SReg.ofCode? n = some r) (hr : r ≠ .cs)
    (hpl : place .w rm false s = .ok p s1) (hload : loadSeg r (s1.valueAt .w p) s1 = .ok () s2) :
    movToSeg n rm s = .ok (loadEnds r) s2 := by
  rw [movToSeg_eq hn hr, bind_of_ok (readRm_of_place hpl), bind_of_ok hload, pure_apply]

theorem movToSeg_missing {n : BitVec 3} (hn : SReg.ofCode? n = none) (rm : Rm) : movToSeg n rm = raiseUD := by
  rw [movToSeg, hn]

/-- CS is no destination (R451). -/
theorem movToSeg_cs (rm : Rm) : movToSeg 1#3 rm = raiseUD := rfl

theorem movFromSeg_apply {n : BitVec 3} {r : SReg} (hn : SReg.ofCode? n = some r) (rm : Rm) (s : State) :
    movFromSeg rm n s = storeWord rm (s.seg.get r).sel s := by
  rw [movFromSeg, hn]
  rfl

theorem movFromSeg_missing {n : BitVec 3} (hn : SReg.ofCode? n = none) (rm : Rm) : movFromSeg rm n = raiseUD := by
  rw [movFromSeg, hn]

/-! ## PUSH and POP -/

/-- The six PUSHes of a segment register run the one shared operation. -/
theorem exec_pushSegForm {i : Instr} {r : SReg} (h : pushSegForm i = some r) (s : State) : exec i s = run (pushSeg r) s := by
  cases i with
  | pushEs | pushCs | pushSs | pushDs | pushFs | pushGs =>
    cases h
    rfl
  | _ => cases h

/-- A selector is pushed once a free value has filled its upper half (R452, D45). -/
theorem pushSel_of_locate {sz : Size} {sel : BitVec 16} {v : BitVec sz.bits} {k : Nat} {s s1 : State} {l : Loc}
    (hpad : padSel sz sel s = .ok v (s.drawn k)) (hl : locate .ss (s.below sz.bytes) sz.bytes true (s.drawn k) = .ok l s1) :
    pushSel sz sel s = .ok () ((s1.store l v).setStackPtr (s.below sz.bytes)) := by
  rw [pushSel, bind_of_ok hpad]
  exact push_of_locate v hl

theorem popSeg_of_locate {sz : Size} {r : SReg} {l : Loc} {s s1 s2 : State} (hl : locate .ss (s.above 0) sz.bytes false s = .ok l s1)
    (hload : loadSeg r ((s1.load sz.bits l).setWidth 16) s1 = .ok () s2) :
    popSeg sz r s = .ok (loadEnds r) { s2 with gpr := (s.setStackPtr (s.above sz.bytes)).gpr } := by
  have ht := touched_of_locate hl
  have hgpr : (s1.setStackPtr (s1.above sz.bytes)).gpr = (s.setStackPtr (s.above sz.bytes)).gpr := by
    rw [State.setStackPtr, ht.gpr, ht.ssz32, ht.above]
    rfl
  rw [popSeg, bind_of_ok (peek_of_locate hl), bind_of_ok (getS_apply s1), bind_of_ok hload, bind_of_ok (modS_apply ..), hgpr, pure_apply]

/-! ## Far pointers -/

theorem loadFarPtr_reg (x : SReg) (sz : Size) (r e : Reg) (s : State) :
    loadFarPtr x sz r (.reg e) s = .error (.exc ⟨vUD, .none⟩) s := bind_of_error (onlyMem_reg e s)

section
variable {s s1 s2 s3 : State} {x : SReg} {r : Reg} {m : Mem} {l0 l1 : Loc}

/-- The selector follows the offset without wrapping, so that the pointer is checked as one operand (R454; log entry 39). -/
theorem memEaPlus_of_not_farPtrOk (h : s.farPtrOk m = false) :
    memEaPlus s.gpr m s.osz.bytes = memEa s.gpr m + BitVec.ofNat 32 s.osz.bytes ∧
      s.segOk (s.memSeg m) (memEa s.gpr m) (s.osz.bytes + 2) .read = false := by
  unfold State.farPtrOk at h
  rw [Bool.or_eq_false_iff] at h
  obtain ⟨hno, hseg⟩ := h
  refine ⟨?_, hseg⟩
  cases m with
  | a32 b i d => rfl
  | a16 b d =>
    have hlt : (memEa s.gpr (.a16 b d)).toNat + s.osz.bytes < 2 ^ 16 := Nat.not_le.1 (of_decide_eq_false hno)
    apply BitVec.eq_of_toNat_eq
    rw [memEaPlus, wrapOff, if_neg Bool.false_ne_true, BitVec.toNat_setWidth, BitVec.extractLsb'_toNat, BitVec.toNat_add,
      BitVec.toNat_ofNat, Nat.shiftRight_zero]
    omega

theorem loadFarPtr_fails (h : s.farPtrOk m = false) : loadFarPtr x s.osz r (.mem m) s = .error (segHalt (s.memSeg m)) s := by
  obtain ⟨hea, hseg⟩ := memEaPlus_of_not_farPtrOk h
  rw [loadFarPtr, bind_of_ok (onlyMem_mem m s), bind_of_ok (getS_apply s), if_pos hea]
  exact bind_of_error (checkWhole_fails hseg)

/-- Past its checks the pointer's parts are read, each at its own place. -/
theorem loadFarPtr_of_farPtrOk (h : s.farPtrOk m = true) : loadFarPtr x s.osz r (.mem m) s = (do
      let off ← readPart s.osz m 0
      let sel ← lread (s.memSeg m) (memEaPlus s.gpr m s.osz.bytes) .w
      loadSeg x sel
      putReg s.osz r off : M Unit) s := by
  rw [loadFarPtr, bind_of_ok (onlyMem_mem m s), bind_of_ok (getS_apply s), if_apply]
  split
  case isTrue hea => rw [bind_of_ok (checkWhole_passes (segOk_of_farPtrOk h hea))]
  case isFalse => rfl

theorem loadFarPtr_of_locate (hok : s.farPtrOk m = true)
    (h0 : locate (s.memSeg m) (memEa s.gpr m) s.osz.bytes false s = .ok l0 s1)
    (h1 : locate (s.memSeg m) (memEaPlus s.gpr m s.osz.bytes) 2 false s1 = .ok l1 s2)
    (hload : loadSeg x (s2.load 16 l1) s2 = .ok () s3) :
    loadFarPtr x s.osz r (.mem m) s = .ok () (s3.setReg s.osz r (s1.load s.osz.bits l0)) := by
  have hsel : lread (s.memSeg m) (memEaPlus s.gpr m s.osz.bytes) .w s1 = .ok (s2.load 16 l1) s2 := lread_of_locate h1
  rw [loadFarPtr_of_farPtrOk hok, bind_of_ok (readPart_zero_of_locate h0), bind_of_ok hsel, bind_of_ok hload, putReg_apply]

end

/-- Settles O31. -/
theorem segmentRegisterMovesAndFarPointers : Obligations.SegmentRegisterMovesAndFarPointers := by
  refine ⟨fun s hl => ⟨fun n r m p s1 hn hpl => ?movMem, fun n r e hn => ?movReg, fun n rm hn => ?missing, fun rm => ?cs,
    fun n r rm p s1 s2 hn hr hpl hload => ?load, fun i r hi => ?push, fun i r l s1 s2 hi hloc hload => ?pop⟩,
    fun i x r rm s hi hl => ⟨fun e hrm => ?ptrReg, fun m hrm hbad => ?ptrFails, fun m l0 l1 s1 s2 s3 hrm hok h0 h1 hload => ?ptr⟩⟩
  case movMem => exact run_of_ok hl ((movFromSeg_apply hn _ s).trans (storeWord_mem _ hpl))
  case movReg =>
    obtain ⟨v, k, hv, hst⟩ := storeWord_reg e (s.seg.get r).sel s
    exact ⟨v, k, hv, run_of_ok hl ((movFromSeg_apply hn _ s).trans hst)⟩
  case missing =>
    exact ⟨run_of_raise hl (congrFun (movFromSeg_missing hn rm) s),
      runInstr_of_error (.inl hl) (congrFun (movToSeg_missing hn rm) s)⟩
  case cs => exact runInstr_of_error (.inl hl) (congrFun (movToSeg_cs rm) s)
  case load => exact runInstr_of_ok (.inl hl) (movToSeg_of_place hn hr hpl hload)
  case push =>
    obtain ⟨v, k, hv, hpad⟩ := padSel_ok s.osz (s.seg.get r).sel s (osz_ne_b s)
    refine ⟨v, k, hv, fun l s1 hloc => ?_⟩
    rw [exec_pushSegForm hi]
    exact run_of_ok hl (pushSel_of_locate hpad hloc)
  case pop =>
    rw [exec_popSegForm hi]
    exact runInstr_of_ok (.inl hl) (popSeg_of_locate hloc hload)
  case ptrReg =>
    rw [exec_farPtrForm hi, hrm]
    exact run_of_raise hl (loadFarPtr_reg ..)
  case ptrFails =>
    rw [exec_farPtrForm hi, hrm]
    exact run_of_segHalt hl (loadFarPtr_fails hbad)
  case ptr =>
    rw [exec_farPtrForm hi, hrm]
    exact run_of_ok hl (loadFarPtr_of_locate hok h0 h1 hload)

end Sys2Proof.Machine
end

section
/-! Delivery of an event: in real-address mode, through interrupt and trap gates to the same and to an inner privilege level, through a
task gate, and the exceptions that meet a delivery (60_exceptions.md R589, R600 to R615; 70_reset_and_hazards.md R706). -/
namespace Sys2Proof.Machine

/-! ## Nested exceptions -/

/-- The vectors of the contributory class (R589, Table 9-3). -/
def contributes (v : BitVec 8) : Bool := v == 0#8 || v == 9#8 || v == 10#8 || v == 11#8 || v == 12#8 || v == 13#8

theorem classOf_eq (v : BitVec 8) : classOf v = if v == 14#8 then .page else if contributes v then .contributory else .benign := by
  have hc : (v = vDE ∨ v = 9#8 ∨ v = vTS ∨ v = vNP ∨ v = vSS ∨ v = vGP) ↔ contributes v = true := by
    simp only [contributes, vDE, vTS, vNP, vSS, vGP, Bool.or_eq_true, beq_iff_eq, or_assoc]
  exact if_congr beq_iff_eq.symm rfl (if_congr hc rfl rfl)

/-- The pairs of Table 9-4 (R589). -/
theorem isDouble_classOf (v w : BitVec 8) :
    isDouble (classOf v) (classOf w) = ((contributes v || v == 14#8) && contributes w || v == 14#8 && w == 14#8) := by
  have hpage : ∀ x : BitVec 8, x == 14#8 → contributes x = false := fun x hx => by
    rw [beq_iff_eq.1 hx]
    rfl
  rw [classOf_eq, classOf_eq]
  by_cases hv : v == 14#8 <;> by_cases hw : w == 14#8
  · simp [hv, hw, isDouble]
  · cases contributes w <;> simp [hv, hw, isDouble]
  · cases contributes v <;> simp [hv, hw, hpage w hw, isDouble]
  · cases contributes v <;> cases contributes w <;> simp [hv, hw, isDouble]

/-- Settles O48. -/
theorem nestedExceptions : Obligations.NestedExceptions := by
  intro n ev s s1 y h contributory double
  have hd : isDouble (classOf ev.vec) (classOf y.vec) = double := isDouble_classOf ev.vec y.vec
  rw [deliver, h, ← hd]
  rfl

/-! ## Pushes of delivery -/

/-- Doublewords stored at numbered places, from the `k`-th on. -/
def State.storeItems (t : State) (at_ : Nat → Loc) : Nat → List (BitVec 32) → State
  | _, [] => t
  | k, v :: vs => (t.store (at_ k) v).storeItems at_ (k + 1) vs

theorem touched_storeItems {s t : State} (at_ : Nat → Loc) (k : Nat) (vs : List (BitVec 32)) (h : Touched s t) :
    Touched s (t.storeItems at_ k vs) := by
  induction vs generalizing t k with
  | nil => exact h
  | cons v vs ih => exact ih _ (h.trans (touched_store ..))

/-- In a plain state a push of delivery that went through stored below the stack pointer and moved it. -/
theorem pushQuiet_inv {s t : State} (hp : s.plain = true) {sz : Size} {v : BitVec sz.bits} (h : pushQuiet sz v s = .ok () t) :
    t = (s.store (s.bytesAt .ss (s.below sz.bytes) sz.bytes) v).setStackPtr (s.below sz.bytes) := by
  by_cases hok : s.segOk .ss (s.below sz.bytes) sz.bytes .write = true
  · rw [pushQuiet_plain hp v hok] at h
    cases h
    rfl
  · rw [pushQuiet, bind_of_ok (getS_apply s), if_neg hok, segFault_apply] at h
    cases h

/-- The item pushed after `k` others, when nothing but memory has changed. -/
theorem pushQuiet_below {s t : State} (ht : Touched s t) (hp : s.plain = true) {sz : Size} {k : Nat}
    (h : s.segOk .ss (s.below ((k + 1) * sz.bytes)) sz.bytes .write = true) (v : BitVec sz.bits) :
    pushQuiet sz v (t.setStackPtr (s.below (k * sz.bytes))) =
      .ok () ((t.store (s.slot sz.bytes (k + 1)) v).setStackPtr (s.below ((k + 1) * sz.bytes))) := by
  have hb : (t.setStackPtr (s.below (k * sz.bytes))).below sz.bytes = s.below ((k + 1) * sz.bytes) := by
    rw [below_setStackPtr ht, ← Nat.succ_mul]
  have hok : (t.setStackPtr (s.below (k * sz.bytes))).segOk .ss (s.below ((k + 1) * sz.bytes)) sz.bytes .write = true :=
    (ht.segOk ..).trans h
  rw [pushQuiet_plain (s := t.setStackPtr _) (ht.plain.trans hp) v (hb.symm ▸ hok), hb, State.slot, ← ht.bytesAt]
  exact congrArg (EStateM.Result.ok ()) (setStackPtr_setStackPtr (t.store (t.bytesAt .ss _ _) v) _ _)

/-- Doublewords pushed one after the other, after `k` others, on a stack where every slot passes its checks. -/
theorem pushAllQuiet_plain {s t : State} (ht : Touched s t) (hp : s.plain = true) {k : Nat} (vs : List (BitVec 32))
    (h : ∀ j, k < j → j ≤ k + vs.length → s.segOk .ss (s.below (j * 4)) 4 .write = true) :
    pushAllQuiet vs (t.setStackPtr (s.below (k * 4))) =
      .ok () ((t.storeItems (s.slot 4) (k + 1) vs).setStackPtr (s.below ((k + vs.length) * 4))) := by
  induction vs generalizing t k with
  | nil => rfl
  | cons v vs ih =>
    have hv := pushQuiet_below (sz := .d) ht hp (h (k + 1) (by omega) (by rw [List.length_cons]; omega)) v
    have hrest := ih (ht.trans (touched_store t (s.slot 4 (k + 1)) v)) (k := k + 1) fun j hj hn =>
      h j (by omega) (by rw [List.length_cons]; omega)
    rw [pushAllQuiet, bind_of_ok hv, List.length_cons, Nat.add_comm vs.length 1, ← Nat.add_assoc]
    exact hrest

theorem setWordLo_self (x : BitVec 32) : setWordLo x (((x.extractLsb' 0 16).setWidth 32).extractLsb' 0 16) = x := by
  apply BitVec.eq_of_getLsbD_eq
  intro i hi
  rw [setWordLo, BitVec.getLsbD_append]
  by_cases h : i < 16
  · simp [h, hi]
  · simp [h, show i - 16 < 16 by omega, show 16 + (i - 16) = i by omega]

/-- Nothing pushed leaves the stack pointer where it is. -/
theorem setStackPtr_below_zero (s : State) : s.setStackPtr (s.below (0 * 4)) = s := by
  have h : (if s.ssz32 then s.stackPtr else setWordLo s.gpr.esp (s.stackPtr.extractLsb' 0 16)) = s.gpr.esp := by
    rw [State.stackPtr, wrapOff]
    split
    case isTrue => rfl
    case isFalse => exact setWordLo_self _
  rw [Nat.zero_mul, below_zero]
  exact congrArg (fun e => { s with gpr := { s.gpr with esp := e } }) h

/-- In a block below the stack pointer that passes its checks every part passes them. -/
theorem segOk_below_of_block {s : State} {size m n : Nat} (hsize : size ≤ 0x10000) (h0 : 0 < m) (hn : n ≤ m) (hm : m ≤ size)
    (h : s.segOk .ss (s.below size) size .write = true) : s.segOk .ss (s.below m) n .write = true := by
  obtain ⟨ht, hl⟩ := segOk_eq_true.1 h
  exact segOk_eq_true.2 ⟨ht, inLimit_below hsize h0 hn hm hl⟩

/-- Doublewords pushed on a stack that holds them as one block. -/
theorem pushAllQuiet_of_block {s : State} (hp : s.plain = true) (vs : List (BitVec 32)) (hsize : 4 * vs.length ≤ 0x10000)
    (h : s.segOk .ss (s.below (4 * vs.length)) (4 * vs.length) .write = true) :
    pushAllQuiet vs s = .ok () ((s.storeItems (s.slot 4) 1 vs).setStackPtr (s.below (4 * vs.length))) := by
  have hpush := pushAllQuiet_plain (k := 0) (Touched.refl s) hp vs fun j hj hn =>
    segOk_below_of_block hsize (by omega) (by omega) (by omega) h
  rw [setStackPtr_below_zero, Nat.zero_add vs.length, Nat.mul_comm] at hpush
  exact hpush

/-! ## Error codes -/

/-- The error code of an event as a list of doublewords, its undefined bits free (R595, R606). -/
theorem errDword_ok (err : ErrCode) (s : State) : ∃ (e : BitVec 32) (k : Nat), err.agrees e ∧
    errDword err s = .ok (if err = .none then [] else [e]) (s.drawn k) := by
  cases err with
  | none => exact ⟨0#32, s.draws, trivial, rfl⟩
  | sel c => exact ⟨_, s.draws + 1, BitVec.extractLsb'_append_eq_right, rfl⟩
  | page p w u =>
    refine ⟨_, s.draws + 1, ?_, rfl⟩
    simp only [ErrCode.agrees, bit, BitVec.getLsbD_append]
    simp

/-! ## Real-address mode -/

/-- The items pushed in real-address mode leave the flags, the NMI latch and the mode alone. -/
theorem pushes_real_frame {s t : State} {a b c : BitVec 16} (hp : s.plain = true)
    (h : (do pushQuiet .w a; pushQuiet .w b; pushQuiet .w c : M Unit) s = .ok () t) :
    t.flags = s.flags ∧ t.nmiInService = s.nmiInService ∧ t.cr0 = s.cr0 := by
  have step {u v : State} {x : BitVec 16} {f : Unit → M Unit} (hu : u.plain = true) (hx : (pushQuiet .w x >>= f) u = .ok () v) :
      ∃ w, f () w = .ok () v ∧ w.plain = true ∧ w.flags = u.flags ∧ w.nmiInService = u.nmiInService ∧ w.cr0 = u.cr0 := by
    cases hw : pushQuiet .w x u with
    | error e w =>
      rw [bind_of_error hw] at hx
      cases hx
    | ok _ w =>
      rw [bind_of_ok hw] at hx
      have := pushQuiet_inv hu hw
      subst this
      exact ⟨_, hx, hu, rfl, rfl, rfl⟩
  obtain ⟨t1, h1, hp1, hf1, hn1, hc1⟩ := step hp h
  obtain ⟨t2, h2, hp2, hf2, hn2, hc2⟩ := step hp1 h1
  have := pushQuiet_inv hp2 h2
  subst this
  exact ⟨hf2.trans hf1, hn2.trans hn1, hc2.trans hc1⟩

theorem orShutdown_of_ok {α : Type} {x : M α} {s t : State} {a : α} (h : x s = .ok a t) : orShutdown x s = .ok a t := by
  rw [orShutdown, h]

/-- In real-address mode NMI itself, and nothing else, puts an NMI in service (70_reset_and_hazards.md R706). -/
theorem delivered_real {s : State} (ev : Event) (hm : s.protectedMode = false) : s.delivered ev =
    { s with run := .running, ssShadow := false, stiShadow := false, pastEnd := false, queue := [],
             nmiInService := s.nmiInService || (ev.vec == 2#8 && ev.kind == .nmi) } := by
  rw [State.delivered, Event.servesNmi, hm]
  rfl

/-- In protected mode an external event of vector 2 does (R600). -/
theorem delivered_protected {s : State} (ev : Event) (hm : s.protectedMode = true) : s.delivered ev =
    { s with run := .running, ssShadow := false, stiShadow := false, pastEnd := false, queue := [],
             nmiInService := s.nmiInService || (ev.vec == 2#8 && (ev.kind == .external || ev.kind == .nmi)) } := by
  rw [State.delivered, Event.servesNmi, hm]
  rfl

/-- Settles O45. -/
theorem deliveryInRealMode : Obligations.DeliveryInRealMode := by
  intro s s1 ev hm hp hlim hpush entry off sel
  obtain ⟨hf, hn, hc⟩ := pushes_real_frame hp hpush
  have hmode : s1.protectedMode = false := (congrArg Cr0.PE hc).trans hm
  rw [deliverOnce, bind_of_ok (getS_apply s), hm, if_neg Bool.false_ne_true, deliverReal, bind_of_ok (getS_apply s),
    if_neg (by omega), bind_of_ok (sysRead_plain hp ..), bind_of_ok (sysRead_plain hp ..), bind_of_ok (orShutdown_of_ok hpush),
    loadCodeReal, bind_of_ok (modS_apply ..), bind_of_ok (modS_apply ..), modS_apply, ← hf, ← hn]
  exact congrArg _ (delivered_real ev hmode)

end Sys2Proof.Machine
end

section
/-! Delivery through interrupt, trap and task gates in protected mode (60_exceptions.md R600 to R615; 49_multitasking.md R562;
47_segment_far_transfer.md R458). -/
namespace Sys2Proof.Machine

/-! ## The gate -/

/-- The IDT entry of a vector, read in a plain state (R610). -/
def State.idtGate (s : State) (v : BitVec 8) : Desc := s.descAt (s.idtr.base + BitVec.ofNat 32 (v.toNat * 8))

/-- The gates delivery knows: task, interrupt and trap gates of the 386 (R610). -/
def Desc.isIdtGate (d : Desc) : Bool := d.isSystem 5#4 || d.isSystem 0xE#4 || d.isSystem 0xF#4

/-- A system descriptor of one type is of no type that is not that one. -/
theorem isSystem_excludes {d : Desc} {a : BitVec 4} (h : d.isSystem a = true) {bs : List (BitVec 4)} (hb : a ∉ bs) :
    ∀ b ∈ bs, d.isSystem b = false := fun _ hmem => isSystem_other h fun hab => hb (hab ▸ hmem)

theorem isIdtGate_386 {d : Desc} (h : d.isIdtGate = true) : d.isSystem 6#4 = false ∧ d.isSystem 7#4 = false := by
  have hno {a : BitVec 4} (ha : d.isSystem a = true) (hn : a ∉ [6#4, 7#4]) : d.isSystem 6#4 = false ∧ d.isSystem 7#4 = false :=
    ⟨isSystem_excludes ha hn _ (by simp), isSystem_excludes ha hn _ (by simp)⟩
  simp only [Desc.isIdtGate, Bool.or_eq_true] at h
  rcases h with (h | h) | h
  · exact hno h (by decide)
  · exact hno h (by decide)
  · exact hno h (by decide)

/-- An interrupt or trap gate to be gone through: what `deliverProtected` does past its checks (R600). -/
def deliverGate (ev : Event) (gate : Desc) : M Unit := do
  let s ← getS
  let csel := gate.gateSel
  require (!nullSel csel) vGP (zeroCode ev.ext)
  let target ← fetchDescOr csel vGP (selCode csel ev.ext)
  require target.isCode vGP (selCode csel ev.ext)
  require (decide (target.dpl.toNat ≤ s.cpl.toNat)) vGP (selCode csel ev.ext)
  require target.p vNP (selCode csel ev.ext)
  if !target.isConforming && decide (target.dpl.toNat < s.cpl.toNat) then deliverInner ev gate target
  else deliverSame ev gate target
  modS fun s => s.delivered ev

/-- Which gate an event goes through, and that it may (R600, R610, R613, R614). -/
structure GateOpen (s : State) (ev : Event) : Prop where
  plain : s.plain = true
  mode : s.protectedMode = true
  inTable : ev.vec.toNat * 8 + 7 ≤ s.idtr.limit.toNat
  kind : (s.idtGate ev.vec).isIdtGate = true
  level : ev.kind = .software → s.cpl.toNat ≤ (s.idtGate ev.vec).dpl.toNat
  present : (s.idtGate ev.vec).p = true

section
variable {s : State} {ev : Event} (h : GateOpen s ev)
include h

theorem readIdt_plain (ext : Bool) : readIdt ev.vec ext s = .ok (s.idtGate ev.vec) s := by
  obtain ⟨h6, h7⟩ := isIdtGate_386 h.kind
  have hkind := h.kind
  rw [State.idtGate] at h6 h7
  rw [Desc.isIdtGate, State.idtGate] at hkind
  rw [readIdt, bind_of_ok (getS_apply s), require_bind, if_pos (decide_eq_true h.inTable), bind_of_ok (readDesc_plain h.plain _), h6, h7,
    if_neg (by decide), require_bind, if_pos hkind]
  rfl

/-- Past the gate's own checks, its type decides (R600). -/
theorem deliverOnce_of_gate : deliverOnce ev s =
    (if (s.idtGate ev.vec).isSystem 5#4 then deliverTask ev (s.idtGate ev.vec) else deliverGate ev (s.idtGate ev.vec)) s := by
  have hlevel : (ev.kind != .software || decide (s.cpl.toNat ≤ (s.idtGate ev.vec).dpl.toNat)) = true := by
    rw [Bool.or_eq_true, bne_iff_ne, decide_eq_true_iff]
    exact (Decidable.em (ev.kind = .software)).elim (.inr ∘ h.level) .inl
  rw [deliverOnce, bind_of_ok (getS_apply s), if_pos h.mode, deliverProtected, bind_of_ok (getS_apply s), bind_of_ok (readIdt_plain h _),
    require_bind, if_pos hlevel, require_bind, if_pos h.present]
  split
  case isTrue => rfl
  case isFalse =>
    rw [deliverGate, bind_of_ok (getS_apply s)]

end

/-- The code segment a gate leads to passes its checks (R600). -/
structure TargetOpen (s : State) (gate target : Desc) (la : BitVec 32) : Prop where
  notNull : nullSel gate.gateSel = false
  entry : s.entryAddr gate.gateSel = some la
  here : target = s.descAt la
  code : target.isCode = true
  level : target.dpl.toNat ≤ s.cpl.toNat
  present : target.p = true
  inLimit : gate.gateOff.toNat ≤ target.limit.toNat

section
variable {s t : State} {ev : Event} {gate target : Desc} {la : BitVec 32} (hp : s.plain = true)
include hp

theorem deliverGate_of_target (ht : TargetOpen s gate target la)
    (h : (if !target.isConforming && decide (target.dpl.toNat < s.cpl.toNat) then deliverInner ev gate target
      else deliverSame ev gate target) s = .ok () t) : deliverGate ev gate s = .ok () (t.delivered ev) := by
  rw [deliverGate, bind_of_ok (getS_apply s), require_bind, ht.notNull, Bool.not_false, if_pos rfl,
    bind_of_ok (fetchDescOr_plain hp ht.entry ..), ← ht.here, require_bind, if_pos ht.code, require_bind,
    if_pos (decide_eq_true ht.level), require_bind, if_pos ht.present]
  split
  case isTrue hc =>
    rw [if_pos hc] at h
    exact bind_of_ok h
  case isFalse hc =>
    rw [if_neg hc] at h
    exact bind_of_ok h

/-- The flags a handler starts with (R600, R612). -/
def Eflags.inHandler (f : Eflags) (gate : Desc) : Eflags :=
  { f with TF := false, IF := if gate.isSystem 0xE#4 then false else f.IF, NT := false, RF := false }

/-- CS is loaded from a descriptor in a plain state (21_protection.md R176). -/
theorem loadCode_plain (d : Desc) (sel : BitVec 16) (cpl : BitVec 2) : loadCode d sel cpl s = .ok ()
    { s.loadedDesc d with seg := s.seg.set .cs (d.toSeg (withRpl sel cpl)), cpl := cpl, a31High := false } := by
  rw [loadCode, putCode, ← bind_assoc, bind_of_ok (setAccessed_putSeg hp ..), modS_apply]

/-- Entering a handler in a plain state. -/
theorem enterHandler_plain (gate target : Desc) (cpl : BitVec 2) : enterHandler gate target cpl s = .ok ()
    { s.loadedDesc target with
      seg := s.seg.set .cs (target.toSeg (withRpl gate.gateSel cpl)), cpl := cpl, a31High := false, eip := gate.gateOff,
      eipNext := gate.gateOff, flags := s.flags.inHandler gate } := by
  have hflags : (s.loadedDesc target).flags = s.flags := by
    rw [State.loadedDesc]
    split <;> rfl
  rw [enterHandler, bind_of_ok (loadCode_plain hp ..), modS_apply, ← hflags]
  rfl

end

/-- A selector as a pushed doubleword has a free upper half (D45). -/
theorem padSel_dword (sel : BitVec 16) (s : State) : ∃ (u : BitVec 16) (k : Nat), padSel .d sel s = .ok (u ++ sel) (s.drawn k) :=
  ⟨_, s.draws + 1, rfl⟩

theorem touched_loadedDesc (s : State) (d : Desc) : Touched s (s.loadedDesc d) := by
  rw [State.loadedDesc]
  split <;> exact ⟨_, _, _, _, _, _, _, rfl⟩

theorem touched_drawn (s : State) (n : Nat) : Touched s (s.drawn n) := ⟨_, _, _, _, _, _, _, rfl⟩

theorem Touched.nmiInService {s t : State} (h : Touched s t) : t.nmiInService = s.nmiInService := by
  obtain ⟨_, _, _, _, _, _, _, rfl⟩ := h
  rfl

theorem Touched.setStackPtr {s t : State} (h : Touched s t) (v : BitVec 32) :
    t.setStackPtr v = { t with gpr := (s.setStackPtr v).gpr, seg := s.seg } := by
  obtain ⟨_, _, _, _, _, _, _, rfl⟩ := h
  rfl

/-- IF as an interrupt gate clears it and a trap gate keeps it (R612). -/
theorem inHandler_eq {gate : Desc} (h : gate.isSystem 0xE#4 = true ∨ gate.isSystem 0xF#4 = true) (f : Eflags) :
    f.inHandler gate = { f with TF := false, IF := f.IF && gate.isSystem 0xF#4, NT := false, RF := false } := by
  rcases h with h | h
  · rw [Eflags.inHandler, if_pos h, isSystem_other h (by decide), Bool.and_false]
  · rw [Eflags.inHandler, isSystem_other h (by decide), if_neg Bool.false_ne_true, h, Bool.and_true]

/-- The machine in a handler that was entered on a stack prepared in `t`: general registers, segments and level as delivery left
them, memory from `t` (R600). -/
def State.handling (t s : State) (ev : Event) (gate target : Desc) (cpl : BitVec 2) (g : Gpr) (x : Segs) : State :=
  { t.loadedDesc target with
    gpr := g, seg := x.set .cs (target.toSeg (withRpl gate.gateSel cpl)), cpl := cpl, a31High := false,
    eip := gate.gateOff, eipNext := gate.gateOff,
    flags := { s.flags with TF := false, IF := s.flags.IF && gate.isSystem 0xF#4, NT := false, RF := false },
    run := .running, ssShadow := false, stiShadow := false, pastEnd := false, queue := [],
    nmiInService := s.nmiInService || (ev.vec == 2#8 && (ev.kind == .external || ev.kind == .nmi)) }

/-- The handler is entered, and the delivery completed, from a state that differs from `t` in general registers and segments. -/
theorem enterHandler_handling {s t : State} {gate : Desc} (ht : Touched s t) (hp : s.plain = true) (hm : s.protectedMode = true)
    (hg : gate.isSystem 0xE#4 = true ∨ gate.isSystem 0xF#4 = true) (ev : Event) (target : Desc) (cpl : BitVec 2) (g : Gpr) (x : Segs) :
    ∃ u, enterHandler gate target cpl { t with gpr := g, seg := x } = .ok () u ∧
      u.delivered ev = t.handling s ev gate target cpl g x := by
  have hp' : State.plain { t with gpr := g, seg := x } = true := ht.plain.trans hp
  have hload : State.loadedDesc { t with gpr := g, seg := x } target = { t.loadedDesc target with gpr := g, seg := x } := by
    rw [State.loadedDesc, State.loadedDesc]
    split <;> rfl
  have htl : Touched s (t.loadedDesc target) := ht.trans (touched_loadedDesc t target)
  have hm' : (t.loadedDesc target).cr0.PE = true := (congrArg Cr0.PE htl.cr0).trans hm
  refine ⟨_, enterHandler_plain hp' .., ?_⟩
  rw [delivered_protected ev (by rw [hload]; exact hm'), hload, State.handling, ← htl.nmiInService, ← ht.flags, inHandler_eq hg]

/-! ## The same level -/

/-- The doublewords pushed for an event: flags, CS, EIP and the error code if there is one (R600). -/
def Event.frame (ev : Event) (f : Eflags) (cs : BitVec 32) (err : List (BitVec 32)) : List (BitVec 32) :=
  [(ev.image f).toBits, cs, ev.ret] ++ err

section
variable {s : State} {ev : Event} {gate target : Desc} (hp : s.plain = true) (hm : s.protectedMode = true)
  (hg : gate.isSystem 0xE#4 = true ∨ gate.isSystem 0xF#4 = true) (hin : gate.gateOff.toNat ≤ target.limit.toNat)
include hp hm hg hin

/-- Delivery to the same level, on a stack that holds the frame as one block (R600; log entry 18). -/
theorem deliverSame_plain {err : List (BitVec 32)} {k n : Nat} (herr : errDword ev.err s = .ok err (s.drawn k)) (hlen : err.length ≤ 1)
    (hn : n = 3 + err.length) (hroom : s.segOk .ss (s.below (4 * n)) (4 * n) .write = true) :
    ∃ (u : BitVec 16) (k : Nat) (v : State), deliverSame ev gate target s = .ok () v ∧
      v.delivered ev = ((s.drawn k).storeItems (s.slot 4) 1 (ev.frame s.flags (u ++ s.seg.cs.sel) err)).handling
        s ev gate target s.cpl (s.setStackPtr (s.below (4 * n))).gpr s.seg := by
  subst hn
  obtain ⟨u, k1, hpad⟩ := padSel_dword s.seg.cs.sel (s.drawn k)
  have hvs : (ev.frame s.flags (u ++ s.seg.cs.sel) err).length = 3 + err.length := List.length_append
  have ht : Touched s ((s.drawn k1).storeItems (s.slot 4) 1 (ev.frame s.flags (u ++ s.seg.cs.sel) err)) := touched_storeItems _ _ _ (touched_drawn s k1)
  have hpush := pushAllQuiet_of_block (s := s.drawn k1) hp (ev.frame s.flags (u ++ s.seg.cs.sel) err) (by omega) (by rw [hvs]; exact hroom)
  rw [hvs] at hpush
  obtain ⟨v, hv, hd⟩ := enterHandler_handling ht hp hm hg ev target s.cpl (s.setStackPtr (s.below (4 * (3 + err.length)))).gpr s.seg
  refine ⟨u, k1, v, ?_, hd⟩
  have hr : s.room (4 * (3 + err.length)) = true := (segOk_eq_true.1 hroom).2
  rw [deliverSame, bind_of_ok (getS_apply s), bind_of_ok herr, require_bind, if_pos hr, require_bind, if_pos (decide_eq_true hin),
    bind_of_ok hpad]
  exact (bind_of_ok (hpush.trans (congrArg _ (ht.setStackPtr _)))).trans hv

end

/-- Settles O46. -/
theorem deliveryToTheSameLevel : Obligations.DeliveryToTheSameLevel := by
  intro s ev la hm hp htab gate hg hlevel hpres hnull hent target hcode hpl htp hoff n hroom
  have hkind : gate.isIdtGate = true := by
    rw [Desc.isIdtGate, Bool.or_assoc, Bool.or_eq_true, Bool.or_eq_true]
    exact .inr hg
  have hno5 : gate.isSystem 5#4 = false :=
    hg.elim (fun h => isSystem_other h (by decide)) fun h => isSystem_other h (by decide)
  have hsame : (!target.isConforming && decide (target.dpl.toNat < s.cpl.toNat)) = false := by
    rcases hpl with h | h
    · rw [h]
      simp
    · rw [h.1]
      rfl
  have hle : target.dpl.toNat ≤ s.cpl.toNat := hpl.elim (fun h => h ▸ Nat.le_refl _) And.right
  obtain ⟨e, k, he, herr⟩ := errDword_ok ev.err s
  have hn : n = 3 + (if ev.err = .none then [] else [e]).length := by
    show (if ev.err = .none then 3 else 4) = _
    split <;> rfl
  obtain ⟨u, k1, v, hv, hd⟩ := deliverSame_plain hp hm hg hoff herr (by split <;> simp) hn hroom
  refine ⟨u, e, k1, he, ?_⟩
  intro image t t'
  have hstored : (s.drawn k1).storeItems (s.slot 4) 1 (ev.frame s.flags (u ++ s.seg.cs.sel) (if ev.err = .none then [] else [e])) =
      if ev.err = .none then t else t.store (s.slot 4 4) e := by
    split <;> rfl
  have hcpl : t'.cpl = s.cpl := by
    rw [← ((touched_storeItems _ _ _ (touched_drawn s k1)).trans (touched_loadedDesc _ target)).cpl, hstored]
  rw [deliverOnce_of_gate ⟨hp, hm, htab, hkind, hlevel, hpres⟩, if_neg (by rw [State.idtGate]; exact Bool.eq_false_iff.1 hno5)]
  refine (deliverGate_of_target hp ⟨hnull, hent, rfl, hcode, hle, htp, hoff⟩ (by rw [hsame]; exact hv)).trans ?_
  rw [hd, hstored, State.handling, ← hcpl]

end Sys2Proof.Machine
end

section
/-! Delivery to an inner privilege level, and through a task gate (60_exceptions.md R600, R602, R615; 49_multitasking.md R562;
47_segment_far_transfer.md R458). -/
namespace Sys2Proof.Machine

/-! ## The stack of an inner level -/

/-- The stack pointer a TSS holds for a level (47_segment_far_transfer.md R458). -/
def State.innerEsp (s : State) (c : BitVec 2) : BitVec 32 := s.phys32 (s.tr.base + BitVec.ofNat 32 (4 + 8 * c.toNat))

/-- The stack selector a TSS holds for a level (47_segment_far_transfer.md R458). -/
def State.innerSs (s : State) (c : BitVec 2) : BitVec 16 :=
  s.load 16 (Loc.from (s.tr.base + BitVec.ofNat 32 (8 + 8 * c.toNat)) 2)

/-- The stack of an inner level passes its checks (47_segment_far_transfer.md R458). -/
structure InnerOpen (s : State) (c : BitVec 2) (sa : BitVec 32) : Prop where
  inTss : 8 * c.toNat + 11 ≤ s.tr.limit.toNat
  notNull : nullSel (s.innerSs c) = false
  entry : s.entryAddr (s.innerSs c) = some sa
  rpl : rplOf (s.innerSs c) = c
  writable : (s.descAt sa).isWritableData = true
  level : (s.descAt sa).dpl = c
  present : (s.descAt sa).p = true

theorem innerStack_plain {s : State} (hp : s.plain = true) {c : BitVec 2} {sa : BitVec 32} (h : InnerOpen s c sa) (ext : Bool) :
    innerStack c ext s = .ok (s.innerSs c, s.descAt sa, s.innerEsp c) s := by
  have hsel : s.load 16 (Loc.from (s.tr.base + BitVec.ofNat 32 (8 + 8 * c.toNat)) 2) = s.innerSs c := rfl
  rw [innerStack, bind_of_ok (getS_apply s), require_bind, if_pos (decide_eq_true h.inTss), bind_of_ok (sysRead_plain hp ..),
    bind_of_ok (sysRead_plain hp ..), hsel, require_bind, h.notNull, Bool.not_false, if_pos rfl,
    bind_of_ok (fetchDescOr_plain hp h.entry ..), require_bind, if_pos (beq_iff_eq.2 h.rpl), require_bind, if_pos h.writable,
    require_bind, if_pos (beq_iff_eq.2 h.level), require_bind, if_pos h.present]
  rfl

/-- The `j`-th doubleword below the top of a stack being switched to. -/
def SegReg.innerSlot (g : SegReg) (top : BitVec 32) (j : Nat) : Loc :=
  Loc.from (g.base + wrapOff g.db (top - BitVec.ofNat 32 (4 * j))) 4

theorem noteAccess_plain {s : State} (hp : s.plain = true) (la : BitVec 32) (n : Nat) (w : Bool) : noteAccess la n w s = .ok () s := by
  obtain ⟨-, hw, -, -⟩ := s.plain_iff.1 hp
  rw [noteAccess, bind_of_ok (getS_apply s), hw]
  rfl

theorem innerWrite_plain {s : State} (hp : s.plain = true) (note : Bool) (g : SegReg) (off v : BitVec 32) :
    innerWrite note g off v s = .ok () (s.store (Loc.from (g.base + off) 4) v) := by
  cases note
  · exact sysWrite_plain hp ..
  · exact (bind_of_ok (noteAccess_plain hp ..)).trans (sysWrite_plain hp ..)

/-- One doubleword further down. -/
theorem wrapOff_sub_four {b : Bool} {off top : BitVec 32} {k : Nat} (h : wrapOff b off = wrapOff b (top - BitVec.ofNat 32 (4 * k))) :
    wrapOff b (off - 4#32) = wrapOff b (top - BitVec.ofNat 32 (4 * (k + 1))) := by
  rw [← wrapOff_wrapOff_sub, h, Nat.mul_succ]
  exact wrapOff_sub_add b top (4 * k) 4

/-- Items pushed, after `k` others, on a stack being switched to. -/
theorem innerPushAll_plain {s : State} (hp : s.plain = true) (note : Bool) {g : SegReg} {top off : BitVec 32} {k : Nat}
    (hk : wrapOff g.db off = wrapOff g.db (top - BitVec.ofNat 32 (4 * k))) (vs : List (BitVec 32)) :
    ∃ off', wrapOff g.db off' = wrapOff g.db (top - BitVec.ofNat 32 (4 * (k + vs.length))) ∧
      innerPushAll note g off vs s = .ok off' (s.storeItems (g.innerSlot top) (k + 1) vs) := by
  induction vs generalizing s off k with
  | nil => exact ⟨off, hk, rfl⟩
  | cons v vs ih =>
    have hnext := wrapOff_sub_four hk
    obtain ⟨off', hoff, hrest⟩ := ih (s := s.store (g.innerSlot top (k + 1)) v) hp ((wrapOff_wrapOff ..).trans hnext)
    refine ⟨off', ?_, ?_⟩
    · rw [hoff, List.length_cons, Nat.add_assoc, Nat.add_comm 1]
    · have hslot : g.innerSlot top (k + 1) = Loc.from (g.base + wrapOff g.db (off - 4#32)) 4 := by rw [SegReg.innerSlot, hnext]
      rw [innerPushAll, bind_of_ok (innerWrite_plain hp ..), ← hslot]
      exact hrest

/-! ## Delivery to an inner level -/

/-- The doublewords written on an inner stack for an event (R600). -/
def Event.innerFrame (ev : Event) (s : State) (ss cs : BitVec 32) (err : List (BitVec 32)) : List (BitVec 32) :=
  [ss, s.gpr.esp] ++ ev.frame s.flags cs err

/-- The stack is switched: SS from its descriptor, ESP as given (R600). -/
theorem switchStack {s t : State} (ht : Touched s t) (hp : s.plain = true) (d : Desc) (g : SegReg) (esp : BitVec 32) :
    (do setAccessed d; putSeg .ss g; modS fun s => { s with gpr := { s.gpr with esp := esp } } : M Unit) t =
      .ok () { t.loadedDesc d with gpr := { s.gpr with esp := esp }, seg := s.seg.set .ss g } := by
  have htd := ht.trans (touched_loadedDesc t d)
  rw [← bind_assoc, bind_of_ok (setAccessed_putSeg (ht.plain.trans hp) ..), modS_apply, ht.seg, ← htd.gpr]

section
variable {s : State} {ev : Event} {gate target : Desc} {sa : BitVec 32} (hp : s.plain = true) (hm : s.protectedMode = true)
  (hg : gate.isSystem 0xE#4 = true ∨ gate.isSystem 0xF#4 = true) (hin : gate.gateOff.toNat ≤ target.limit.toNat)
  (hs : InnerOpen s target.dpl sa)
include hp hm hg hin hs

/-- Delivery to an inner level, on a stack that holds the frame as one block (R600; log entry 18). -/
theorem deliverInner_plain {err : List (BitVec 32)} {k n : Nat} (herr : errDword ev.err s = .ok err (s.drawn k))
    (hn : n = 5 + err.length) (hroom : ((s.descAt sa).toSeg (s.innerSs target.dpl)).roomBelow ((s.descAt sa).toSeg
      (s.innerSs target.dpl)).db (s.innerEsp target.dpl) (4 * n) = true) :
    ∃ (u1 u2 : BitVec 16) (k : Nat) (v : State), deliverInner ev gate target s = .ok () v ∧
      let g := (s.descAt sa).toSeg (s.innerSs target.dpl)
      v.delivered ev = (((s.drawn k).storeItems (g.innerSlot (s.innerEsp target.dpl)) 1
        (ev.innerFrame s (u1 ++ s.seg.ss.sel) (u2 ++ s.seg.cs.sel) err)).loadedDesc (s.descAt sa)).handling s ev gate target target.dpl
          { s.gpr with esp := s.innerEsp target.dpl - BitVec.ofNat 32 (4 * n) } (s.seg.set .ss g) := by
  subst hn
  obtain ⟨u1, k1, hss⟩ := padSel_dword s.seg.ss.sel (s.drawn k)
  obtain ⟨u2, k2, hcs⟩ := padSel_dword s.seg.cs.sel ((s.drawn k).drawn k1)
  obtain ⟨off, -, hpush⟩ := innerPushAll_plain (s := s.drawn k2) hp false (k := 0) (off := s.innerEsp target.dpl)
    (g := (s.descAt sa).toSeg (s.innerSs target.dpl)) (top := s.innerEsp target.dpl) (by rw [Nat.mul_zero, BitVec.sub_zero])
    (ev.innerFrame s (u1 ++ s.seg.ss.sel) (u2 ++ s.seg.cs.sel) err)
  have ht := touched_storeItems (((s.descAt sa).toSeg (s.innerSs target.dpl)).innerSlot (s.innerEsp target.dpl)) (0 + 1)
    (ev.innerFrame s (u1 ++ s.seg.ss.sel) (u2 ++ s.seg.cs.sel) err) (touched_drawn s k2)
  obtain ⟨v, hv, hd⟩ := enterHandler_handling (ht.trans (touched_loadedDesc _ (s.descAt sa))) hp hm hg ev target target.dpl
    { s.gpr with esp := s.innerEsp target.dpl - BitVec.ofNat 32 (4 * (5 + err.length)) }
    (s.seg.set .ss ((s.descAt sa).toSeg (s.innerSs target.dpl)))
  refine ⟨u1, u2, k2, v, ?_, hd⟩
  rw [deliverInner, bind_of_ok (getS_apply s), bind_of_ok (innerStack_plain hp hs _)]
  show (errDword ev.err >>= _) s = _
  rw [bind_of_ok herr, require_bind, if_pos hroom, require_bind, if_pos (decide_eq_true hin), bind_of_ok hss, bind_of_ok hcs]
  refine (bind_of_ok hpush).trans ?_
  have hstack := switchStack ht hp (s.descAt sa) ((s.descAt sa).toSeg (s.innerSs target.dpl))
    (s.innerEsp target.dpl - BitVec.ofNat 32 (4 * (5 + err.length)))
  rw [← bind_assoc, ← bind_assoc, bind_assoc (setAccessed _), bind_of_ok hstack]
  exact hv

end

/-! ## Task gates -/

theorem inNewTask_of_ok {α : Type} {x : M α} {s t : State} {a : α} (h : x s = .ok a t) : inNewTask x s = .ok a t := by
  rw [inNewTask, h]

/-- The T bit of a TSS (49_multitasking.md R559). -/
def State.taskTrap (s : State) : Bool := (s.load 16 (Loc.from (s.tr.base + 0x64#32) 2)).getLsbD 0

theorem taskTrapBit_plain {s : State} (hp : s.plain = true) :
    taskTrapBit s = .ok () { s with dbg := { s.dbg with pendingBT := s.dbg.pendingBT || s.taskTrap } } := by
  rw [taskTrapBit, bind_of_ok (getS_apply s), bind_of_ok (sysRead_plain hp ..)]
  change (if s.taskTrap = true then _ else _ : M Unit) s = _
  cases s.taskTrap
  · rw [Bool.or_false]
    rfl
  · rw [Bool.or_true]
    rfl

/-- The descriptor a task gate leads to is an available TSS that may be entered (49_multitasking.md R554, R562). -/
structure TssOpen (s : State) (sel : BitVec 16) (la : BitVec 32) : Prop where
  inGdt : tiOf sel = false
  notNull : indexOf sel ≠ 0#13
  entry : s.entryAddr sel = some la
  available : (s.descAt la).isSystem 9#4 = true
  present : (s.descAt la).p = true

theorem gateTss_plain {s : State} (hp : s.plain = true) {sel : BitVec 16} {la : BitVec 32} (h : TssOpen s sel la) (ext : Bool) :
    gateTss sel ext s = .ok (s.descAt la) s := by
  rw [gateTss, require_bind, h.inGdt, Bool.not_false, Bool.true_and, if_pos (bne_iff_ne.2 h.notNull),
    bind_of_ok (fetchDescOr_plain hp h.entry ..), isSystem_other h.available (by decide), isSystem_other h.available (by decide),
    if_neg (by decide), require_bind, if_pos h.available, require_bind, if_pos h.present]
  rfl

/-- Delivery through a task gate: the switch, the error code on the new task's stack, the T bit of its TSS (R615). -/
theorem deliverTask_plain {s s1 : State} {ev : Event} {gate : Desc} {la : BitVec 32} (hp : s.plain = true) (h : TssOpen s gate.gateSel la)
    (hsw : taskSwitchCore .int gate.gateSel (s.descAt la) ev.ext ev.ret (ev.image s.flags) (s.delivered ev) = .ok () s1)
    (hp1 : s1.plain = true) (hroom : ev.err ≠ .none → s1.segOk .ss (s1.below 4) 4 .write = true) :
    ∃ (e : BitVec 32) (k : Nat), ev.err.agrees e ∧
      let t := if ev.err = .none then s1 else ((s1.drawn k).store (s1.slot 4 1) e).setStackPtr (s1.below 4)
      deliverTask ev gate s = .ok () { t with dbg := { t.dbg with pendingBT := t.dbg.pendingBT || t.taskTrap } } := by
  obtain ⟨e, k, he, herr⟩ := errDword_ok ev.err s1
  refine ⟨e, k, he, ?_⟩
  intro t
  have hpush : (errDword ev.err >>= pushAllQuiet) s1 = .ok () t := by
    by_cases hnone : ev.err = .none
    case pos =>
      rw [show t = s1 from if_pos hnone, hnone]
      rfl
    case neg =>
      rw [bind_of_ok herr, if_neg hnone, show t = _ from if_neg hnone]
      exact pushAllQuiet_of_block (s := s1.drawn k) hp1 [e] (by rw [List.length_singleton]; decide) (hroom hnone)
  have hpt : t.plain = true := by
    show State.plain (if ev.err = .none then _ else _) = true
    split <;> exact hp1
  rw [deliverTask, bind_of_ok (gateTss_plain hp h _), bind_of_ok (getS_apply s), bind_of_ok (modS_apply ..), bind_of_ok hsw]
  refine inNewTask_of_ok ?_
  rw [← bind_assoc, bind_of_ok hpush]
  exact taskTrapBit_plain hpt

/-- Settles O47. -/
theorem deliveryToAnInnerLevelOrTask : Obligations.DeliveryToAnInnerLevelOrTask := by
  intro s ev la hm hp htab gate hlevel hpres hent target nmi image
  constructor
  case left =>
    intro sa hg hnull hcode hconf hpl htp hoff htss esp ss hnss hsent sd hrpl hw hdpl hsp n g hroom
    have hkind : gate.isIdtGate = true := by
      rw [Desc.isIdtGate, Bool.or_assoc, Bool.or_eq_true, Bool.or_eq_true]
      exact .inr hg
    have hno5 : gate.isSystem 5#4 = false :=
      hg.elim (fun h => isSystem_other h (by decide)) fun h => isSystem_other h (by decide)
    have hinner : (!target.isConforming && decide (target.dpl.toNat < s.cpl.toNat)) = true := by
      rw [hconf, decide_eq_true hpl]
      rfl
    obtain ⟨e, k, he, herr⟩ := errDword_ok ev.err s
    have hn : n = 5 + (if ev.err = .none then [] else [e]).length := by
      show (if ev.err = .none then 5 else 6) = _
      split <;> rfl
    obtain ⟨u1, u2, k1, v, hv, hd⟩ := deliverInner_plain hp hm hg hoff ⟨htss, hnss, hsent, hrpl, hw, hdpl, hsp⟩ herr hn hroom
    refine ⟨u1, u2, e, k1, he, ?_⟩
    intro at_ t t'
    have hstored : (s.drawn k1).storeItems (g.innerSlot esp) 1
        (ev.innerFrame s (u1 ++ s.seg.ss.sel) (u2 ++ s.seg.cs.sel) (if ev.err = .none then [] else [e])) =
        if ev.err = .none then t else t.store (at_ 6) e := by
      split <;> rfl
    rw [deliverOnce_of_gate ⟨hp, hm, htab, hkind, hlevel, hpres⟩, if_neg (by rw [State.idtGate]; exact Bool.eq_false_iff.1 hno5)]
    refine (deliverGate_of_target hp ⟨hnull, hent, rfl, hcode, Nat.le_of_lt hpl, htp, hoff⟩ (by rw [hinner]; exact hv)).trans
      (congrArg _ (hd.trans ?_))
    rw [State.innerEsp, State.innerSs, hstored, State.handling]
  case right =>
    intro s1 hg hti hidx hsys htp hsw hp1 hroom
    rw [deliverOnce_of_gate ⟨hp, hm, htab, by rw [Desc.isIdtGate]; exact (congrArg (· || _ || _) hg), hlevel, hpres⟩,
      if_pos (by rw [State.idtGate]; exact hg)]
    exact deliverTask_plain hp ⟨hti, hidx, hent, hsys, htp⟩ (by rw [delivered_protected ev hm]; exact hsw) hp1 hroom

end Sys2Proof.Machine
end

section
/-! Far JMP, CALL and RET in real-address mode (47_segment_far_transfer.md R464 to R468). -/
namespace Sys2Proof.Machine

/-- The machine after a far transfer in real-address mode: CS takes the selector, EIP the offset (R467). -/
def State.landReal (t : State) (sel : BitVec 16) (off : BitVec 32) : State :=
  { t with seg := { t.seg with cs := t.seg.cs.realLoad sel }, a31High := false }.jump off

theorem Touched.protectedMode {s t : State} (h : Touched s t) : t.protectedMode = s.protectedMode := congrArg Cr0.PE h.cr0

/-- An operand that was located had passed its segment checks (21_protection.md R170). -/
theorem segOk_of_locate {s t : State} {r : SReg} {off : BitVec 32} {n : Nat} {w : Bool} {l : Loc} (h : locate r off n w s = .ok l t) :
    s.segOk r off n (if w then .write else .read) = true := by
  by_contra hbad
  rw [locate_bad (Bool.eq_false_iff.2 hbad)] at h
  cases h

/-- A read above the stack pointer where nothing but locating other parts has happened. -/
theorem peek_of_touched {s s1 s2 : State} (ht : Touched s s1) {n : Nat} {sz : Size} {l : Loc}
    (h : locate .ss (s.above n) sz.bytes false s1 = .ok l s2) : peek n sz s1 = .ok (s2.load sz.bits l) s2 :=
  peek_of_locate (by rwa [ht.above])

/-! ## JMP and CALL -/

theorem farTransfer_real {s : State} (hm : s.protectedMode = false) (kind : FarKind) (sel : BitVec 16) (off : BitVec 32) :
    farTransfer kind sel off s = (do farReal kind s.osz sel off; pure Done.normal) s := by
  rw [farTransfer, bind_of_ok (getS_apply s), hm, if_neg Bool.false_ne_true]

section
variable {s u : State} {sel : BitVec 16} {off : BitVec 32} (ht : Touched s u) (hm : s.protectedMode = false) (hc : s.inCode off = true)
include ht hc

theorem farReal_land {kind : FarKind} {sz : Size} {t : State} (hjmp : kind = .jmp → t = u)
    (hcall : kind = .call → pushReturnReal sz u = .ok () t) : farReal kind sz sel off u = .ok () (t.landReal sel off) := by
  have hin : decide (off.toNat ≤ u.seg.cs.limit.toNat) = true := by
    rw [ht.seg]
    exact hc
  rw [farReal, bind_of_ok (getS_apply u), require_bind, if_pos hin]
  cases kind
  case jmp =>
    rw [hjmp rfl]
    rfl
  case call => exact bind_of_ok (hcall rfl)

include hm

theorem farTransfer_jmp_real : farTransfer .jmp sel off u = .ok .normal (u.landReal sel off) := by
  rw [farTransfer_real (ht.protectedMode.trans hm), bind_of_ok (farReal_land (kind := .jmp) ht hc (fun _ => rfl) nofun), pure_apply]

omit hc hm

/-- The return pointer of a CALL, each item at its own place (R467; log entry 21). -/
theorem pushReturnReal_of_locate {sz : Size} {c : BitVec sz.bits} {k : Nat} (hpad : padSel sz s.seg.cs.sel u = .ok c (u.drawn k))
    {l1 l2 : Loc} {t1 t2 : State} (h1 : locate .ss (s.below sz.bytes) sz.bytes true (u.drawn k) = .ok l1 t1)
    (h2 : locate .ss (s.below (2 * sz.bytes)) sz.bytes true ((t1.store l1 c).setStackPtr (s.below sz.bytes)) = .ok l2 t2) :
    pushReturnReal sz u = .ok () ((t2.store l2 (s.eipNext.setWidth sz.bits)).setStackPtr (s.below (2 * sz.bytes))) := by
  have htk : Touched s (u.drawn k) := ht.trans (touched_drawn u k)
  have ht1 : Touched s (t1.store l1 c) := (htk.trans (touched_of_locate h1)).trans (touched_store ..)
  have hok1 : u.segOk .ss (s.below sz.bytes) sz.bytes .write = true := segOk_of_locate h1
  have hok2 : u.segOk .ss (s.below (2 * sz.bytes)) sz.bytes .write = true :=
    (ht.segOk ..).trans ((ht1.segOk ..).symm.trans (segOk_of_locate h2))
  have hb : ((t1.store l1 c).setStackPtr (s.below sz.bytes)).below sz.bytes = s.below (2 * sz.bytes) := by
    rw [below_setStackPtr ht1, ← Nat.two_mul]
  have hsel : pushSel sz s.seg.cs.sel u = .ok () ((t1.store l1 c).setStackPtr (s.below sz.bytes)) := by
    rw [← ht.below] at h1 ⊢
    exact pushSel_of_locate hpad h1
  have heip : push sz (s.eipNext.setWidth sz.bits) ((t1.store l1 c).setStackPtr (s.below sz.bytes)) =
      .ok () ((t2.store l2 (s.eipNext.setWidth sz.bits)).setStackPtr (s.below (2 * sz.bytes))) := by
    rw [← hb] at h2 ⊢
    exact push_of_locate _ h2
  rw [pushReturnReal, bind_of_ok (getS_apply u), require_bind, ht.below, ht.below, hok1, hok2, Bool.true_and, if_pos rfl, pushReturn,
    bind_of_ok (getS_apply u), ht.seg, bind_of_ok hsel, ht.eipNext]
  exact heip

include hc hm

theorem farTransfer_call_real {c : BitVec s.osz.bits} {k : Nat} (hpad : padSel s.osz s.seg.cs.sel u = .ok c (u.drawn k))
    {l1 l2 : Loc} {t1 t2 : State} (h1 : locate .ss (s.below s.osz.bytes) s.osz.bytes true (u.drawn k) = .ok l1 t1)
    (h2 : locate .ss (s.below (2 * s.osz.bytes)) s.osz.bytes true ((t1.store l1 c).setStackPtr (s.below s.osz.bytes)) = .ok l2 t2) :
    farTransfer .call sel off u = .ok .normal
      (((t2.store l2 (s.eipNext.setWidth s.osz.bits)).setStackPtr (s.below (2 * s.osz.bytes))).landReal sel off) := by
  rw [farTransfer_real (ht.protectedMode.trans hm), ht.osz,
    bind_of_ok (farReal_land (kind := .call) ht hc nofun fun _ => pushReturnReal_of_locate ht hpad h1 h2), pure_apply]

end

/-! ## The pointer in memory -/

/-- The pointer is the offset, then the selector, checked as one operand (R464, R465; 21_protection.md R172). -/
theorem readFarPtr_of_locate {s s1 s2 : State} {m : Mem} {sz : Size} {l0 l1 : Loc}
    (hc : s.segOk (s.memSeg m) (memEa s.gpr m) (sz.bytes + 2) .read = true)
    (h0 : locate (s.memSeg m) (memEa s.gpr m) sz.bytes false s = .ok l0 s1)
    (h1 : locate (s.memSeg m) (memEa s.gpr m + BitVec.ofNat 32 sz.bytes) 2 false s1 = .ok l1 s2) :
    readFarPtr sz (.mem m) s = .ok ((s1.load sz.bits l0).setWidth 32, s2.load 16 l1) s2 := by
  have hsel : readPart .w m sz.bytes s1 = .ok (s2.load 16 l1) s2 := readPart_of_locate (touched_of_locate h0) h1
  rw [readFarPtr, bind_of_ok (onlyMem_mem m s), bind_of_ok (checkWhole_passes hc), bind_of_ok (readPart_zero_of_locate h0),
    bind_of_ok hsel, pure_apply]

theorem farIndirect_fails {s : State} {m : Mem} {sz : Size} (kind : FarKind)
    (hc : s.segOk (s.memSeg m) (memEa s.gpr m) (sz.bytes + 2) .read = false) :
    farIndirect kind sz (.mem m) s = .error (segHalt (s.memSeg m)) s := by
  have hread : readFarPtr sz (.mem m) s = .error (segHalt (s.memSeg m)) s := by
    rw [readFarPtr, bind_of_ok (onlyMem_mem m s), bind_of_error (checkWhole_fails hc)]
  exact bind_of_error hread

theorem farIndirect_reg (kind : FarKind) (sz : Size) (e : Reg) (s : State) :
    farIndirect kind sz (.reg e) s = .error (.exc ⟨vUD, .none⟩) s := by
  have hread : readFarPtr sz (.reg e) s = .error (.exc ⟨vUD, .none⟩) s := bind_of_error (onlyMem_reg e s)
  exact bind_of_error hread

theorem farIndirect_of_read {s u : State} {rm : Rm} {sz : Size} {off : BitVec 32} {sel : BitVec 16}
    (h : readFarPtr sz rm s = .ok (off, sel) u) (kind : FarKind) : farIndirect kind sz rm s = farTransfer kind sel off u := by
  rw [farIndirect, bind_of_ok h]

/-! ## RET -/

theorem retFarReal_of_locate {s t0 t1 : State} {sz : Size} {l0 l1 : Loc} (hm : s.protectedMode = false)
    (h0 : locate .ss (s.above 0) sz.bytes false s = .ok l0 t0) (h1 : locate .ss (s.above sz.bytes) sz.bytes false t0 = .ok l1 t1)
    (n : Nat) : retFar sz n s = .ok () ((t1.landReal ((t1.load sz.bits l1).setWidth 16) ((t0.load sz.bits l0).setWidth 32)).setStackPtr
      (s.above (2 * sz.bytes + n))) := by
  have ht0 := touched_of_locate h0
  have ht1 := ht0.trans (touched_of_locate h1)
  rw [retFar, bind_of_ok (getS_apply s), hm, Bool.not_false, if_pos rfl, retFarReal, bind_of_ok (peek_of_locate h0),
    bind_of_ok (peek_of_touched ht0 h1), loadCodeReal, bind_of_ok (modS_apply ..), modS_apply]
  exact congrArg (fun v => EStateM.Result.ok () ((t1.landReal _ _).setStackPtr v)) (ht1.above _)

/-- Settles O33. -/
theorem farTransfersInRealMode : Obligations.FarTransfersInRealMode := by
  refine ⟨fun s hl hm => ⟨fun off sel hc => ?jmp, fun off sel hc => ?call, fun m hbad => ?memFails,
    fun m l0 u0 l1 u hok h0 h1 hc => ⟨?jmpMem, ?callMem⟩, fun b l0 t0 l1 t1 h0 h1 => ?ret⟩, fun s e hl => ?registers⟩
  case jmp => exact runInstr_of_ok (.inl hl) (farTransfer_jmp_real (Touched.refl s) hm hc)
  case call =>
    obtain ⟨c, k, hsel, hpad⟩ := padSel_ok s.osz s.seg.cs.sel s (osz_ne_b s)
    exact ⟨c, k, hsel, fun l1 t1 l2 t2 h1 h2 => runInstr_of_ok (.inl hl) (farTransfer_call_real (Touched.refl s) hm hc hpad h1 h2)⟩
  case memFails =>
    exact ⟨runInstr_of_error (.inl hl) (farIndirect_fails .jmp hbad), runInstr_of_error (.inl hl) (farIndirect_fails .call hbad)⟩
  case jmpMem =>
    have ht := (touched_of_locate h0).trans (touched_of_locate h1)
    exact runInstr_of_ok (.inl hl) ((farIndirect_of_read (readFarPtr_of_locate hok h0 h1) .jmp).trans (farTransfer_jmp_real ht hm hc))
  case callMem =>
    have ht := (touched_of_locate h0).trans (touched_of_locate h1)
    obtain ⟨c, k, hsel, hpad⟩ := padSel_ok s.osz s.seg.cs.sel u (osz_ne_b s)
    exact ⟨c, k, hsel, fun l1 t1 l2 t2 g1 g2 => runInstr_of_ok (.inl hl)
      ((farIndirect_of_read (readFarPtr_of_locate hok h0 h1) .call).trans (farTransfer_call_real ht hm hc hpad g1 g2))⟩
  case ret =>
    have hret := retFarReal_of_locate hm h0 h1
    exact ⟨run_of_ok hl (hret 0), run_of_ok hl (hret b.toNat)⟩
  case registers => exact ⟨runInstr_of_error (.inl hl) (farIndirect_reg ..), runInstr_of_error (.inl hl) (farIndirect_reg ..)⟩

end Sys2Proof.Machine
end

section
/-! Far JMP and CALL in protected mode to a code segment (47_segment_far_transfer.md R460, R461, R464, R465). -/
namespace Sys2Proof.Machine

/-! ## A new CS -/

/-- The machine after a transfer to a code segment at level `cpl`, which is the level it runs at (R461, R462). -/
def State.landCode (t : State) (d : Desc) (sel : BitVec 16) (cpl : BitVec 2) (off : BitVec 32) : State :=
  { t.loadedDesc d with seg := t.seg.set .cs (d.toSeg (withRpl sel cpl)), a31High := false }.jump off

theorem cpl_loadedDesc (t : State) (d : Desc) : (t.loadedDesc d).cpl = t.cpl := (touched_loadedDesc t d).cpl

/-- CS is loaded at the level the machine runs at. -/
theorem loadCode_sameLevel {t : State} (hp : t.plain = true) (d : Desc) (sel : BitVec 16) : loadCode d sel t.cpl t =
    .ok () { t.loadedDesc d with seg := t.seg.set .cs (d.toSeg (withRpl sel t.cpl)), a31High := false } := by
  rw [loadCode_plain hp, ← cpl_loadedDesc t d]

/-! ## The return pointer -/

/-- The return pointer of a CALL, on a stack that holds it as one block (R461; log entry 18). -/
theorem pushReturnRoom_plain {s : State} (hp : s.plain = true) {sz : Size} (hsz : sz ≠ .b)
    (h : s.segOk .ss (s.below (2 * sz.bytes)) (2 * sz.bytes) .write = true) :
    ∃ (c : BitVec sz.bits) (k : Nat), c.setWidth 16 = s.seg.cs.sel ∧ padSel sz s.seg.cs.sel s = .ok c (s.drawn k) ∧
      pushReturnRoom sz s = .ok () ((((s.drawn k).store (s.slot sz.bytes 1) c).store (s.slot sz.bytes 2)
        (s.eipNext.setWidth sz.bits)).setStackPtr (s.below (2 * sz.bytes))) := by
  obtain ⟨c, k, hc, hpad⟩ := padSel_ok sz s.seg.cs.sel s hsz
  refine ⟨c, k, hc, hpad, ?_⟩
  have hn := bytes_le_four sz
  have h0 := bytes_pos sz
  have h1 : s.segOk .ss (s.below sz.bytes) sz.bytes .write = true := segOk_below_of_block (by omega) h0 (Nat.le_refl _) (by omega) h
  have h2 : s.segOk .ss (s.below (2 * sz.bytes)) sz.bytes .write = true :=
    segOk_below_of_block (by omega) (by omega) (by omega) (Nat.le_refl _) h
  have hslot : s.slot sz.bytes 1 = s.bytesAt .ss (s.below sz.bytes) sz.bytes := by rw [State.slot, Nat.one_mul]
  have hsel : pushSel sz s.seg.cs.sel s = .ok () (((s.drawn k).store (s.slot sz.bytes 1) c).setStackPtr (s.below sz.bytes)) := by
    rw [hslot]
    exact pushSel_of_locate hpad (locate_plain (s := s.drawn k) hp h1)
  have heip := push_below (k := 1) ((touched_drawn s k).trans (touched_store _ (s.slot sz.bytes 1) c)) hp h2 (s.eipNext.setWidth sz.bits)
  rw [Nat.one_mul] at heip
  have hroom : s.room (2 * sz.bytes) = true := (segOk_eq_true.1 h).2
  rw [pushReturnRoom, bind_of_ok (getS_apply s), require_bind, if_pos hroom, pushReturn, bind_of_ok (getS_apply s), bind_of_ok hsel]
  exact heip

theorem pushReturnRoom_noRoom {s : State} {sz : Size} (h : s.room (2 * sz.bytes) = false) :
    pushReturnRoom sz s = .error (.exc ⟨vSS, zeroCode false⟩) s := by
  rw [pushReturnRoom, bind_of_ok (getS_apply s), require_bind, h, if_neg Bool.false_ne_true]

/-! ## To a segment of the same level -/

section
variable {s : State} {kind : FarKind} {sz : Size} {d : Desc} {sel : BitVec 16} {off : BitVec 32}

theorem farSame_outside (h : d.limit.toNat < off.toNat) : farSame kind sz d sel off s = .error (.exc ⟨vGP, zeroCode false⟩) s := by
  rw [farSame, bind_of_ok (getS_apply s), require_bind, if_neg (by simpa using h)]

theorem farSame_noRoom (hin : off.toNat ≤ d.limit.toNat) (h : s.room (2 * sz.bytes) = false) :
    farSame .call sz d sel off s = .error (.exc ⟨vSS, zeroCode false⟩) s := by
  rw [farSame, bind_of_ok (getS_apply s), require_bind, if_pos (decide_eq_true hin)]
  exact bind_of_error (pushReturnRoom_noRoom h)

/-- What both transfers do once the return pointer is pushed. -/
theorem land_plain {t : State} (hp : t.plain = true) (d : Desc) (sel : BitVec 16) (off : BitVec 32) :
    (do loadCode d sel t.cpl; modS fun s => s.jump off : M Unit) t = .ok () (t.landCode d sel t.cpl off) := by
  rw [bind_of_ok (loadCode_sameLevel hp ..), modS_apply]
  rfl

theorem farSame_jmp (hp : s.plain = true) (hin : off.toNat ≤ d.limit.toNat) :
    farSame .jmp sz d sel off s = .ok () (s.landCode d sel s.cpl off) := by
  rw [farSame, bind_of_ok (getS_apply s), require_bind, if_pos (decide_eq_true hin)]
  exact land_plain hp ..

theorem farSame_call (hp : s.plain = true) (hsz : sz ≠ .b) (hin : off.toNat ≤ d.limit.toNat)
    (h : s.segOk .ss (s.below (2 * sz.bytes)) (2 * sz.bytes) .write = true) :
    ∃ (c : BitVec sz.bits) (k : Nat), c.setWidth 16 = s.seg.cs.sel ∧ padSel sz s.seg.cs.sel s = .ok c (s.drawn k) ∧
      farSame .call sz d sel off s = .ok () (State.landCode ((((s.drawn k).store (s.slot sz.bytes 1) c).store (s.slot sz.bytes 2)
        (s.eipNext.setWidth sz.bits)).setStackPtr (s.below (2 * sz.bytes))) d sel s.cpl off) := by
  obtain ⟨c, k, hc, hpad, hpush⟩ := pushReturnRoom_plain hp hsz h
  refine ⟨c, k, hc, hpad, ?_⟩
  rw [farSame, bind_of_ok (getS_apply s), require_bind, if_pos (decide_eq_true hin)]
  exact (bind_of_ok hpush).trans (land_plain (t := (((s.drawn k).store (s.slot sz.bytes 1) c).store (s.slot sz.bytes 2)
    (s.eipNext.setWidth sz.bits)).setStackPtr (s.below (2 * sz.bytes))) hp d sel off)

end

/-! ## The dispatch on the descriptor -/

/-- The privilege a code segment asks of a JMP or CALL (R461). -/
def State.mayEnter (s : State) (d : Desc) (sel : BitVec 16) : Prop :=
  if d.isConforming then d.dpl.toNat ≤ s.cpl.toNat else d.dpl = s.cpl ∧ (rplOf sel).toNat ≤ s.cpl.toNat

theorem mayEnter_iff (s : State) (d : Desc) (sel : BitVec 16) : s.mayEnter d sel ↔
    (if d.isConforming then decide (d.dpl.toNat ≤ s.cpl.toNat) else decide ((rplOf sel).toNat ≤ s.cpl.toNat) && d.dpl == s.cpl) = true := by
  rw [State.mayEnter]
  split
  · exact decide_eq_true_iff.symm
  · rw [Bool.and_eq_true, decide_eq_true_iff, beq_iff_eq, and_comm]

section
variable {s : State} {kind : FarKind} {d : Desc} {sel : BitVec 16} {off la : BitVec 32}

theorem farTransfer_protected (hm : s.protectedMode = true) (kind : FarKind) (sel : BitVec 16) (off : BitVec 32) :
    farTransfer kind sel off s = farProtected kind sel off s := by
  rw [farTransfer, bind_of_ok (getS_apply s), if_pos hm]

theorem farProtected_null (hn : nullSel sel = true) : farProtected kind sel off s = .error (.exc ⟨vGP, zeroCode false⟩) s := by
  rw [farProtected, require_bind, hn, Bool.not_true, if_neg Bool.false_ne_true]

theorem farProtected_outside (hn : nullSel sel = false) (he : s.entryAddr sel = none) :
    farProtected kind sel off s = .error (.exc ⟨vGP, selCode sel false⟩) s := by
  rw [farProtected, require_bind, hn, Bool.not_false, if_pos rfl, bind_of_error (fetchDescOr_outside he ..)]

variable (hp : s.plain = true) (hn : nullSel sel = false) (he : s.entryAddr sel = some la)
include hp hn he

theorem farProtected_code (hc : (s.descAt la).isCode = true) : farProtected kind sel off s =
    (do farCode kind (s.descAt la) sel off; pure Done.normal) s := by
  rw [farProtected, require_bind, hn, Bool.not_false, if_pos rfl, bind_of_ok (fetchDescOr_plain hp he ..), if_pos hc]

theorem farProtected_noCode (hc : (s.descAt la).isCode = false) : farProtected kind sel off s =
    (let d := s.descAt la
      if d.isSystem 0xC#4 then do farGate kind d sel; pure Done.normal
      else if d.isSystem 5#4 then do viaTaskGate kind.cause sel d; pure Done.keepRF
      else if d.isSystem 9#4 || d.isSystem 0xB#4 then do viaTss kind.cause sel d; pure Done.keepRF
      else if d.isSystem 1#4 || d.isSystem 3#4 || d.isSystem 4#4 then halt (.refuse .format286)
      else raise vGP (selCode sel false)) s := by
  rw [farProtected, require_bind, hn, Bool.not_false, if_pos rfl, bind_of_ok (fetchDescOr_plain hp he ..), hc, if_neg Bool.false_ne_true]

/-- A descriptor no transfer may name (R460). -/
theorem farProtected_refuses (hc : (s.descAt la).isCode = false)
    (h : ∀ k ∈ [0xC#4, 5#4, 9#4, 0xB#4, 1#4, 3#4, 4#4], (s.descAt la).isSystem k = false) :
    farProtected kind sel off s = .error (.exc ⟨vGP, selCode sel false⟩) s := by
  rw [farProtected_noCode hp hn he hc]
  simp only [List.forall_mem_cons] at h
  simp [h]

/-- A code segment of another privilege (R461). -/
theorem farProtected_notAllowed (hc : (s.descAt la).isCode = true) (h : ¬ s.mayEnter (s.descAt la) sel) :
    farProtected kind sel off s = .error (.exc ⟨vGP, selCode sel false⟩) s := by
  have hcode : farCode kind (s.descAt la) sel off s = .error (.exc ⟨vGP, selCode sel false⟩) s := by
    rw [farCode, bind_of_ok (getS_apply s), require_bind, if_neg (mt (mayEnter_iff ..).2 h)]
  rw [farProtected_code hp hn he hc, bind_of_error hcode]

theorem farProtected_absent (hc : (s.descAt la).isCode = true) (h : s.mayEnter (s.descAt la) sel) (habs : (s.descAt la).p = false) :
    farProtected kind sel off s = .error (.exc ⟨vNP, selCode sel false⟩) s := by
  have hcode : farCode kind (s.descAt la) sel off s = .error (.exc ⟨vNP, selCode sel false⟩) s := by
    rw [farCode, bind_of_ok (getS_apply s), require_bind, if_pos ((mayEnter_iff ..).1 h), require_bind, habs, if_neg Bool.false_ne_true]
  rw [farProtected_code hp hn he hc, bind_of_error hcode]

/-- A present code segment of a privilege that allows it is entered at the present level (R461). -/
theorem farProtected_same (hc : (s.descAt la).isCode = true) (h : s.mayEnter (s.descAt la) sel) (hpr : (s.descAt la).p = true) :
    farProtected kind sel off s = (do farSame kind s.osz (s.descAt la) sel off; pure Done.normal) s := by
  have hcode : farCode kind (s.descAt la) sel off s = farSame kind s.osz (s.descAt la) sel off s := by
    rw [farCode, bind_of_ok (getS_apply s), require_bind, if_pos ((mayEnter_iff ..).1 h), require_bind, if_pos hpr]
  rw [farProtected_code hp hn he hc, bind_apply, bind_apply, hcode]

end

/-! ## The pointer in memory, in a plain state -/

/-- A part of an operand that passes its segment checks passes them too (21_protection.md R172). -/
theorem segOk_part {s : State} {r : SReg} {off : BitVec 32} {size m n : Nat} {k : AccessKind} (h : s.segOk r off size k = true)
    (h0 : 0 < n) (hm : m + n ≤ size) : s.segOk r (off + BitVec.ofNat 32 m) n k = true := by
  obtain ⟨ht, hl⟩ := segOk_eq_true.1 h
  refine segOk_eq_true.2 ⟨ht, SegReg.inLimit_of_part ?_ ?_ hl⟩ <;> rw [BitVec.toNat_add, BitVec.toNat_ofNat]
  · have := Nat.mod_le (off.toNat + m % 2 ^ 32) (2 ^ 32)
    have := Nat.mod_le m (2 ^ 32)
    omega
  · rcases (s.seg.get r).span_cases with hs | hs <;> rw [hs] <;> omega

theorem readFarPtr_plain {s : State} (hp : s.plain = true) {m : Mem} {sz : Size}
    (h : s.segOk (s.memSeg m) (memEa s.gpr m) (sz.bytes + 2) .read = true) : readFarPtr sz (.mem m) s =
    .ok ((s.load sz.bits (s.bytesAt (s.memSeg m) (memEa s.gpr m) sz.bytes)).setWidth 32,
        s.load 16 (s.bytesAt (s.memSeg m) (memEa s.gpr m + BitVec.ofNat 32 sz.bytes) 2)) s := by
  have hoff : s.segOk (s.memSeg m) (memEa s.gpr m) sz.bytes .read = true := by
    rw [← BitVec.add_zero (memEa s.gpr m)]
    exact segOk_part h (bytes_pos sz) (m := 0) (by omega)
  exact readFarPtr_of_locate h (locate_plain hp hoff) (locate_plain hp (segOk_part h (by decide) (Nat.le_refl _)))

end Sys2Proof.Machine
end

section
/-! Far RET in protected mode, and the parts of IRET it shares (47_segment_far_transfer.md R466, R468). -/
namespace Sys2Proof.Machine

/-! ## What is on the stack -/

/-- An item of a size above the stack pointer, in a plain state. -/
def State.itemAt (s : State) (sz : Size) (m : Nat) : BitVec sz.bits := s.load sz.bits (s.bytesAt .ss (s.above m) sz.bytes)

/-- A word is the lower part of an item of any operand size. -/
theorem two_le_bytes {sz : Size} (h : sz ≠ .b) : 2 ≤ sz.bytes := by
  cases sz with
  | b => exact absurd rfl h
  | w | d => decide

/-- In a block from the stack pointer up that passes its checks every part passes them. -/
theorem segOk_above {s : State} {size m n : Nat} {k : AccessKind} (h : s.segOk .ss s.stackPtr size k = true) (h0 : 0 < n)
    (hm : m + n ≤ size) : s.segOk .ss (s.above m) n k = true := by
  obtain ⟨ht, hl⟩ := segOk_eq_true.1 h
  have hsp := stackPtr_lt s
  refine segOk_eq_true.2 ⟨ht, SegReg.inLimit_of_part ?_ ?_ hl⟩ <;> rw [toNat_above]
  · have := Nat.mod_le (s.stackPtr.toNat + m) s.seg.ss.span
    omega
  · intro hspan
    change _ ≤ s.seg.ss.span at hspan
    rw [Nat.mod_eq_of_lt (by omega)]
    omega

theorem peek_of_block {s : State} (hp : s.plain = true) {size m : Nat} {sz : Size} (h : s.segOk .ss s.stackPtr size .read = true)
    (hm : m + sz.bytes ≤ size) : peek m sz s = .ok (s.itemAt sz m) s := peek_plain hp (segOk_above h (bytes_pos sz) hm)

/-- A stack that does not hold a frame is #SS(0), whether its limit or its type is what fails (R468). -/
theorem frame_fails {α : Type} {s : State} {size : Nat} (h : s.segOk .ss s.stackPtr size .read = false) {m : Nat} {sz : Size}
    (f : BitVec sz.bits → M α) : (do require (s.stackHas size) vSS (zeroCode false); let v ← peek m sz; f v : M α) s =
      .error (.exc ⟨vSS, zeroCode false⟩) s := by
  rw [require_bind]
  cases hlim : s.stackHas size
  case false => rfl
  case true =>
    have htype : s.typeOk .ss .read = false := by
      rw [State.segOk] at h
      exact (Bool.and_eq_false_iff.1 h).resolve_right fun hf => Bool.false_ne_true (hf.symm.trans hlim)
    have hpeek : peek m sz s = .error (.exc ⟨vSS, zeroCode false⟩) s := by
      rw [peek, bind_of_ok (getS_apply s), lread, bind_of_error (locate_bad (by
        rw [State.segOk, if_neg Bool.false_ne_true, htype]
        rfl))]
      rfl
    rw [if_pos rfl, bind_of_error hpeek]

/-! ## The popped selectors -/

section
variable {s : State} {sel : BitVec 16} {la : BitVec 32}

/-- The privilege and type a popped CS needs (R468). -/
def Desc.suitsReturn (d : Desc) (sel : BitVec 16) : Prop :=
  d.isCode = true ∧ if d.isConforming then d.dpl.toNat ≤ (rplOf sel).toNat else d.dpl = rplOf sel

theorem checkReturnCs_refuses (h : (rplOf sel).toNat < s.cpl.toNat ∨ nullSel sel = true ∨ s.entryAddr sel = none) :
    checkReturnCs sel s = .error (.exc ⟨vGP, selCode sel false⟩) s := by
  rw [checkReturnCs, bind_of_ok (getS_apply s), require_bind]
  by_cases hlev : s.cpl.toNat ≤ (rplOf sel).toNat
  case neg => rw [if_neg (by simpa using hlev)]
  case pos =>
    rw [if_pos (decide_eq_true hlev), require_bind]
    cases hn : nullSel sel
    case true => rfl
    case false =>
      rw [Bool.not_false, if_pos rfl]
      refine bind_of_error (fetchDescOr_outside ?_ ..)
      exact (h.resolve_left (Nat.not_lt.2 hlev)).resolve_left (by rw [hn]; exact Bool.false_ne_true)

variable (hp : s.plain = true) (hn : nullSel sel = false) (he : s.entryAddr sel = some la)
include hp hn he

theorem checkReturnCs_unsuited (h : ¬ (s.descAt la).suitsReturn sel) :
    checkReturnCs sel s = .error (.exc ⟨vGP, selCode sel false⟩) s := by
  by_cases hlev : s.cpl.toNat ≤ (rplOf sel).toNat
  case neg => exact checkReturnCs_refuses (.inl (Nat.not_le.1 hlev))
  case pos =>
    rw [checkReturnCs, bind_of_ok (getS_apply s), require_bind, if_pos (decide_eq_true hlev), require_bind, hn, Bool.not_false,
      if_pos rfl, bind_of_ok (fetchDescOr_plain hp he ..), require_bind]
    split
    case isFalse => rfl
    case isTrue hc =>
      rw [require_bind, if_neg]
      intro hl
      refine h ⟨hc, ?_⟩
      split at hl
      case isTrue hconf =>
        rw [if_pos hconf]
        exact of_decide_eq_true hl
      case isFalse hconf =>
        rw [if_neg hconf]
        exact beq_iff_eq.1 hl

theorem checkReturnCs_suited (hlev : s.cpl.toNat ≤ (rplOf sel).toNat) (h : (s.descAt la).suitsReturn sel) : checkReturnCs sel s =
    if (s.descAt la).p then .ok (s.descAt la) s else .error (.exc ⟨vNP, selCode sel false⟩) s := by
  obtain ⟨hc, hl⟩ := h
  have hl' : (if (s.descAt la).isConforming then decide ((s.descAt la).dpl.toNat ≤ (rplOf sel).toNat)
      else (s.descAt la).dpl == rplOf sel) = true := by
    split
    case isTrue hconf =>
      rw [if_pos hconf] at hl
      exact decide_eq_true hl
    case isFalse hconf =>
      rw [if_neg hconf] at hl
      exact beq_iff_eq.2 hl
  rw [checkReturnCs, bind_of_ok (getS_apply s), require_bind, if_pos (decide_eq_true hlev), require_bind, hn, Bool.not_false,
    if_pos rfl, bind_of_ok (fetchDescOr_plain hp he ..), require_bind, if_pos hc, require_bind, if_pos hl', require_bind]
  rfl

omit hp hn he

theorem checkReturnSs_refuses {rpl : BitVec 2} (h : nullSel sel = true ∨ s.entryAddr sel = none) :
    checkReturnSs sel rpl s = .error (.exc ⟨vGP, selCode sel false⟩) s := by
  rw [checkReturnSs, require_bind]
  cases hn : nullSel sel
  case true => rfl
  case false =>
    rw [Bool.not_false, if_pos rfl]
    exact bind_of_error (fetchDescOr_outside (h.resolve_left (by rw [hn]; exact Bool.false_ne_true)) ..)

/-- The privilege and type a popped SS needs (R466). -/
def Desc.fitsReturn (d : Desc) (sel : BitVec 16) (rpl : BitVec 2) : Prop :=
  d.isWritableData = true ∧ rplOf sel = rpl ∧ d.dpl = rpl

include hp hn he

theorem checkReturnSs_unfit {rpl : BitVec 2} (h : ¬ (s.descAt la).fitsReturn sel rpl) :
    checkReturnSs sel rpl s = .error (.exc ⟨vGP, selCode sel false⟩) s := by
  rw [checkReturnSs, require_bind, hn, Bool.not_false, if_pos rfl, bind_of_ok (fetchDescOr_plain hp he ..)]
  simp only [require_bind, beq_iff_eq]
  split
  case isFalse => rfl
  case isTrue hw =>
    split
    case isFalse => rfl
    case isTrue hr =>
      rw [if_neg fun hd => h ⟨hw, hr, hd⟩]

theorem checkReturnSs_fit {rpl : BitVec 2} (h : (s.descAt la).fitsReturn sel rpl) : checkReturnSs sel rpl s =
    if (s.descAt la).p then .ok (s.descAt la) s else .error (.exc ⟨vSS, selCode sel false⟩) s := by
  obtain ⟨hw, hr, hd⟩ := h
  rw [checkReturnSs, require_bind, hn, Bool.not_false, if_pos rfl, bind_of_ok (fetchDescOr_plain hp he ..), require_bind, if_pos hw,
    require_bind, if_pos (beq_iff_eq.2 hr), require_bind, if_pos (beq_iff_eq.2 hd), require_bind]
  rfl

end

/-! ## The end of a return -/

theorem withRpl_rplOf (sel : BitVec 16) : withRpl sel (rplOf sel) = sel := by
  apply BitVec.eq_of_getLsbD_eq
  intro i hi
  rw [withRpl, rplOf, BitVec.getLsbD_append]
  by_cases h : i < 2
  · simp [h]
  · simp [h, show i - 2 < 14 by omega, show 2 + (i - 2) = i by omega]

/-- A data-segment register after a return outward to level `c`: null where it names a more privileged segment that is no conforming
code, its hidden part kept (R466; log entry 34). -/
def SegReg.afterReturn (g : SegReg) (c : BitVec 2) : SegReg :=
  if g.valid = true ∧ g.s = true ∧ (g.typ.getLsbD 3 && g.typ.getLsbD 2) = false ∧ g.dpl.toNat < c.toNat
  then { g with sel := 0#16, valid := false } else g

theorem scrub_eq (g : SegReg) (c : BitVec 2) : g.scrub c = g.afterReturn c := by
  refine if_congr ?_ rfl rfl
  simp only [SegReg.executable, SegReg.bit2, Bool.and_eq_true, Bool.not_eq_true', decide_eq_true_iff, and_assoc]

/-- The machine after a return to an outer level (R466). -/
def State.returnedOuter (s : State) (sz : Size) (d sd : Desc) (cs ss : BitVec 16) (esp : BitVec sz.bits) (eip : BitVec 32) : State :=
  ({ (s.loadedDesc d).loadedDesc sd with
    cpl := rplOf cs, a31High := false,
    seg := ⟨s.seg.es.afterReturn (rplOf cs), d.toSeg cs, sd.toSeg ss, s.seg.ds.afterReturn (rplOf cs), s.seg.fs.afterReturn (rplOf cs),
      s.seg.gs.afterReturn (rplOf cs)⟩ }.setReg sz .sp esp).jump eip

theorem loadedDesc_code (t : State) (d : Desc) (x : Segs) (c : BitVec 2) :
    State.loadedDesc { t with seg := x, cpl := c, a31High := false } d = { t.loadedDesc d with seg := x, cpl := c, a31High := false } := by
  rw [State.loadedDesc, State.loadedDesc]
  split <;> rfl

section
variable {s : State} {d sd : Desc} {sel ss : BitVec 16} {eip : BitVec 32} {sz : Size} {n skip release : Nat}

theorem returnSame_outside (h : d.limit.toNat < eip.toNat) : returnSame d sel eip n s = .error (.exc ⟨vGP, zeroCode false⟩) s := by
  rw [returnSame, bind_of_ok (getS_apply s), require_bind, if_neg (by simpa using h)]

variable (hp : s.plain = true)
include hp

theorem returnSame_plain (hin : eip.toNat ≤ d.limit.toNat) :
    returnSame d sel eip n s = .ok () ((s.landCode d sel s.cpl eip).setStackPtr (s.above n)) := by
  have habove : (s.landCode d sel s.cpl eip).above n = s.above n :=
    congrArg (fun g : Gpr => wrapOff s.ssz32 (wrapOff s.ssz32 g.esp + BitVec.ofNat 32 n)) (touched_loadedDesc s d).gpr
  rw [returnSame, bind_of_ok (getS_apply s), require_bind, if_pos (decide_eq_true hin), bind_of_ok (loadCode_sameLevel hp ..), modS_apply]
  exact congrArg (fun v => EStateM.Result.ok () ((s.landCode d sel s.cpl eip).setStackPtr v)) habove

omit hp in
theorem returnOuter_noRoom (h : s.segOk .ss s.stackPtr (skip + 2 * sz.bytes) .read = false) :
    returnOuter sz d sel eip skip release s = .error (.exc ⟨vSS, zeroCode false⟩) s := by
  rw [returnOuter, bind_of_ok (getS_apply s)]
  exact frame_fails h _

variable (hsz : sz ≠ .b) (hroom : s.segOk .ss s.stackPtr (skip + 2 * sz.bytes) .read = true) (hss : s.itemAt .w (skip + sz.bytes) = ss)
include hsz hroom hss

/-- On a stack that holds its frame a return outward reads the new stack pointer and goes by the checks of its selector. -/
theorem returnOuter_of_block : returnOuter sz d sel eip skip release s = (do
      let sd ← checkReturnSs ss (rplOf sel)
      require (decide (eip.toNat ≤ d.limit.toNat)) vGP (zeroCode false)
      loadCode d sel (rplOf sel)
      setAccessed sd
      putSeg .ss (sd.toSeg ss)
      modS fun t => State.jump { t with gpr := t.gpr.write sz .sp (s.itemAt sz skip + BitVec.ofNat sz.bits release),
                                        seg := t.seg.scrub (rplOf sel) } eip : M Unit) s := by
  have hn := two_le_bytes hsz
  have hsel : peek (skip + sz.bytes) .w s = .ok ss s := by
    rw [← hss]
    exact peek_of_block hp hroom (by rw [show Size.w.bytes = 2 from rfl]; omega)
  have hhas : s.stackHas (skip + 2 * sz.bytes) = true := (segOk_eq_true.1 hroom).2
  rw [returnOuter, bind_of_ok (getS_apply s), require_bind, if_pos hhas, bind_of_ok (peek_of_block hp hroom (by omega)), bind_of_ok hsel]

theorem returnOuter_badSs {e : Halt} (h : checkReturnSs ss (rplOf sel) s = .error e s) :
    returnOuter sz d sel eip skip release s = .error e s := by
  rw [returnOuter_of_block hp hsz hroom hss, bind_of_error h]

theorem returnOuter_outside (h : checkReturnSs ss (rplOf sel) s = .ok sd s) (hin : d.limit.toNat < eip.toNat) :
    returnOuter sz d sel eip skip release s = .error (.exc ⟨vGP, zeroCode false⟩) s := by
  rw [returnOuter_of_block hp hsz hroom hss, bind_of_ok h, require_bind, if_neg (by simpa using hin)]

theorem returnOuter_plain (h : checkReturnSs ss (rplOf sel) s = .ok sd s) (hin : eip.toNat ≤ d.limit.toNat) :
    returnOuter sz d sel eip skip release s =
      .ok () (s.returnedOuter sz d sd sel ss (s.itemAt sz skip + BitVec.ofNat sz.bits release) eip) := by
  have hpc : State.plain { s.loadedDesc d with
      seg := s.seg.set .cs (d.toSeg (withRpl sel (rplOf sel))), cpl := rplOf sel, a31High := false } = true := (plain_loadedDesc s d).trans hp
  rw [returnOuter_of_block hp hsz hroom hss, bind_of_ok h, require_bind, if_pos (decide_eq_true hin), bind_of_ok (loadCode_plain hp ..),
    ← bind_assoc, bind_of_ok (setAccessed_putSeg hpc ..), loadedDesc_code, modS_apply, withRpl_rplOf, State.returnedOuter,
    ← scrub_eq, ← scrub_eq, ← scrub_eq, ← scrub_eq]
  rfl

end

/-! ## RET -/

section
variable {s : State} {sz : Size} {b : Nat}

theorem retFar_noFrame (hm : s.protectedMode = true) (h : s.segOk .ss s.stackPtr (2 * sz.bytes) .read = false) :
    retFar sz b s = .error (.exc ⟨vSS, zeroCode false⟩) s := by
  rw [retFar, bind_of_ok (getS_apply s), hm, Bool.not_true, if_neg Bool.false_ne_true]
  exact frame_fails h _

/-- On a stack that holds EIP and CS a return goes by the checks of the popped CS and by its RPL (R466, R468). -/
theorem retFar_of_frame (hm : s.protectedMode = true) (hp : s.plain = true) (hsz : sz ≠ .b)
    (h : s.segOk .ss s.stackPtr (2 * sz.bytes) .read = true) {sel : BitVec 16} (hsel : s.itemAt .w sz.bytes = sel) : retFar sz b s = (do
      let d ← checkReturnCs sel
      if rplOf sel = s.cpl then returnSame d sel ((s.itemAt sz 0).setWidth 32) (2 * sz.bytes + b)
      else returnOuter sz d sel ((s.itemAt sz 0).setWidth 32) (2 * sz.bytes + b) b : M Unit) s := by
  have hn := two_le_bytes hsz
  have hcs : peek sz.bytes .w s = .ok sel s := by
    rw [← hsel]
    exact peek_of_block hp h (by rw [show Size.w.bytes = 2 from rfl]; omega)
  have hhas : s.stackHas (2 * sz.bytes) = true := (segOk_eq_true.1 h).2
  rw [retFar, bind_of_ok (getS_apply s), hm, Bool.not_true, if_neg Bool.false_ne_true, require_bind, if_pos hhas,
    bind_of_ok (peek_of_block hp h (by omega)), bind_of_ok hcs]

end

end Sys2Proof.Machine
end

section
/-! Far JMP, CALL and RET in protected mode, instruction by instruction (47_segment_far_transfer.md R460 to R468). -/
namespace Sys2Proof.Machine

/-! ## JMP and CALL -/

section
variable {s : State} {kind : FarKind} {sel : BitVec 16} {off : BitVec 32} (hm : s.protectedMode = true) (hl : s.pfx.lock = false)
include hm hl

theorem run_far_of_error {v : BitVec 8} {e : ErrCode} (h : farProtected kind sel off s = .error (.exc ⟨v, e⟩) s) :
    runInstr false (farTransfer kind sel off) s = s.takes s v e :=
  runInstr_of_error (.inl hl) ((farTransfer_protected hm ..).trans h)

theorem run_far_of_ok {d : Done} {t : State} (h : farProtected kind sel off s = .ok d t) :
    runInstr false (farTransfer kind sel off) s = .next (t.finished d) :=
  runInstr_of_ok (.inl hl) ((farTransfer_protected hm ..).trans h)

/-- Both transfers refuse alike. -/
theorem both_far_of_error {v : BitVec 8} {e : ErrCode} (h : ∀ kind, farProtected kind sel off s = .error (.exc ⟨v, e⟩) s) :
    exec (.jmpFarAp off sel) s = s.takes s v e ∧ exec (.callFarAp off sel) s = s.takes s v e :=
  ⟨run_far_of_error hm hl (h .jmp), run_far_of_error hm hl (h .call)⟩

end

/-- The system types that no transfer may name (R460). -/
theorem isSystem_of_refused {d : Desc} (h : d.typ ∈ [0x0#4, 0x2#4, 0x6#4, 0x7#4, 0x8#4, 0xA#4, 0xD#4, 0xE#4, 0xF#4]) :
    ∀ k ∈ [0xC#4, 5#4, 9#4, 0xB#4, 1#4, 3#4, 4#4], d.isSystem k = false := by
  have hno : ∀ t ∈ [0x0#4, 0x2#4, 0x6#4, 0x7#4, 0x8#4, 0xA#4, 0xD#4, 0xE#4, 0xF#4],
      ∀ k ∈ [0xC#4, 5#4, 9#4, 0xB#4, 1#4, 3#4, 4#4], (t == k) = false := by decide
  intro k hk
  rw [Desc.isSystem, hno _ h k hk, Bool.and_false]

theorem isSystem_of_segment {d : Desc} (h : d.s = true) (k : BitVec 4) : d.isSystem k = false := by
  rw [Desc.isSystem, h]
  rfl

section
variable {s : State} {sel : BitVec 16} {off la : BitVec 32} (hm : s.protectedMode = true) (hp : s.plain = true) (hl : s.pfx.lock = false)
  (hn : nullSel sel = false) (he : s.entryAddr sel = some la) (hc : (s.descAt la).isCode = true) (hmay : s.mayEnter (s.descAt la) sel)
include hm hp hl hn he hc hmay

/-- JMP to a code segment it may enter (R461). -/
theorem exec_jmpFar_code : exec (.jmpFarAp off sel) s =
    if (s.descAt la).p = false then s.takes s 11#8 (selCode sel false)
    else if (s.descAt la).limit.toNat < off.toNat then s.takes s 13#8 (.sel 0#16)
    else .next ((s.landCode (s.descAt la) sel s.cpl off).finished .normal) := by
  split
  case isTrue habs => exact run_far_of_error hm hl (farProtected_absent hp hn he hc hmay habs)
  case isFalse hpr =>
    have hsame := farProtected_same (kind := .jmp) (off := off) hp hn he hc hmay (by simpa using hpr)
    split
    case isTrue hout => exact run_far_of_error hm hl (hsame.trans (bind_of_error (farSame_outside hout)))
    case isFalse hin => exact run_far_of_ok hm hl (hsame.trans (bind_of_ok (farSame_jmp hp (Nat.not_lt.1 hin))))

variable (hpr : (s.descAt la).p = true)
include hpr

theorem exec_callFar_outside (hout : (s.descAt la).limit.toNat < off.toNat) : exec (.callFarAp off sel) s = s.takes s 13#8 (.sel 0#16) :=
  run_far_of_error hm hl ((farProtected_same hp hn he hc hmay hpr).trans (bind_of_error (farSame_outside hout)))

theorem exec_callFar_noRoom (hin : off.toNat ≤ (s.descAt la).limit.toNat) (hroom : s.room (2 * s.osz.bytes) = false) :
    exec (.callFarAp off sel) s = s.takes s 12#8 (.sel 0#16) :=
  run_far_of_error hm hl ((farProtected_same hp hn he hc hmay hpr).trans (bind_of_error (farSame_noRoom hin hroom)))

/-- CALL to a code segment it may enter, on a stack with room (R461). -/
theorem exec_callFar_code (hin : off.toNat ≤ (s.descAt la).limit.toNat)
    (hroom : s.segOk .ss (s.below (2 * s.osz.bytes)) (2 * s.osz.bytes) .write = true) :
    ∃ (c : BitVec s.osz.bits) (k : Nat), c.setWidth 16 = s.seg.cs.sel ∧ exec (.callFarAp off sel) s =
      .next ((State.landCode ((((s.drawn k).store (s.slot s.osz.bytes 1) c).store (s.slot s.osz.bytes 2)
        (s.eipNext.setWidth s.osz.bits)).setStackPtr (s.below (2 * s.osz.bytes))) (s.descAt la) sel s.cpl off).finished .normal) := by
  obtain ⟨c, k, hsel, -, hcall⟩ := farSame_call (d := s.descAt la) (sel := sel) hp (osz_ne_b s) hin hroom
  exact ⟨c, k, hsel, run_far_of_ok hm hl ((farProtected_same hp hn he hc hmay hpr).trans (bind_of_ok hcall))⟩

end

/-! ## RET -/

/-- The two forms of far RET run the one shared operation (R468). -/
theorem exec_retFar {i : Instr} {b : Nat} (h : i = .retFar ∧ b = 0 ∨ ∃ c : BitVec 16, i = .retFarIw c ∧ b = c.toNat) (s : State) :
    exec i s = run (retFar s.osz b) s := by
  rcases h with ⟨rfl, rfl⟩ | ⟨c, rfl, rfl⟩ <;> rfl

section
variable {s : State} {sel : BitVec 16} {la : BitVec 32} {b : Nat} (hm : s.protectedMode = true) (hp : s.plain = true)
  (hframe : s.segOk .ss s.stackPtr (2 * s.osz.bytes) .read = true) (hsel : s.itemAt .w s.osz.bytes = sel)
  (hn : nullSel sel = false) (he : s.entryAddr sel = some la) (hsuits : (s.descAt la).suitsReturn sel)
include hm hp hframe hsel hn he hsuits

theorem retFar_absent (hlev : s.cpl.toNat ≤ (rplOf sel).toNat) (habs : (s.descAt la).p = false) :
    retFar s.osz b s = .error (.exc ⟨vNP, selCode sel false⟩) s := by
  rw [retFar_of_frame hm hp (osz_ne_b s) hframe hsel]
  refine bind_of_error ?_
  rw [checkReturnCs_suited hp hn he hlev hsuits, habs, if_neg Bool.false_ne_true]

variable (hpr : (s.descAt la).p = true)
include hpr

theorem retFar_same (hlev : rplOf sel = s.cpl) : retFar s.osz b s =
    returnSame (s.descAt la) sel ((s.itemAt s.osz 0).setWidth 32) (2 * s.osz.bytes + b) s := by
  have hcs : checkReturnCs sel s = .ok (s.descAt la) s := by
    rw [checkReturnCs_suited hp hn he (hlev ▸ Nat.le_refl _) hsuits, if_pos hpr]
  rw [retFar_of_frame hm hp (osz_ne_b s) hframe hsel, bind_of_ok hcs, if_pos hlev]

theorem retFar_outer (hlev : s.cpl.toNat < (rplOf sel).toNat) : retFar s.osz b s =
    returnOuter s.osz (s.descAt la) sel ((s.itemAt s.osz 0).setWidth 32) (2 * s.osz.bytes + b) b s := by
  have hcs : checkReturnCs sel s = .ok (s.descAt la) s := by
    rw [checkReturnCs_suited hp hn he (Nat.le_of_lt hlev) hsuits, if_pos hpr]
  have hne : rplOf sel ≠ s.cpl := fun h => Nat.lt_irrefl _ (h ▸ hlev)
  rw [retFar_of_frame hm hp (osz_ne_b s) hframe hsel, bind_of_ok hcs, if_neg hne]

end

/-- The frame of a return outward, counted from its parts (R466). -/
theorem outer_size (s : State) (b : Nat) : 4 * s.osz.bytes + b = 2 * s.osz.bytes + b + 2 * s.osz.bytes := by omega

/-- The outer SS lies above the outer ESP (R466). -/
theorem outer_ss (s : State) (b : Nat) : s.itemAt .w (2 * s.osz.bytes + b + s.osz.bytes) =
    s.load 16 (s.bytesAt .ss (s.above (3 * s.osz.bytes + b)) 2) := by
  rw [show 2 * s.osz.bytes + b + s.osz.bytes = 3 * s.osz.bytes + b by omega]
  rfl

/-- A stack that holds the whole frame holds EIP and CS. -/
theorem frame_of_block {s : State} {b : Nat} (h : s.segOk .ss s.stackPtr (4 * s.osz.bytes + b) .read = true) :
    s.segOk .ss s.stackPtr (2 * s.osz.bytes) .read = true := by
  have := bytes_pos s.osz
  rw [← above_zero]
  exact segOk_above h (by omega) (by omega)

/-- Settles O34. -/
theorem farTransfersInProtectedMode : Obligations.FarTransfersInProtectedMode := by
  intro s hm hp n land
  obtain ⟨-, -, -, hl⟩ := s.plain_iff.1 hp
  refine ⟨fun off sel hn => ?null, fun off sel hn => ⟨fun he => ?outside, fun la he => ⟨fun hc hmay => ?notAllowed,
    fun hs hc => ?data, fun hs ht => ?system⟩⟩, ?code, ?memory, ?ret, ?retFails⟩
  case null => exact both_far_of_error hm hl fun _ => farProtected_null hn
  case outside => exact both_far_of_error hm hl fun _ => farProtected_outside hn he
  case notAllowed => exact both_far_of_error hm hl fun _ => farProtected_notAllowed hp hn he hc hmay
  case data =>
    exact both_far_of_error hm hl fun _ => farProtected_refuses hp hn he hc fun k _ => isSystem_of_segment hs k
  case system =>
    have hc : (s.descAt la).isCode = false := by
      rw [Desc.isCode, hs]
      rfl
    exact both_far_of_error hm hl fun _ => farProtected_refuses hp hn he hc (isSystem_of_refused ht)
  case code =>
    intro off sel la hn he d hc hmay
    exact ⟨exec_jmpFar_code hm hp hl hn he hc hmay,
      fun habs => run_far_of_error hm hl (farProtected_absent hp hn he hc hmay habs),
      fun hpr => exec_callFar_outside hm hp hl hn he hc hmay hpr, fun hpr => exec_callFar_noRoom hm hp hl hn he hc hmay hpr,
      fun hpr => exec_callFar_code hm hp hl hn he hc hmay hpr⟩
  case memory =>
    intro m r ea off sel
    refine ⟨fun hok => ?_, fun hbad => ?_⟩
    · have hread (kind : FarKind) : farIndirect kind s.osz (.mem m) s = farTransfer kind sel off s :=
        farIndirect_of_read (readFarPtr_plain hp hok) kind
      exact ⟨runInstr_congr (hread .jmp), runInstr_congr (hread .call)⟩
    · exact ⟨runInstr_of_error (.inl hl) (farIndirect_fails .jmp hbad), runInstr_of_error (.inl hl) (farIndirect_fails .call hbad)⟩
  case ret =>
    intro b la off sel hn he d hc hpriv
    refine ⟨?same, ?outer⟩
    case same =>
      intro hlev hframe back
      have hback (i : Instr) (b : Nat) (hi : i = .retFar ∧ b = 0 ∨ ∃ c : BitVec 16, i = .retFarIw c ∧ b = c.toNat) :
          exec i s = back b := by
        rw [exec_retFar hi]
        change _ = ite _ _ _
        split
        case isTrue habs =>
          exact run_of_error hl (retFar_absent hm hp hframe rfl hn he ⟨hc, hpriv⟩ (hlev ▸ Nat.le_refl _) habs)
        case isFalse hpr =>
          have hret := retFar_same (b := b) hm hp hframe rfl hn he ⟨hc, hpriv⟩ (by simpa using hpr) hlev
          change _ = ite _ _ _
          split
          case isTrue hout => exact run_of_error hl (hret.trans (returnSame_outside hout))
          case isFalse hin => exact run_of_ok hl (hret.trans (returnSame_plain hp (Nat.not_lt.1 hin)))
      exact ⟨hback _ 0 (.inl ⟨rfl, rfl⟩), hback _ b.toNat (.inr ⟨b, rfl, rfl⟩)⟩
    case outer =>
      intro hlev hpr hin hblock sla esp ss hnss hess sd hw hrpl hdpl hsp scrub t
      have hcs := checkReturnSs_fit hp hnss hess (rpl := rplOf sel) ⟨hw, hrpl, hdpl⟩
      rw [if_pos hsp] at hcs
      have hland := returnOuter_plain (release := b.toNat) hp (osz_ne_b s) (outer_size s _ ▸ hblock) (outer_ss s _) hcs hin
      rw [BitVec.ofNat_toNat] at hland
      have hret (i : Instr) (hi : i = .retFar ∧ b.toNat = 0 ∨ ∃ c : BitVec 16, i = .retFarIw c ∧ b.toNat = c.toNat) :
          exec i s = .next (t.finished .normal) := by
        rw [exec_retFar hi]
        exact run_of_ok hl ((retFar_outer hm hp (frame_of_block hblock) rfl hn he ⟨hc, hpriv⟩ hpr hlev).trans hland)
      exact ⟨hret _ (.inr ⟨b, rfl, rfl⟩), fun hb => hret _ (.inl ⟨rfl, by rw [hb]; rfl⟩)⟩
  case retFails =>
    intro i b hi off sel
    rw [exec_retFar hi]
    refine ⟨fun hbad => run_of_error hl (retFar_noFrame hm hbad), fun hframe => ⟨fun h => ?refused, ?entry⟩⟩
    case refused =>
      exact run_of_error hl ((retFar_of_frame hm hp (osz_ne_b s) hframe rfl).trans (bind_of_error (checkReturnCs_refuses h)))
    case entry =>
      intro la hn he d suits
      refine ⟨fun h => ?unsuited, ?suited⟩
      case unsuited =>
        exact run_of_error hl ((retFar_of_frame hm hp (osz_ne_b s) hframe rfl).trans (bind_of_error (checkReturnCs_unsuited hp hn he h)))
      case suited =>
        intro hsuits hlev ss
        have houter (hpr : d.p = true) := retFar_outer (b := b) hm hp hframe rfl hn he hsuits hpr hlev
        refine ⟨fun habs => ?absent, fun hpr hbad => ?noRoom, fun hpr hblock => ⟨fun h => ?ssRefused, ?ssEntry⟩⟩
        case absent => exact run_of_error hl (retFar_absent hm hp hframe rfl hn he hsuits (Nat.le_of_lt hlev) habs)
        case noRoom => exact run_of_error hl ((houter hpr).trans (returnOuter_noRoom (outer_size s _ ▸ hbad)))
        case ssRefused =>
          exact run_of_error hl ((houter hpr).trans
            (returnOuter_badSs hp (osz_ne_b s) (outer_size s _ ▸ hblock) (outer_ss s _) (checkReturnSs_refuses h)))
        case ssEntry =>
          intro sla hnss hess sd fits
          have hbad {e : Halt} (h : checkReturnSs ss (rplOf sel) s = .error e s) := (houter hpr).trans
            (returnOuter_badSs hp (osz_ne_b s) (outer_size s _ ▸ hblock) (outer_ss s _) h)
          refine ⟨fun h => ?ssUnfit, fun h habs => ?ssAbsent, fun h hsp hout => ?outside⟩
          case ssUnfit => exact run_of_error hl (hbad (checkReturnSs_unfit hp hnss hess h))
          case ssAbsent =>
            have hcs := checkReturnSs_fit hp hnss hess h
            rw [habs, if_neg Bool.false_ne_true] at hcs
            exact run_of_error hl (hbad hcs)
          case outside =>
            have hcs := checkReturnSs_fit hp hnss hess h
            rw [if_pos hsp] at hcs
            exact run_of_error hl ((houter hpr).trans
              (returnOuter_outside hp (osz_ne_b s) (outer_size s _ ▸ hblock) (outer_ss s _) hcs hout))

end Sys2Proof.Machine
end

section
/-! Far JMP and CALL through a call gate (47_segment_far_transfer.md R458, R462, R463). -/
namespace Sys2Proof.Machine

/-! ## Parameters copied to an inner stack -/

/-- Doublewords above the stack pointer of `s` copied in `t` to numbered places from the `k`-th on, `n` of them, highest first (R463;
log entry 22). -/
def State.copyItems (s : State) (at_ : Nat → Loc) (t : State) (k : Nat) : Nat → State
  | 0 => t
  | n + 1 => s.copyItems at_ (t.store (at_ k) (t.phys32 (s.seg.ss.base + s.above (4 * n)))) (k + 1) n

theorem copyItems_eq_foldl (s : State) (at_ : Nat → Loc) (t : State) (k n : Nat) : s.copyItems at_ t k n =
    (List.range n).foldl (fun t j => t.store (at_ (k + j)) (t.phys32 (s.seg.ss.base + s.above (4 * (n - 1 - j))))) t := by
  induction n generalizing t k with
  | zero => rfl
  | succ n ih =>
    rw [State.copyItems, ih, List.range_succ_eq_map, List.foldl_cons, List.foldl_map]
    refine congrArg₂ (fun f t => List.foldl f t (List.range n)) (funext₂ fun t j => ?_) rfl
    rw [Nat.succ_eq_add_one, Nat.add_assoc, Nat.add_comm 1 j, show n + 1 - 1 - (j + 1) = n - 1 - j by omega]

theorem touched_copyItems {s t : State} (at_ : Nat → Loc) (k n : Nat) (h : Touched s t) : Touched s (s.copyItems at_ t k n) := by
  induction n generalizing t k with
  | zero => exact h
  | succ n ih => exact ih _ (h.trans (touched_store ..))

/-- The parameters are read above the old stack pointer, each through its own segment check (R463). -/
theorem copyParams_plain {s t : State} (ht : Touched s t) (hp : s.plain = true) {g : SegReg} {top off : BitVec 32} {k n : Nat}
    (hk : wrapOff g.db off = wrapOff g.db (top - BitVec.ofNat 32 (4 * k))) (h : ∀ i, i < n → s.segOk .ss (s.above (4 * i)) 4 .read = true) :
    ∃ off', wrapOff g.db off' = wrapOff g.db (top - BitVec.ofNat 32 (4 * (k + n))) ∧
      copyParams g off n t = .ok off' (s.copyItems (g.innerSlot top) t (k + 1) n) := by
  induction n generalizing t off k with
  | zero => exact ⟨off, hk, rfl⟩
  | succ n ih =>
    have hok : t.segOk .ss (t.above (4 * n)) 4 .read = true := by
      rw [ht.above]
      exact (ht.segOk ..).trans (h n (Nat.lt_succ_self n))
    have hread : peek (4 * n) .d t = .ok (t.phys32 (s.seg.ss.base + s.above (4 * n))) t := by
      rw [peek_plain (sz := .d) (ht.plain.trans hp) hok, ht.above, ht.bytesAt]
      rfl
    obtain ⟨off1, hoff1, hpush⟩ := innerPushAll_plain (ht.plain.trans hp) true hk [t.phys32 (s.seg.ss.base + s.above (4 * n))]
    obtain ⟨off2, hoff2, hrest⟩ := ih (ht.trans (touched_store t (g.innerSlot top (k + 1)) (t.phys32 (s.seg.ss.base + s.above (4 * n)))))
      hoff1 fun i hi => h i (Nat.lt_succ_of_lt hi)
    refine ⟨off2, ?_, ?_⟩
    · rw [hoff2, List.length_singleton, Nat.add_assoc, Nat.add_comm 1]
    · rw [copyParams, bind_of_ok hread]
      exact (bind_of_ok hpush).trans hrest

/-- ESP as an interlevel CALL leaves it: a 16-bit stack keeps the upper half the TSS held (R463; log entry 30). -/
theorem innerTop_eq {g : SegReg} {esp top off : BitVec 32} (h : wrapOff g.db off = wrapOff g.db top) :
    (if g.db then off else setWordLo esp (off.extractLsb' 0 16)) = if g.db then top else esp.extractLsb' 16 16 ++ top.extractLsb' 0 16 := by
  rw [wrapOff, wrapOff] at h
  split
  case isTrue hdb =>
    rw [if_pos hdb, if_pos hdb] at h
    exact h
  case isFalse hdb =>
    rw [if_neg hdb, if_neg hdb] at h
    have hlow := congrArg (BitVec.setWidth 16) h
    rw [BitVec.setWidth_setWidth_of_le _ (by decide), BitVec.setWidth_setWidth_of_le _ (by decide), BitVec.setWidth_eq,
      BitVec.setWidth_eq] at hlow
    rw [setWordLo, hlow]

/-- The machine at an inner level, on an inner stack prepared in `t` (R463). -/
def State.atInner (t s : State) (g : SegReg) (esp : BitVec 32) (d : Desc) (sel : BitVec 16) (c : BitVec 2) (off : BitVec 32) : State :=
  State.jump { t with seg := (s.seg.set .ss g).set .cs (d.toSeg (withRpl sel c)), cpl := c, a31High := false,
                      gpr := { s.gpr with esp := esp } } off

/-- SS and ESP of the inner stack, and CS:EIP at the inner level (R463). -/
theorem enterInner {s t : State} (ht : Touched s t) (g : SegReg) (esp : BitVec 32) (d : Desc) (sel : BitVec 16) (c : BitVec 2)
    (off : BitVec 32) :
    (do putSeg .ss g; modS fun s => { s with gpr := { s.gpr with esp := esp } }; putCode d sel c; modS fun s => s.jump off : M Unit) t =
      .ok () (t.atInner s g esp d sel c off) := by
  rw [bind_of_ok (putSeg_apply ..), bind_of_ok (modS_apply ..), putCode, bind_assoc, bind_of_ok (putSeg_apply ..),
    bind_of_ok (modS_apply ..), modS_apply, State.atInner, ← ht.seg, ← ht.gpr]

/-! ## CALL to an inner level -/

section
variable {s : State} {gate d : Desc} {sa : BitVec 32} (hp : s.plain = true) (hs : InnerOpen s d.dpl sa)
  (hin : gate.gateOff.toNat ≤ d.limit.toNat)
include hp hs hin

/-- The stack switch of an interlevel CALL, on a stack that holds the frame as one block (R463; log entry 18). -/
theorem farInner_plain (hroom : ((s.descAt sa).toSeg (s.innerSs d.dpl)).roomBelow ((s.descAt sa).toSeg (s.innerSs d.dpl)).db
      (s.innerEsp d.dpl) (4 * (4 + gate.gateCount)) = true)
    (hparams : ∀ i, i < gate.gateCount → s.segOk .ss (s.above (4 * i)) 4 .read = true) :
    ∃ (u1 u2 : BitVec 16) (k : Nat),
      let g := (s.descAt sa).toSeg (s.innerSs d.dpl)
      let at_ := g.innerSlot (s.innerEsp d.dpl)
      let t1 := (((s.loadedDesc (s.descAt sa)).loadedDesc d).drawn k).storeItems at_ 1 [u1 ++ s.seg.ss.sel, s.gpr.esp]
      let t3 := (s.copyItems at_ t1 3 gate.gateCount).storeItems at_ (gate.gateCount + 3) [u2 ++ s.seg.cs.sel, s.eipNext]
      let top := s.innerEsp d.dpl - BitVec.ofNat 32 (4 * (4 + gate.gateCount))
      farInner gate d s = .ok () (t3.atInner s g
        (if g.db then top else (s.innerEsp d.dpl).extractLsb' 16 16 ++ top.extractLsb' 0 16) d gate.gateSel d.dpl gate.gateOff) := by
  have hp1 : (s.loadedDesc (s.descAt sa)).plain = true := (plain_loadedDesc ..).trans hp
  have ht0 : Touched s ((s.loadedDesc (s.descAt sa)).loadedDesc d) := (touched_loadedDesc ..).trans (touched_loadedDesc ..)
  obtain ⟨u1, k1, hss⟩ := padSel_dword s.seg.ss.sel ((s.loadedDesc (s.descAt sa)).loadedDesc d)
  obtain ⟨u2, k2, hcs⟩ := padSel_dword s.seg.cs.sel (((s.loadedDesc (s.descAt sa)).loadedDesc d).drawn k1)
  refine ⟨u1, u2, k2, ?_⟩
  intro g at_ t1 t3 top
  have htk : Touched s (((s.loadedDesc (s.descAt sa)).loadedDesc d).drawn k2) := ht0.trans (touched_drawn ..)
  obtain ⟨o1, ho1, hpush1⟩ := innerPushAll_plain (htk.plain.trans hp) true (g := g) (k := 0) (off := s.innerEsp d.dpl)
    (top := s.innerEsp d.dpl) (by rw [Nat.mul_zero, BitVec.sub_zero]) [u1 ++ s.seg.ss.sel, s.gpr.esp]
  have ht1 : Touched s t1 := touched_storeItems _ _ _ htk
  obtain ⟨o2, ho2, hcopy⟩ := copyParams_plain ht1 hp ho1 hparams
  have ht2 : Touched s (s.copyItems at_ t1 3 gate.gateCount) := touched_copyItems _ _ _ ht1
  obtain ⟨o3, ho3, hpush3⟩ := innerPushAll_plain (ht2.plain.trans hp) true (g := g) (k := gate.gateCount + 2) (off := o2)
    (top := s.innerEsp d.dpl) (by rw [Nat.add_comm gate.gateCount 2]; exact ho2) [u2 ++ s.seg.cs.sel, s.eipNext]
  have ht3 : Touched s t3 := touched_storeItems _ _ _ ht2
  rw [farInner, bind_of_ok (getS_apply s), bind_of_ok (innerStack_plain hp hs _)]
  show (require _ _ _ >>= _) s = _
  rw [require_bind, if_pos hroom, require_bind, if_pos (decide_eq_true hin), bind_of_ok (setAccessed_plain hp _),
    bind_of_ok (setAccessed_plain hp1 _), bind_of_ok hss, bind_of_ok hcs]
  refine (bind_of_ok hpush1).trans ((bind_of_ok hcopy).trans ((bind_of_ok hpush3).trans ?_))
  have htop : wrapOff g.db o3 = wrapOff g.db top := by
    rw [ho3, List.length_cons, List.length_singleton, show gate.gateCount + 2 + (1 + 1) = 4 + gate.gateCount by omega]
  rw [← innerTop_eq htop]
  exact enterInner ht3 ..

end

/-! ## The gate -/

/-- A call gate to a present code segment that may be gone through (R462). -/
structure CallGateOpen (s : State) (sel : BitVec 16) (la ta : BitVec 32) : Prop where
  plain : s.plain = true
  notNull : nullSel sel = false
  entry : s.entryAddr sel = some la
  kind : (s.descAt la).isSystem 0xC#4 = true
  level : s.cpl.toNat ≤ (s.descAt la).dpl.toNat
  rpl : (rplOf sel).toNat ≤ (s.descAt la).dpl.toNat
  present : (s.descAt la).p = true
  targetNotNull : nullSel (s.descAt la).gateSel = false
  targetEntry : s.entryAddr (s.descAt la).gateSel = some ta
  code : (s.descAt ta).isCode = true
  targetPresent : (s.descAt ta).p = true

/-- A system descriptor is no code descriptor. -/
theorem isCode_of_isSystem {d : Desc} {a : BitVec 4} (h : d.isSystem a = true) : d.isCode = false := by
  rw [Desc.isSystem, Bool.and_eq_true, Bool.not_eq_true'] at h
  rw [Desc.isCode, h.1, Bool.false_and]

section
variable {s : State} {sel : BitVec 16} {la ta : BitVec 32} (h : CallGateOpen s sel la ta)
include h

theorem farProtected_gate (kind : FarKind) (off : BitVec 32) : farProtected kind sel off s =
    (do farGate kind (s.descAt la) sel; pure Done.normal) s := by
  rw [farProtected_noCode h.plain h.notNull h.entry (isCode_of_isSystem h.kind)]
  exact congrFun (if_pos h.kind) s

/-- Past the gate's own checks the target's privilege decides (R462). -/
theorem farGate_of_open (kind : FarKind) : farGate kind (s.descAt la) sel s = (do
      require (if kind = .jmp ∧ (s.descAt ta).isConforming = false then (s.descAt ta).dpl == s.cpl
        else decide ((s.descAt ta).dpl.toNat ≤ s.cpl.toNat)) vGP (selCode (s.descAt la).gateSel false)
      require (s.descAt ta).p vNP (selCode (s.descAt la).gateSel false)
      if kind = .call ∧ (s.descAt ta).isConforming = false ∧ (s.descAt ta).dpl.toNat < s.cpl.toNat
      then farInner (s.descAt la) (s.descAt ta)
      else farSame kind .d (s.descAt ta) (s.descAt la).gateSel (s.descAt la).gateOff : M Unit) s := by
  rw [farGate, bind_of_ok (getS_apply s), require_bind, if_pos ((dataPrivOk_iff ..).2 ⟨h.level, h.rpl⟩), require_bind, if_pos h.present,
    require_bind, h.targetNotNull, Bool.not_false, if_pos rfl, bind_of_ok (fetchDescOr_plain h.plain h.targetEntry ..), require_bind,
    if_pos h.code]

/-- To a segment of the same level or a conforming one the level stays (R462). -/
theorem farGate_same (hsame : if (s.descAt ta).isConforming then (s.descAt ta).dpl.toNat ≤ s.cpl.toNat else (s.descAt ta).dpl = s.cpl)
    (kind : FarKind) : farGate kind (s.descAt la) sel s =
      farSame kind .d (s.descAt ta) (s.descAt la).gateSel (s.descAt la).gateOff s := by
  have hle : (s.descAt ta).dpl.toNat ≤ s.cpl.toNat := by
    split at hsame
    case isTrue => exact hsame
    case isFalse => rw [hsame]
  have hlev : (if kind = .jmp ∧ (s.descAt ta).isConforming = false then (s.descAt ta).dpl == s.cpl
      else decide ((s.descAt ta).dpl.toNat ≤ s.cpl.toNat)) = true := by
    split
    case isTrue hk =>
      rw [hk.2, if_neg Bool.false_ne_true] at hsame
      exact beq_iff_eq.2 hsame
    case isFalse => exact decide_eq_true hle
  have hno : ¬ (kind = .call ∧ (s.descAt ta).isConforming = false ∧ (s.descAt ta).dpl.toNat < s.cpl.toNat) := by
    rintro ⟨-, hconf, hlt⟩
    rw [hconf, if_neg Bool.false_ne_true] at hsame
    rw [hsame] at hlt
    exact Nat.lt_irrefl _ hlt
  rw [farGate_of_open h, require_bind, if_pos hlev, require_bind, if_pos h.targetPresent, if_neg hno]

variable (hconf : (s.descAt ta).isConforming = false) (hlt : (s.descAt ta).dpl.toNat < s.cpl.toNat)
include hconf hlt

/-- JMP does not change the level (R462). -/
theorem farGate_jmp_inner : farGate .jmp (s.descAt la) sel s = .error (.exc ⟨vGP, selCode (s.descAt la).gateSel false⟩) s := by
  have hne : ((s.descAt ta).dpl == s.cpl) = false := beq_eq_false_iff_ne.2 fun he => Nat.lt_irrefl _ (he ▸ hlt)
  have hlev : (if FarKind.jmp = .jmp ∧ (s.descAt ta).isConforming = false then (s.descAt ta).dpl == s.cpl
      else decide ((s.descAt ta).dpl.toNat ≤ s.cpl.toNat)) = false := (if_pos ⟨rfl, hconf⟩).trans hne
  rw [farGate_of_open h, require_bind, hlev, if_neg Bool.false_ne_true]

theorem farGate_call_inner : farGate .call (s.descAt la) sel s = farInner (s.descAt la) (s.descAt ta) s := by
  have hlev : (if FarKind.call = .jmp ∧ (s.descAt ta).isConforming = false then (s.descAt ta).dpl == s.cpl
      else decide ((s.descAt ta).dpl.toNat ≤ s.cpl.toNat)) = true :=
    (if_neg fun hk => by cases hk.1).trans (decide_eq_true (Nat.le_of_lt hlt))
  rw [farGate_of_open h, require_bind, if_pos hlev, require_bind, if_pos h.targetPresent, if_pos ⟨rfl, hconf, hlt⟩]

end

/-- Settles O35. -/
theorem callGates : Obligations.CallGates := by
  intro s off sel la ta hm hp hn he gate hg hlev hrpl hpr htn hte d hc htp land
  obtain ⟨-, -, -, hl⟩ := s.plain_iff.1 hp
  have hopen : CallGateOpen s sel la ta := ⟨hp, hn, he, hg, hlev, hrpl, hpr, htn, hte, hc, htp⟩
  have hgate (kind : FarKind) : farTransfer kind sel off s = (do farGate kind gate sel; pure Done.normal) s :=
    (farTransfer_protected hm ..).trans (farProtected_gate hopen kind off)
  refine ⟨fun hsame => ⟨?jmp, fun hin hroom => ?call⟩, fun hconf hlt => ⟨?jmpInner, ?callInner⟩⟩
  case jmp =>
    have hjmp := farGate_same hopen hsame .jmp
    split
    case isTrue hout => exact runInstr_of_error (.inl hl) ((hgate .jmp).trans (bind_of_error (hjmp.trans (farSame_outside hout))))
    case isFalse hin =>
      exact runInstr_of_ok (.inl hl) ((hgate .jmp).trans (bind_of_ok (hjmp.trans (farSame_jmp hp (Nat.not_lt.1 hin)))))
  case call =>
    obtain ⟨c, k, -, hpad, hcall⟩ := farSame_call (d := d) (sel := gate.gateSel) (sz := .d) hp nofun hin hroom
    obtain ⟨u, k', hu⟩ := padSel_dword s.seg.cs.sel s
    obtain rfl : c = u ++ s.seg.cs.sel := by
      rw [hpad] at hu
      exact (EStateM.Result.ok.inj hu).1
    rw [BitVec.setWidth_eq] at hcall
    exact ⟨u, k, runInstr_of_ok (.inl hl) ((hgate .call).trans (bind_of_ok ((farGate_same hopen hsame .call).trans hcall)))⟩
  case jmpInner =>
    exact runInstr_of_error (.inl hl) ((hgate .jmp).trans (bind_of_error (farGate_jmp_inner hopen hconf hlt)))
  case callInner =>
    intro sa htss esp ss hnss hess sd hssr hw hdpl hsp hin count need g hroom hparams
    have hneed : need = 4 * (4 + gate.gateCount) := by
      show 16 + 4 * gate.gateCount = _
      omega
    rw [hneed] at hroom
    obtain ⟨u1, u2, k, hcall⟩ := farInner_plain (gate := gate) hp ⟨htss, hnss, hess, hssr, hw, hdpl, hsp⟩ hin hroom hparams
    refine ⟨u1, u2, k, ?_⟩
    intro at_ t1 t2 t3 top
    dsimp only at hcall
    rw [copyItems_eq_foldl, ← hneed] at hcall
    exact runInstr_of_ok (.inl hl) ((hgate .call).trans (bind_of_ok ((farGate_call_inner hopen hconf hlt).trans hcall)))

end Sys2Proof.Machine
end

section
/-! IRET (47_segment_far_transfer.md R466, R468, R470; 49_multitasking.md R561). -/
namespace Sys2Proof.Machine

/-! ## What the parts of a return only touch -/

theorem touches_lread (r : SReg) (off : BitVec 32) (sz : Size) : Touches (lread r off sz) :=
  touches_bind (touches_locate _ _ _ _) fun _ => touches_loadLoc _ _

theorem touches_peek (n : Nat) (sz : Size) : Touches (peek n sz) := touches_bind touches_getS fun _ => touches_lread _ _ _

theorem touches_sysWrite (la : BitVec 32) (n : Nat) {w : Nat} (v : BitVec w) : Touches (sysWrite la n v) :=
  touches_bind (touches_resolve _ _ _ _) fun _ => touches_modS fun _ => touched_store ..

theorem touches_setAccessed (d : Desc) : Touches (setAccessed d) :=
  touches_bind (touches_modS fun _ => ⟨_, _, _, _, _, _, _, rfl⟩) fun _ => touches_if (touches_pure ()) (touches_sysWrite _ _ _)

theorem touches_fetchDescOr (sel : BitVec 16) (v : BitVec 8) (e : ErrCode) : Touches (fetchDescOr sel v e) :=
  touches_bind (touches_fetchDesc sel) fun d => by
    cases d
    · exact touches_raise _ _
    · exact touches_pure _

theorem touches_checkReturnCs (sel : BitVec 16) : Touches (checkReturnCs sel) :=
  touches_bind touches_getS fun _ => touches_bind (touches_require _ _ _) fun _ => touches_bind (touches_require _ _ _) fun _ =>
    touches_bind (touches_fetchDescOr _ _ _) fun d => touches_bind (touches_require _ _ _) fun _ => touches_bind (touches_require _ _ _) fun _ =>
      touches_bind (touches_require _ _ _) fun _ => touches_pure d

/-! ## The flags -/

/-- The flags an IRET of `n`-byte items leaves, popped at level `c` (R470). -/
def Eflags.returned (f : Eflags) (sz : Size) (fl : BitVec sz.bits) (c : BitVec 2) : Eflags :=
  let g := Eflags.ofBits (fl.setWidth 32)
  { g with IF := if c.toNat ≤ f.IOPL.toNat then g.IF else f.IF, IOPL := if c = 0#2 then g.IOPL else f.IOPL,
           RF := if sz = .d then g.RF else f.RF, VM := if sz = .d ∧ c = 0#2 then g.VM else f.VM }

theorem load_eq_returned (f : Eflags) (sz : Size) (fl : BitVec sz.bits) (c : BitVec 2) :
    f.load (fl.setWidth 32) (sz == .d) c = f.returned sz fl c := by
  simp only [Eflags.load, Eflags.returned, beq_iff_eq, Bool.and_eq_true]

/-! ## The frame -/

/-- An image that asks for virtual-8086 mode is not returned to here. -/
theorem noVm {s : State} {fl : BitVec s.osz.bits} (hvm : s.osz = .d → fl.getLsbD 17 = false) : (s.osz == .d && (fl.setWidth 32).getLsbD 17) = false := by
  rw [Bool.and_eq_false_iff]
  by_cases hd : s.osz = .d
  · right
    rw [BitVec.getLsbD_setWidth, hvm hd, Bool.and_false]
  · exact .inl (beq_eq_false_iff_ne.2 hd)

/-- The three items of the frame, read one after the other (R470). -/
structure Frame (s s3 : State) (v : BitVec s.osz.bits) (cs : BitVec 16) (fl : BitVec s.osz.bits) : Prop where
  holds : s.stackHas (3 * s.osz.bytes) = true
  read : ∃ s1 s2, peek 0 s.osz s = .ok v s1 ∧ peek s.osz.bytes .w s1 = .ok cs s2 ∧ peek (2 * s.osz.bytes) s.osz s2 = .ok fl s3

section
variable {s s3 : State} {v fl : BitVec s.osz.bits} {cs : BitVec 16} (h : Frame s s3 v cs fl)
include h

theorem Frame.touched : Touched s s3 := by
  obtain ⟨s1, s2, h1, h2, h3⟩ := h.read
  exact (((touches_peek _ _).ok h1).trans ((touches_peek _ _).ok h2)).trans ((touches_peek _ _).ok h3)

theorem interruptReturn_real (hm : s.protectedMode = false) :
    interruptReturn s = (do iretReal s.osz (v.setWidth 32) cs (fl.setWidth 32); pure Done.keepRF) s3 := by
  obtain ⟨s1, s2, h1, h2, h3⟩ := h.read
  rw [interruptReturn, bind_of_ok (getS_apply s), hm, Bool.false_and, if_neg Bool.false_ne_true, require_bind, if_pos h.holds,
    bind_of_ok h1, bind_of_ok h2, bind_of_ok h3, Bool.not_false, if_pos rfl]

/-- In protected mode the popped CS is checked, and its RPL decides where the return leads; the flags come last (R470). -/
theorem interruptReturn_of_return (hm : s.protectedMode = true) (hnt : s.flags.NT = false)
    (hvm : s.osz = .d → fl.getLsbD 17 = true → s.cpl ≠ 0#2) {d : Desc} {s4 u : State} (hcs : checkReturnCs cs s3 = .ok d s4)
    (hret : (if rplOf cs = s.cpl then returnSame d cs (v.setWidth 32) (3 * s.osz.bytes)
      else returnOuter s.osz d cs (v.setWidth 32) (3 * s.osz.bytes) 0) s4 = .ok () u) :
    interruptReturn s = .ok .keepRF { u with flags := u.flags.returned s.osz fl s.cpl, nmiInService := false } := by
  obtain ⟨s1, s2, h1, h2, h3⟩ := h.read
  have hno : (s.osz == .d && (fl.setWidth 32).getLsbD 17 && s.cpl == 0#2) = false := by
    rw [BitVec.getLsbD_setWidth, Bool.and_eq_false_iff, Bool.and_eq_false_iff]
    by_cases hd : s.osz = .d
    · by_cases h17 : fl.getLsbD 17 = true
      · exact .inr (beq_eq_false_iff_ne.2 (hvm hd h17))
      · exact .inl (.inr (by rw [Bool.eq_false_iff.2 h17, Bool.and_false]))
    · exact .inl (.inl (beq_eq_false_iff_ne.2 hd))
  rw [interruptReturn, bind_of_ok (getS_apply s), hm, hnt, Bool.and_false, if_neg Bool.false_ne_true, require_bind, if_pos h.holds,
    bind_of_ok h1, bind_of_ok h2, bind_of_ok h3, Bool.not_true, if_neg Bool.false_ne_true, hno, if_neg Bool.false_ne_true,
    bind_of_ok hcs, ← load_eq_returned]
  split at hret
  case isTrue hlev =>
    rw [if_pos hlev]
    exact bind_of_ok hret
  case isFalse hlev =>
    rw [if_neg hlev]
    exact bind_of_ok hret

/-- IRET in real-address mode (R470; log entry 36). -/
theorem interruptReturn_real_ok (hm : s.protectedMode = false) (hvm : s.osz = .d → fl.getLsbD 17 = false) :
    interruptReturn s = .ok .keepRF { s3 with
      gpr := (s3.setStackPtr (s.above (3 * s.osz.bytes))).gpr,
      seg := { s3.seg with cs := s3.seg.cs.realLoad cs }, a31High := false,
      eipNext := v.setWidth 32, pastEnd := false, queue := [], flags := s.flags.returned s.osz fl 0#2, nmiInService := false } := by
  have hreal : iretReal s.osz (v.setWidth 32) cs (fl.setWidth 32) s3 = .ok () { s3 with
      gpr := (s3.setStackPtr (s.above (3 * s.osz.bytes))).gpr,
      seg := { s3.seg with cs := s3.seg.cs.realLoad cs }, a31High := false,
      eipNext := v.setWidth 32, pastEnd := false, queue := [], flags := s.flags.returned s.osz fl 0#2, nmiInService := false } := by
    rw [iretReal, noVm hvm, if_neg Bool.false_ne_true]
    show (loadCodeReal cs >>= _) s3 = _
    rw [loadCodeReal, bind_of_ok (modS_apply ..), modS_apply, ← h.touched.above, ← h.touched.flags, ← load_eq_returned]
    rfl
  rw [interruptReturn_real h hm, bind_of_ok hreal, pure_apply]

/-- IRET to the level the machine runs at (R468, R470). -/
theorem interruptReturn_same (hm : s.protectedMode = true) (hnt : s.flags.NT = false)
    (hvm : s.osz = .d → fl.getLsbD 17 = false) {d : Desc} {s4 s5 : State} (hcs : checkReturnCs cs s3 = .ok d s4) (hlev : rplOf cs = s.cpl)
    (hin : (v.setWidth 32).toNat ≤ d.limit.toNat) (hacc : setAccessed d s4 = .ok () s5) :
    interruptReturn s = .ok .keepRF { s5 with
      gpr := (s5.setStackPtr (s.above (3 * s.osz.bytes))).gpr, seg := s5.seg.set .cs (d.toSeg (withRpl cs s.cpl)), a31High := false,
      eipNext := v.setWidth 32, pastEnd := false, queue := [], flags := s.flags.returned s.osz fl s.cpl, nmiInService := false } := by
  have ht4 : Touched s s4 := h.touched.trans ((touches_checkReturnCs _).ok hcs)
  have ht5 : Touched s s5 := ht4.trans ((touches_setAccessed _).ok hacc)
  have hret : returnSame d cs (v.setWidth 32) (3 * s.osz.bytes) s4 = .ok () { s5 with
      gpr := (s5.setStackPtr (s.above (3 * s.osz.bytes))).gpr, seg := s5.seg.set .cs (d.toSeg (withRpl cs s.cpl)), a31High := false,
      eipNext := v.setWidth 32, pastEnd := false, queue := [] } := by
    have hload : loadCode d cs s4.cpl s4 = .ok ()
        { s5 with seg := s5.seg.set .cs (d.toSeg (withRpl cs s.cpl)), a31High := false } := by
      rw [loadCode, bind_of_ok hacc, putCode, bind_of_ok (putSeg_apply ..), modS_apply, ht4.cpl, ← ht5.cpl]
    rw [returnSame, bind_of_ok (getS_apply s4), require_bind, if_pos (decide_eq_true hin), bind_of_ok hload, modS_apply, ← ht5.above]
    rfl
  rw [interruptReturn_of_return h hm hnt (fun hd h17 => absurd h17 (Bool.eq_false_iff.1 (hvm hd))) hcs ((congrFun (if_pos hlev) _).trans hret),
    ← ht5.flags]

end

/-! ## To an outer level -/

theorem flags_returnedOuter (s : State) (sz : Size) (d sd : Desc) (cs ss : BitVec 16) (esp : BitVec sz.bits) (eip : BitVec 32) :
    (s.returnedOuter sz d sd cs ss esp eip).flags = s.flags := ((touched_loadedDesc s d).trans (touched_loadedDesc ..)).flags

theorem interruptReturn_outer {s : State} {la sla : BitVec 32} {cs ss : BitVec 16} {eip : BitVec 32} (hm : s.protectedMode = true)
    (hp : s.plain = true) (hnt : s.flags.NT = false) (hblock : s.segOk .ss s.stackPtr (5 * s.osz.bytes) .read = true)
    (hvm : s.osz = .d → (s.itemAt s.osz (2 * s.osz.bytes)).getLsbD 17 = true → s.cpl ≠ 0#2)
    (heip : (s.itemAt s.osz (0 * s.osz.bytes)).setWidth 32 = eip) (hsel : s.itemAt .w (1 * s.osz.bytes) = cs)
    (hn : nullSel cs = false) (he : s.entryAddr cs = some la) (hsuits : (s.descAt la).suitsReturn cs) (hlev : s.cpl.toNat < (rplOf cs).toNat)
    (hpr : (s.descAt la).p = true) (hin : eip.toNat ≤ (s.descAt la).limit.toNat)
    (hss : s.itemAt .w (4 * s.osz.bytes) = ss) (hsn : nullSel ss = false) (hse : s.entryAddr ss = some sla)
    (hfits : (s.descAt sla).fitsReturn ss (rplOf cs)) (hsp : (s.descAt sla).p = true) :
    interruptReturn s = .ok .keepRF { s.returnedOuter s.osz (s.descAt la) (s.descAt sla) cs ss (s.itemAt s.osz (3 * s.osz.bytes)) eip with
      flags := s.flags.returned s.osz (s.itemAt s.osz (2 * s.osz.bytes)) s.cpl, nmiInService := false } := by
  have hb := two_le_bytes (osz_ne_b s)
  rw [Nat.zero_mul] at heip
  rw [Nat.one_mul] at hsel
  rw [Nat.succ_mul] at hss
  have hframe : Frame s s ((s.itemAt s.osz 0)) cs (s.itemAt s.osz (2 * s.osz.bytes)) := by
    refine ⟨?_, s, s, peek_of_block hp hblock (by omega), ?_, peek_of_block hp hblock (by omega)⟩
    · have h3 := segOk_above (m := 0) hblock (n := 3 * s.osz.bytes) (by omega) (by omega)
      rw [above_zero] at h3
      exact (segOk_eq_true.1 h3).2
    · rw [← hsel]
      exact peek_of_block hp hblock (by rw [show Size.w.bytes = 2 from rfl]; omega)
  have hcs : checkReturnCs cs s = .ok (s.descAt la) s := by
    rw [checkReturnCs_suited hp hn he (Nat.le_of_lt hlev) hsuits, if_pos hpr]
  have hck : checkReturnSs ss (rplOf cs) s = .ok (s.descAt sla) s := by
    rw [checkReturnSs_fit hp hsn hse hfits, if_pos hsp]
  have hne : rplOf cs ≠ s.cpl := fun h => Nat.lt_irrefl _ (h ▸ hlev)
  have hout := returnOuter_plain (release := 0) hp (osz_ne_b s)
    (show s.segOk .ss s.stackPtr (3 * s.osz.bytes + 2 * s.osz.bytes) .read = true by rw [← Nat.add_mul]; exact hblock) hss hck hin
  rw [show BitVec.ofNat s.osz.bits 0 = 0#_ from rfl, BitVec.add_zero] at hout
  rw [← heip] at hout ⊢
  rw [interruptReturn_of_return hframe hm hnt hvm hcs ((congrFun (if_neg hne) _).trans hout), flags_returnedOuter]

/-! ## To the nesting task -/

/-- A switch for JMP, CALL or IRET: the T bit of the new TSS is looked at last (49_multitasking.md R556, R559). -/
theorem taskSwitch_of_core {s s1 : State} {c : SwitchCause} {sel : BitVec 16} {d : Desc}
    (h : taskSwitchCore c sel d false s.eipNext s.flags s = .ok () s1) (hp : s1.plain = true) :
    taskSwitch c sel d s = .ok () { s1 with dbg := { s1.dbg with pendingBT := s1.dbg.pendingBT || s1.taskTrap } } := by
  rw [taskSwitch, bind_of_ok (getS_apply s), bind_of_ok h, inNewTask_of_ok (taskTrapBit_plain hp)]

theorem iretTask_plain {s : State} {sel : BitVec 16} {la : BitVec 32} (hp : s.plain = true)
    (hlink : s.load 16 (Loc.from s.tr.base 2) = sel) (hti : tiOf sel = false) (hidx : indexOf sel ≠ 0#13) (he : s.entryAddr sel = some la)
    (hbusy : (s.descAt la).isSystem 0xB#4 = true) (hpr : (s.descAt la).p = true) : iretTask s = taskSwitch .iret sel (s.descAt la) s := by
  rw [iretTask, bind_of_ok (getS_apply s), bind_of_ok (sysRead_plain hp ..), hlink, require_bind, hti, Bool.not_false, Bool.true_and,
    if_pos (bne_iff_ne.2 hidx), bind_of_ok (fetchDescOr_plain hp he ..), isSystem_other hbusy (by decide),
    isSystem_other hbusy (by decide), if_neg (by decide), require_bind, if_pos hbusy, require_bind, if_pos hpr]

/-- Settles O49. -/
theorem returnFromInterrupt : Obligations.ReturnFromInterrupt := by
  refine ⟨fun s s1 s2 s3 v fl cs hl hhas h1 h2 h3 hvm => ?_, ?_, ?_⟩
  · have hframe : Frame s s3 v cs fl := ⟨hhas, s1, s2, h1, h2, h3⟩
    exact ⟨fun hm => runInstr_of_ok (.inl hl) (interruptReturn_real_ok hframe hm hvm),
      fun d s4 s5 hm hnt hcs hlev hin hacc => runInstr_of_ok (.inl hl) (interruptReturn_same hframe hm hnt hvm hcs hlev hin hacc)⟩
  · intro s la sla hm hp hnt n item selAt off rpl hblock hvm hn he d hc hpriv hlev hpr hin hsn hse sd hw hrpl hdpl hsp scrub
    obtain ⟨-, -, -, hl⟩ := s.plain_iff.1 hp
    exact runInstr_of_ok (.inl hl) (interruptReturn_outer hm hp hnt hblock (fun hd h17 h0 => hvm ⟨hd, h17, h0⟩) rfl rfl hn he
      ⟨hc, hpriv⟩ hlev hpr hin rfl hsn hse ⟨hw, hrpl, hdpl⟩ hsp)
  · intro s s1 la hm hp hnt link hti hidx he hbusy hpr hcore hp1
    obtain ⟨-, -, -, hl⟩ := s.plain_iff.1 hp
    refine runInstr_of_ok (.inl hl) ?_
    have htask := (iretTask_plain hp rfl hti hidx he hbusy hpr).trans (taskSwitch_of_core hcore hp1)
    rw [interruptReturn, bind_of_ok (getS_apply s), hm, hnt, Bool.true_and, if_pos rfl, bind_of_ok htask]
    rfl

end Sys2Proof.Machine
end

section
/-! Debug exceptions: what an access matches, what completing makes pending, and BD (61_debug_coproc_multiproc.md R670 to R676, R683,
R684). -/
namespace Sys2Proof.Machine

/-! ## Sets of conditions -/

theorem Hits.get_union (a b : Hits) (k : Fin 4) : (a.union b).get k = (a.get k || b.get k) := by
  fin_cases k <;> rfl

theorem Hits.ext_get {a b : Hits} (h : ∀ k, a.get k = b.get k) : a = b := by
  obtain ⟨a0, a1, a2, a3⟩ := a
  obtain ⟨b0, b1, b2, b3⟩ := b
  rw [show a0 = b0 from h 0, show a1 = b1 from h 1, show a2 = b2 from h 2, show a3 = b3 from h 3]

theorem Hits.get_add (a : Hits) (j k : Fin 4) : (a.add j).get k = (a.get k || k == j) := by
  fin_cases j <;> fin_cases k <;> simp [Hits.add, Hits.get]

/-- The bits of DR6 a set of conditions, BS and BT stand for (R676). -/
theorem dr6_bits (h : Hits) (bs bt : Bool) :
    (0#16 ++ bit bt ++ bit bs ++ 0#10 ++ bit h.b3 ++ bit h.b2 ++ bit h.b1 ++ bit h.b0 : BitVec 32) = dr6Image h bs bt := by
  obtain ⟨b0, b1, b2, b3⟩ := h
  have hall : ∀ b0 b1 b2 b3 bs bt : Bool,
      (0#16 ++ bit bt ++ bit bs ++ 0#10 ++ bit b3 ++ bit b2 ++ bit b1 ++ bit b0 : BitVec 32) = dr6Image ⟨b0, b1, b2, b3⟩ bs bt := by decide
  exact hall ..

theorem report_eq (d : Debug) (h : Hits) (bs bt : Bool) : d.report h bs bt =
    { d with dr6 := d.dr6 ||| dr6Image h bs bt, pending := Hits.none, pendingBS := false, pendingBT := false, seen := Hits.none } := by
  rw [Debug.report, dr6_bits]

/-! ## What an access matches -/

/-- No enabled breakpoint has an undefined setting (R670, D53). -/
def Debug.settled (d : Debug) : Prop := ∀ k : Fin 4, d.enabled k = true → undefinedSetting (d.rw k) (d.len k) = false

theorem undefinedSetting_eq_false {rw len : BitVec 2} (h : rw ≠ 2#2 ∧ len ≠ 2#2 ∧ (rw = 0#2 → len = 0#2)) :
    undefinedSetting rw len = false := by
  revert rw len
  decide

theorem settled_of_defined {d : Debug}
    (h : ∀ k : Fin 4, d.enabled k = true → d.rw k ≠ 2#2 ∧ d.len k ≠ 2#2 ∧ (d.rw k = 0#2 → d.len k = 0#2)) : d.settled :=
  fun k hk => undefinedSetting_eq_false (h k hk)

/-- Whether a data access matches a condition, enabled or not (R672). -/
def Debug.hits (d : Debug) (la : BitVec 32) (n : Nat) (w : Bool) (k : Fin 4) : Bool :=
  !undefinedSetting (d.rw k) (d.len k) &&
    ((d.rw k == 3#2 || (d.rw k == 1#2 && w)) && overlaps la n (fieldBase (d.addr k) (d.len k)) (lenBytes (d.len k)))

/-- The conditions matched so far and those an access matches. -/
def Debug.noted (d : Debug) (la : BitVec 32) (n : Nat) (w : Bool) : Hits :=
  d.matched.union ⟨d.hits la n w 0, d.hits la n w 1, d.hits la n w 2, d.hits la n w 3⟩

theorem get_noted (d : Debug) (la : BitVec 32) (n : Nat) (w : Bool) (k : Fin 4) :
    (d.noted la n w).get k = (d.matched.get k || d.hits la n w k) := by
  rw [Debug.noted, Hits.get_union]
  fin_cases k <;> rfl

/-- The machine with another set of matched conditions. -/
def State.noting (s : State) (m : Hits) : State := { s with dbg := { s.dbg with matched := m } }

theorem noteOne_of_settled {s : State} (hs : s.dbg.settled) (la : BitVec 32) (n : Nat) (w : Bool) (k : Fin 4) : noteOne la n w k s =
    .ok () (s.noting (if s.dbg.hits la n w k then s.dbg.matched.add k else s.dbg.matched)) := by
  rw [noteOne, bind_of_ok (getS_apply _), Debug.hits]
  cases hu : undefinedSetting (s.dbg.rw k) (s.dbg.len k)
  case true =>
    have hoff : s.dbg.enabled k = false := Bool.eq_false_iff.2 fun h => Bool.false_ne_true ((hs k h).symm.trans hu)
    rw [if_pos rfl, hoff, if_neg Bool.false_ne_true]
    rfl
  case false =>
    rw [if_neg Bool.false_ne_true, Bool.not_false, Bool.true_and]
    change (if ((s.dbg.rw k == 3#2 || (s.dbg.rw k == 1#2 && w)) && overlaps la n (fieldBase (s.dbg.addr k) (s.dbg.len k))
      (lenBytes (s.dbg.len k))) = true then _ else _ : M Unit) _ = _
    split <;> rfl

theorem noteOne_noting {s : State} (hs : s.dbg.settled) (la : BitVec 32) (n : Nat) (w : Bool) (m : Hits) (k : Fin 4) :
    noteOne la n w k (s.noting m) = .ok () (s.noting (if s.dbg.hits la n w k then m.add k else m)) :=
  noteOne_of_settled (s := s.noting m) hs la n w k

theorem Hits.get_ite_add (c : Bool) (a : Hits) (j k : Fin 4) : (if c then a.add j else a).get k = (a.get k || (c && k == j)) := by
  cases c
  · simp
  · exact Hits.get_add a j k

/-- A condition that cannot match a data access matches none. -/
theorem hits_of_not_watches {d : Debug} {k : Fin 4} (h : d.watches k = false) (la : BitVec 32) (n : Nat) (w : Bool) :
    d.hits la n w k = false := by
  have hrw : (d.rw k).getLsbD 0 = false := (Bool.or_eq_false_iff.1 h).1
  have hkind : ∀ x : BitVec 2, x.getLsbD 0 = false → (x == 3#2 || (x == 1#2 && w)) = false := by
    cases w <;> decide
  rw [Debug.hits, hkind _ hrw, Bool.false_and, Bool.and_false]

/-- Noting an access adds the conditions it matches, whether the four are looked at or none can match (R672, R676). -/
theorem noteAccess_apply {s : State} (hs : s.dbg.settled) (la : BitVec 32) (n : Nat) (w : Bool) :
    noteAccess la n w s = .ok () (s.noting (s.dbg.noted la n w)) := by
  rw [noteAccess, bind_of_ok (getS_apply s)]
  split
  case isTrue =>
    rw [show s = s.noting s.dbg.matched from rfl, bind_of_ok (noteOne_noting hs ..), bind_of_ok (noteOne_noting hs ..),
      bind_of_ok (noteOne_noting hs ..), noteOne_noting hs]
    refine congrArg (fun m => EStateM.Result.ok () (s.noting m)) (Hits.ext_get fun k => ?_)
    rw [Hits.get_ite_add, Hits.get_ite_add, Hits.get_ite_add, Hits.get_ite_add]
    refine Eq.trans ?_ (get_noted s.dbg la n w k).symm
    fin_cases k <;> simp
  case isFalse hno =>
    have hnone : s.dbg.noted la n w = s.dbg.matched := by
      simp only [Debug.anyWatch, Bool.or_eq_true, not_or, Bool.not_eq_true] at hno
      obtain ⟨⟨⟨h0, h1⟩, h2⟩, h3⟩ := hno
      refine Hits.ext_get fun k => ?_
      have hk : s.dbg.watches k = false := by
        fin_cases k
        · exact h0
        · exact h1
        · exact h2
        · exact h3
      rw [get_noted, hits_of_not_watches hk, Bool.or_false]
    rw [hnone]
    rfl

theorem lenBytes_eq (len : BitVec 2) : lenBytes len = if len = 0#2 then 1 else if len = 1#2 then 2 else if len = 3#2 then 4 else 0 := by
  revert len
  decide

/-- The distance between the starts of two runs that meet. -/
theorem sub_toNat_le {a b : BitVec 32} {i j : Nat} (hij : j ≤ i) (h : a + BitVec.ofNat 32 i = b + BitVec.ofNat 32 j) :
    (b - a).toNat ≤ i - j := by
  have hb : a + BitVec.ofNat 32 (i - j) = b := by
    rw [← Nat.sub_add_cancel hij, BitVec.ofNat_add, ← add_assoc] at h
    simpa using h
  rw [← hb, add_sub_cancel_left, BitVec.toNat_ofNat]
  exact Nat.mod_le ..

/-- Two runs of bytes that are not empty overlap where they share a byte, modulo 2^32 (R672). -/
theorem overlaps_iff {la base : BitVec 32} {n len : Nat} (hn : 0 < n) (hl : 0 < len) : overlaps la n base len = true ↔
    ∃ i j : Nat, i < n ∧ j < len ∧ la + BitVec.ofNat 32 i = base + BitVec.ofNat 32 j := by
  rw [overlaps, Bool.or_eq_true, decide_eq_true_iff, decide_eq_true_iff]
  constructor
  · rintro (h | h)
    · exact ⟨_, 0, h, hl, by rw [BitVec.ofNat_toNat, BitVec.setWidth_eq, BitVec.add_zero]; bv_omega⟩
    · exact ⟨0, _, hn, h, by rw [BitVec.ofNat_toNat, BitVec.setWidth_eq, BitVec.add_zero]; bv_omega⟩
  · rintro ⟨i, j, hi, hj, h⟩
    rcases Nat.le_total j i with hji | hij
    · exact .inl (Nat.lt_of_le_of_lt (sub_toNat_le hji h) (by omega))
    · exact .inr (Nat.lt_of_le_of_lt (sub_toNat_le hij h.symm) (by omega))

/-- A condition matches an access of its kind that shares a byte with its field (R670, R672). -/
theorem hits_iff (d : Debug) (la : BitVec 32) {n : Nat} (w : Bool) (k : Fin 4) (hn : 0 < n) :
    let bytes := if d.len k = 0#2 then 1 else if d.len k = 1#2 then 2 else if d.len k = 3#2 then 4 else 0
    d.hits la n w k = true ↔ (d.rw k = 3#2 ∨ d.rw k = 1#2 ∧ w = true) ∧
      ∃ i j : Nat, i < n ∧ j < bytes ∧ la + BitVec.ofNat 32 i = (d.addr k &&& ~~~ BitVec.ofNat 32 (bytes - 1)) + BitVec.ofNat 32 j := by
  intro bytes
  have hbytes : lenBytes (d.len k) = bytes := lenBytes_eq _
  rw [Debug.hits, fieldBase, hbytes]
  simp only [Bool.and_eq_true, Bool.or_eq_true, beq_iff_eq, Bool.not_eq_true']
  by_cases hlen : d.len k = 2#2
  case pos =>
    have hb : bytes = 0 := by
      rw [← hbytes, hlen]
      rfl
    have hu : undefinedSetting (d.rw k) (d.len k) = true := by
      rw [undefinedSetting, hlen]
      simp
    rw [hu, hb]
    refine iff_of_false (fun h => Bool.false_ne_true h.1.symm) ?_
    rintro ⟨-, _, j, -, hj, -⟩
    exact Nat.not_lt_zero j hj
  case neg =>
    have hb : 0 < bytes := by
      rw [← hbytes]
      revert hlen
      generalize d.len k = l
      revert l
      decide
    rw [overlaps_iff hn hb]
    refine ⟨And.right, fun h => ⟨?_, h⟩⟩
    rcases h.1 with hrw | ⟨hrw, -⟩ <;> exact undefinedSetting_eq_false ⟨by rw [hrw]; decide, hlen, fun hz => absurd (hrw.symm.trans hz) (by decide)⟩

/-- Locating an operand with paging off, where devices and holes are absent: breakpoints are all it touches (R672). -/
theorem locate_noting {s : State} {r : SReg} {off : BitVec 32} {n : Nat} {w : Bool} (hg : s.cr0.PG = false) (hm : s.plat.memMap = [])
    (hl : s.pfx.lock = false) (hs : s.dbg.settled) (h : s.segOk r off n (if w then .write else .read) = true) :
    locate r off n w s = .ok (Loc.from ((s.seg.get r).base + off) n) (s.noting (s.dbg.noted ((s.seg.get r).base + off) n w)) := by
  have hres (la : BitVec 32) (m : Hits) : resolve la n w s.user (s.noting m) = .ok (Loc.from la n) (s.noting m) := by
    rw [resolve_direct (s := s.noting m) hg, State.settled_of_holds (s := s.noting m) (State.holdsAll_of_empty hm _)]
  rw [locate, bind_of_ok (getS_apply s), if_pos h, bind_of_ok (noteAccess_apply hs ..), bind_of_ok (hres ..), bind_of_ok (modS_apply ..),
    pure_apply, State.locking]
  change EStateM.Result.ok _ (if (w && s.pfx.lock) = true then _ else _) = _
  rw [hl, Bool.and_false, if_neg Bool.false_ne_true]

/-! ## What completing makes pending -/

/-- Earlier late reports have become pending (R673). -/
def State.due (s : State) : State := { s with dbg := { s.dbg with pending := s.dbg.pending.union s.dbg.late, late := Hits.none } }

theorem finished_of_report {s u : State} (h : reportBreakpoints s.due = .ok () u) (d : Done) : s.finished d = u.retire d := by
  have hc : complete d s = .ok () (u.retire d) := by
    rw [complete, bind_of_ok (modS_apply ..)]
    exact (bind_of_ok h).trans rfl
  rw [complete_ok] at hc
  exact (EStateM.Result.ok.inj hc).2

theorem reportable_iff (d : Debug) : d.reportable = true ↔ ∃ k, d.matched.get k = true ∧ d.enabled k = true := by
  simp only [Debug.reportable, Bool.or_eq_true, Bool.and_eq_true]
  constructor
  · rintro (((h | h) | h) | h)
    · exact ⟨0, h⟩
    · exact ⟨1, h⟩
    · exact ⟨2, h⟩
    · exact ⟨3, h⟩
  · rintro ⟨k, h⟩
    fin_cases k
    · exact .inl (.inl (.inl h))
    · exact .inl (.inl (.inr h))
    · exact .inl (.inr h)
    · exact .inr h

/-- With none enabled among them the matches are only remembered (R676; log entry 23). -/
theorem reportBreakpoints_silent {s : State} (h : s.dbg.reportable = false) :
    reportBreakpoints s = .ok () { s with dbg := { s.dbg with seen := s.dbg.matched } } := by
  rw [reportBreakpoints, bind_of_ok (getS_apply s), h, if_neg Bool.false_ne_true, modS_apply]

/-- The matches pending at once. -/
def State.reporting (s : State) : State := { s with dbg := { s.dbg with pending := s.dbg.pending.union s.dbg.matched } }

/-- A report comes at once, which LE and GE make sure of, or one instruction late, or never (R673; log entry 25). -/
theorem reportBreakpoints_reports {s : State} (h : s.dbg.reportable = true) : ∃ k : Nat,
    reportBreakpoints s = .ok () (s.reporting.drawn k) ∨
    s.dbg.dr7.extractLsb' 8 2 = 0#2 ∧ (reportBreakpoints s = .ok () { s.drawn k with dbg := { s.dbg with late := s.dbg.matched } } ∨
      reportBreakpoints s = .ok () (s.drawn k)) := by
  rw [reportBreakpoints, bind_of_ok (getS_apply s), if_pos h]
  split
  case isTrue => exact ⟨s.draws, .inl rfl⟩
  case isFalse hexact =>
    have hbits : s.dbg.dr7.extractLsb' 8 2 = 0#2 := by
      rw [Bool.or_eq_true, not_or, Bool.not_eq_true, Bool.not_eq_true] at hexact
      obtain ⟨h8, h9⟩ := hexact
      apply BitVec.eq_of_getLsbD_eq
      intro i hi
      rw [BitVec.getLsbD_extractLsb']
      interval_cases i
      · simpa using h8
      · simpa using h9
    refine ⟨s.draws + 2, ?_⟩
    rw [bind_of_ok (drawBool_apply _), bind_of_ok (drawBool_apply _)]
    split
    case isTrue => exact .inl rfl
    case isFalse =>
      refine .inr ⟨hbits, ?_⟩
      split
      case isTrue => exact .inl rfl
      case isFalse => exact .inr rfl

/-! ## BD -/

theorem or_swap (a b c : BitVec 32) : a ||| b ||| c = a ||| c ||| b := by
  rw [BitVec.or_assoc, BitVec.or_comm b, ← BitVec.or_assoc]

/-- The emulator's use of the debug registers is a debug fault that reports what was pending too (R676, R683). -/
theorem generalDetect_used {s : State} (h : s.plat.iceInUse = true) : generalDetect s = .error (.exc ⟨vDB, .none⟩)
    { s with dbg := { s.dbg with
      dr6 := s.dbg.dr6 ||| 0x2000#32 ||| dr6Image s.dbg.pending s.dbg.pendingBS s.dbg.pendingBT,
      pending := Hits.none, pendingBS := false, pendingBT := false, seen := Hits.none } } := by
  rw [generalDetect, bind_of_ok (getS_apply s), if_pos h, bind_of_ok (modS_apply ..), raise_apply, report_eq, or_swap _ 0x2000#32]

/-- Settles O51. -/
theorem debugExceptions : Obligations.DebugExceptions := by
  refine ⟨fun s r off n w hg hm hl hn hdef hok => ?access, fun s d => ?completes, fun s r k hl h0 hi h4 h5 => ?ice⟩
  case access =>
    have hs := settled_of_defined hdef
    refine ⟨_, locate_noting hg hm hl hs hok, fun k => ?_⟩
    rw [get_noted, Bool.or_eq_true]
    exact or_congr Iff.rfl (hits_iff s.dbg _ w k hn)
  case completes =>
    intro t due reportable
    have hdue (k : Fin 4) : s.due.dbg.pending.get k = due k := Hits.get_union ..
    by_cases hrep : s.dbg.reportable = true
    case neg =>
      have hno : ¬ reportable := mt (reportable_iff _).2 hrep
      rw [show t = _ from finished_of_report (reportBreakpoints_silent (s := s.due) (Bool.eq_false_iff.2 hrep)) d]
      exact ⟨rfl, rfl, rfl, fun _ => ⟨hdue, rfl, rfl⟩, fun h => absurd h hno⟩
    case pos =>
      have hyes : reportable := (reportable_iff _).1 hrep
      have hnow (k : Fin 4) : s.due.reporting.dbg.pending.get k = (due k || s.dbg.matched.get k) := by
        rw [← hdue]
        exact Hits.get_union ..
      obtain ⟨k, h | ⟨hexact, h | h⟩⟩ := reportBreakpoints_reports (s := s.due) hrep
      · rw [show t = _ from finished_of_report h d]
        exact ⟨rfl, rfl, rfl, fun hno => absurd hyes hno, fun _ => ⟨rfl, .inl ⟨hnow, rfl⟩⟩⟩
      · rw [show t = _ from finished_of_report h d]
        exact ⟨rfl, rfl, rfl, fun hno => absurd hyes hno, fun _ => ⟨rfl, .inr ⟨hexact, hdue, .inl rfl⟩⟩⟩
      · rw [show t = _ from finished_of_report h d]
        exact ⟨rfl, rfl, rfl, fun hno => absurd hyes hno, fun _ => ⟨rfl, .inr ⟨hexact, hdue, .inr rfl⟩⟩⟩
  case ice =>
    have hcheck := (debugCheck_of_exists h0 h4 h5).trans (generalDetect_used hi)
    exact ⟨run_of_error hl (bind_of_error hcheck), run_of_error hl (bind_of_error hcheck)⟩

end Sys2Proof.Machine
end

section
/-! What an instruction boundary services, and in which order (60_exceptions.md R601, R625; 61_debug_coproc_multiproc.md R671, R676, R677). -/
namespace Sys2Proof.Machine

/-! ## DR6 -/

theorem ite_or_bits (a b : Bool) (v : BitVec 32) :
    (if (a || b) = true then v else 0#32) = (if a = true then v else 0#32) ||| (if b = true then v else 0#32) := by
  cases a <;> cases b <;> simp

/-- Conditions reported together set the bits of each (R676). -/
theorem dr6Image_union (a b : Hits) (bs bt : Bool) : dr6Image (a.union b) bs bt = dr6Image a bs bt ||| dr6Image b false false := by
  obtain ⟨a0, a1, a2, a3⟩ := a
  obtain ⟨b0, b1, b2, b3⟩ := b
  change dr6Image ⟨a0 || b0, a1 || b1, a2 || b2, a3 || b3⟩ bs bt = _
  simp only [dr6Image, ite_or_bits, Bool.false_eq_true, if_false, BitVec.or_zero]
  ac_rfl

/-! ## Instruction breakpoints -/

/-- Whether an enabled condition is among some (R671). -/
def Hits.anyEnabled (h : Hits) (d : Debug) : Bool :=
  (h.b0 && d.enabled 0) || (h.b1 && d.enabled 1) || (h.b2 && d.enabled 2) || (h.b3 && d.enabled 3)

theorem Hits.anyEnabled_iff (h : Hits) (d : Debug) : h.anyEnabled d = true ↔ ∃ k, h.get k = true ∧ d.enabled k = true :=
  reportable_iff { d with matched := h }

theorem trapPending_iff (d : Debug) : d.trapPending = true ↔
    (∃ k, d.pending.get k = true) ∨ d.pendingBS = true ∨ d.pendingBT = true := by
  have hp : d.pending.isNone = false ↔ ∃ k, d.pending.get k = true := by
    simp only [Hits.isNone, Bool.not_eq_false', Bool.or_eq_true]
    constructor
    · rintro (((h | h) | h) | h)
      · exact ⟨0, h⟩
      · exact ⟨1, h⟩
      · exact ⟨2, h⟩
      · exact ⟨3, h⟩
    · rintro ⟨k, h⟩
      fin_cases k
      · exact .inl (.inl (.inl h))
      · exact .inl (.inl (.inr h))
      · exact .inl (.inr h)
      · exact .inr h
  rw [Debug.trapPending, Bool.or_eq_true, Bool.or_eq_true, Bool.not_eq_true', hp, or_assoc]

/-- The conditions set for the start of the instruction to come, where such conditions are looked at (R671). -/
def State.meets (s : State) (h : Hits) : Prop := ∀ k : Fin 4, h.get k = true ↔ s.flags.RF = false ∧ s.run ≠ .halted ∧
  s.dbg.rw k = 0#2 ∧ s.dbg.len k = 0#2 ∧ s.dbg.addr k = s.seg.cs.base + s.eip

section
variable {s : State} {h : Hits} (hs : s.dbg.settled) (hm : s.meets h)
include hs hm

theorem instrHit_of_settled (hrf : s.flags.RF = false) (hrun : s.run ≠ .halted) (k : Fin 4) : instrHit k s = .ok (h.get k) s := by
  rw [instrHit, bind_of_ok (getS_apply s)]
  cases hu : undefinedSetting (s.dbg.rw k) (s.dbg.len k)
  case true =>
    have hoff : s.dbg.enabled k = false := Bool.eq_false_iff.2 fun h => Bool.false_ne_true ((hs k h).symm.trans hu)
    have hno : h.get k = false := by
      refine Bool.eq_false_iff.2 fun hk => ?_
      obtain ⟨-, -, hrw, hlen, -⟩ := (hm k).1 hk
      rw [hrw, hlen] at hu
      exact absurd hu (by decide)
    rw [if_pos rfl, hoff, if_neg Bool.false_ne_true, hno]
    rfl
  case false =>
    have hk : (s.dbg.rw k == 0#2 && s.dbg.addr k == s.codeAddr) = h.get k := by
      rw [Bool.eq_iff_iff, hm k, Bool.and_eq_true, beq_iff_eq, beq_iff_eq]
      have hlen : s.dbg.rw k = 0#2 → s.dbg.len k = 0#2 := by
        intro hrw
        rw [hrw] at hu
        revert hu
        generalize s.dbg.len k = l
        revert l
        decide
      exact ⟨fun ⟨hrw, ha⟩ => ⟨hrf, hrun, hrw, hlen hrw, ha⟩, fun ⟨_, _, hrw, _, ha⟩ => ⟨hrw, ha⟩⟩
    rw [if_neg Bool.false_ne_true, hk, pure_apply]

theorem instrBreakpoints_of_settled : instrBreakpoints s = .ok (h, h.anyEnabled s.dbg) s := by
  rw [instrBreakpoints, bind_of_ok (getS_apply s)]
  by_cases hlook : s.flags.RF = false ∧ s.run ≠ .halted
  case pos =>
    have hhit := instrHit_of_settled hs hm hlook.1 hlook.2
    rw [if_pos (by simp [hlook.1, hlook.2]), bind_of_ok (hhit 0), bind_of_ok (hhit 1), bind_of_ok (hhit 2), bind_of_ok (hhit 3)]
    rfl
  case neg =>
    have hnone : h = Hits.none := Hits.ext_get fun k => by
      have hk : h.get k = false := Bool.eq_false_iff.2 fun hk => hlook ⟨((hm k).1 hk).1, ((hm k).1 hk).2.1⟩
      rw [hk]
      fin_cases k <;> rfl
    rw [if_neg fun hc => hlook (by simpa using hc), hnone]
    rfl

end

/-! ## The events, first to last -/

/-- In the shadow of a load of SS nothing is serviced, and what is pending is dropped (R625; log entry 40). -/
theorem boundaryEvent_shadowed {s : State} (h : s.ssShadow = true) : boundaryEvent s = .ok none { s with dbg := { s.dbg with
    pending := Hits.none, pendingBS := false, pendingBT := false, seen := Hits.none } } := by
  rw [boundaryEvent, bind_of_ok (getS_apply s), if_pos h]
  rfl

section
variable {s : State} {h : Hits} {fault : Bool} (hss : s.ssShadow = false) (hb : instrBreakpoints s = .ok (h, fault) s)
include hss hb

theorem boundaryEvent_debug (ht : (s.dbg.trapPending || fault) = true) : boundaryEvent s =
    .ok (some ⟨vDB, .exception, .none, s.eip, fault⟩)
      { s with dbg := s.dbg.report ((s.dbg.pending.union s.dbg.seen).union h) s.dbg.pendingBS s.dbg.pendingBT } := by
  rw [boundaryEvent, bind_of_ok (getS_apply s), if_neg (Bool.eq_false_iff.1 hss), bind_of_ok hb]
  change (if (s.dbg.trapPending || fault) = true then _ else _ : M (Option Event)) s = _
  rw [if_pos ht]
  rfl

variable (ht : (s.dbg.trapPending || fault) = false)
include ht

/-- Without a debug exception a latched NMI comes next, while none is in service (R601). -/
theorem boundaryEvent_nmi (hn : (s.nmiPending && !s.nmiInService) = true) : boundaryEvent s =
    .ok (some ⟨vNMI, .nmi, .none, s.eip, false⟩) { s with nmiPending := false, dbg := { s.dbg with seen := Hits.none } } := by
  rw [boundaryEvent, bind_of_ok (getS_apply s), if_neg (Bool.eq_false_iff.1 hss), bind_of_ok hb]
  change (if (s.dbg.trapPending || fault) = true then _ else _ : M (Option Event)) s = _
  rw [ht, if_neg Bool.false_ne_true, if_pos hn]
  rfl

variable (hn : (s.nmiPending && !s.nmiInService) = false)
include hn

/-- Then INTR, acknowledged with LOCK# asserted, where interrupts are enabled (R601; log entries 8, 29). -/
theorem boundaryEvent_intr {v : BitVec 8} (hi : (s.flags.IF && !s.stiShadow) = true) (hv : s.pins.intr = some v) : boundaryEvent s =
    .ok (some ⟨v, .external, .none, s.eip, false⟩)
      { s.asserting .acknowledge [] with pins := { s.pins with intr := none }, dbg := { s.dbg with seen := Hits.none } } := by
  rw [boundaryEvent, bind_of_ok (getS_apply s), if_neg (Bool.eq_false_iff.1 hss), bind_of_ok hb]
  change (if (s.dbg.trapPending || fault) = true then _ else _ : M (Option Event)) s = _
  rw [ht, if_neg Bool.false_ne_true, hn, if_neg Bool.false_ne_true, if_pos hi, hv]
  rfl

/-- Then nothing (R601). -/
theorem boundaryEvent_quiet (hi : (s.flags.IF && !s.stiShadow) = false ∨ s.pins.intr = none) : boundaryEvent s = .ok none s := by
  rw [boundaryEvent, bind_of_ok (getS_apply s), if_neg (Bool.eq_false_iff.1 hss), bind_of_ok hb]
  change (if (s.dbg.trapPending || fault) = true then _ else _ : M (Option Event)) s = _
  rw [ht, if_neg Bool.false_ne_true, hn, if_neg Bool.false_ne_true]
  by_cases hen : (s.flags.IF && !s.stiShadow) = true
  case pos =>
    rw [if_pos hen, hi.resolve_left fun h => Bool.false_ne_true (h.symm.trans hen)]
    rfl
  case neg =>
    rw [if_neg hen]
    rfl

end

/-! ## The step -/

theorem step_atBoundary {s : State} (hreset : s.pins.reset = false) (hrun : s.run ≠ .shutdown) (hvm : s.flags.VM = false)
    (hexc : s.pendingExc = none) (hpfx : s.pfx.count = 0) : step s = atBoundary s := by
  simp only [step, stepOnce, hreset, hrun, hvm, hexc, hpfx, Bool.false_eq_true, if_false, if_true]

theorem atBoundary_event {s t : State} {ev : Event} (h : boundaryEvent s.sampleNmi = .ok (some ev) t) :
    atBoundary s = deliver deliverFuel ev t := by
  rw [atBoundary, h]

theorem atBoundary_none {s t : State} (h : boundaryEvent s.sampleNmi = .ok none t) :
    atBoundary s = if t.run = .halted then .next t else fetchAndRun t.beginInstr := by
  rw [atBoundary, h]

/-- Settles O52. -/
theorem eventsAtABoundary : Obligations.EventsAtABoundary := by
  intro s h hreset hrun hvm hexc hpfx hdef hmeets t start trap fault
  have hs : t.dbg.settled := settled_of_defined hdef
  have hm : t.meets h := hmeets
  have hb : instrBreakpoints t = .ok (h, h.anyEnabled t.dbg) t := instrBreakpoints_of_settled hs hm
  rw [step_atBoundary hreset hrun hvm hexc hpfx]
  refine ⟨fun hss => atBoundary_none (boundaryEvent_shadowed (s := t) hss), fun hss => ⟨fun hdue isFault hfault => ?debug,
    fun hnotrap hnofault => ?interrupts⟩⟩
  case debug =>
    have hf : h.anyEnabled t.dbg = isFault := by
      rw [Bool.eq_iff_iff, Hits.anyEnabled_iff, hfault]
    have hany : (t.dbg.trapPending || isFault) = true := by
      rw [Bool.or_eq_true, trapPending_iff, hfault]
      exact hdue
    rw [hf] at hb
    rw [atBoundary_event (boundaryEvent_debug (s := t) hss hb hany), report_eq, dr6Image_union, dr6Image_union, ← BitVec.or_assoc,
      ← BitVec.or_assoc]
    rfl
  case interrupts =>
    have hnone : (t.dbg.trapPending || h.anyEnabled t.dbg) = false := by
      rw [Bool.or_eq_false_iff, Bool.eq_false_iff, Bool.eq_false_iff, ne_eq, ne_eq, trapPending_iff, Hits.anyEnabled_iff]
      exact ⟨hnotrap, hnofault⟩
    refine ⟨fun hp hserv => ?nmi, fun hno => ?rest⟩
    case nmi =>
      exact atBoundary_event (boundaryEvent_nmi (s := t) hss hb hnone (by rw [hp, show t.nmiInService = false from hserv]; rfl))
    case rest =>
      have hn : (t.nmiPending && !t.nmiInService) = false := by
        rcases hno with h | h
        · rw [h, Bool.false_and]
        · rw [show t.nmiInService = true from h, Bool.not_true, Bool.and_false]
      refine ⟨fun v hif hsti hv => ?intr, fun hq => ?quiet⟩
      case intr =>
        have hi : (t.flags.IF && !t.stiShadow) = true := by
          rw [show t.flags.IF = true from hif, show t.stiShadow = false from hsti]
          rfl
        exact atBoundary_event (boundaryEvent_intr (s := t) hss hb hnone hn hi hv)
      case quiet =>
        refine atBoundary_none (boundaryEvent_quiet (s := t) hss hb hnone hn ?_)
        rcases hq with h | h | h
        · exact .inl (by rw [show t.flags.IF = false from h, Bool.false_and])
        · exact .inl (by rw [show t.stiShadow = true from h, Bool.not_true, Bool.and_false])
        · exact .inr h

end Sys2Proof.Machine
end

section
/-! The task switch saves the outgoing state (49_multitasking.md R556 step B). -/
namespace Sys2Proof.Machine

/-! ## Fields stored at ascending offsets -/

/-- The `n` bytes of a TSS at an offset. -/
def fieldAt (base : BitVec 32) (n off : Nat) : Loc := Loc.from (base + BitVec.ofNat 32 off) n

/-- Values stored at offsets `step` apart from `off` on. -/
def State.storeFields (t : State) {w : Nat} (base : BitVec 32) (n step : Nat) : Nat → List (BitVec w) → State
  | _, [] => t
  | off, v :: vs => (t.store (fieldAt base n off) v).storeFields base n step (off + step) vs

theorem touched_storeFields (t : State) {w : Nat} (base : BitVec 32) (n step off : Nat) (vs : List (BitVec w)) :
    Touched t (t.storeFields base n step off vs) := by
  induction vs generalizing t off with
  | nil => exact .refl t
  | cons v vs ih => exact (touched_store ..).trans (ih ..)

theorem not_mem_fieldAt {base a : BitVec 32} {n m off off' : Nat} (hm : m < 2 ^ 32) (h : off + n ≤ off' ∨ off' + m ≤ off)
    (hoff : off + n ≤ 2 ^ 32) (hoff' : off' + m ≤ 2 ^ 32) (ha : a ∈ fieldAt base n off) : a ∉ fieldAt base m off' := by
  rw [fieldAt, Loc.mem_from _ _ _ (by omega)] at ha ⊢
  bv_omega

theorem writeFields_plain {s : State} (hp : s.plain = true) {w : Nat} (base : BitVec 32) (n step off : Nat) (vs : List (BitVec w)) :
    writeFields n step (base + BitVec.ofNat 32 off) vs s = .ok () (s.storeFields base n step off vs) := by
  induction vs generalizing s off with
  | nil => rfl
  | cons v vs ih =>
    rw [writeFields, bind_of_ok (sysWrite_plain hp ..), BitVec.add_assoc, ← BitVec.ofNat_add]
    exact ih (s := s.store _ v) hp (off + step)

section
variable {t : State} {w : Nat} {base : BitVec 32} {n step : Nat}

theorem store_plain (hp : t.plain = true) (l : Loc) (v : BitVec w) : t.store l v = { t with mem := (t.store l v).mem } := by
  obtain ⟨-, -, hm, -⟩ := t.plain_iff.1 hp
  have hb : busWrites t.plat.memMap t.busOut l v.toNat = t.busOut := busWrites_of_no_device (by simp [hm, kindIn]) _ _
  exact congrArg (fun o => { t with mem := (t.store l v).mem, busOut := o }) hb

theorem only_mem_trans {s t u : State} (h : t = { s with mem := t.mem }) (k : u = { t with mem := u.mem }) : u = { s with mem := u.mem } :=
  k.trans (congrArg (fun x : State => { x with mem := u.mem }) h)

theorem storeFields_only_mem (hp : t.plain = true) (off : Nat) (vs : List (BitVec w)) :
    t.storeFields base n step off vs = { t with mem := (t.storeFields base n step off vs).mem } := by
  induction vs generalizing t off with
  | nil => rfl
  | cons v vs ih =>
    exact only_mem_trans (store_plain hp (fieldAt base n off) v) (ih (t := t.store (fieldAt base n off) v) hp (off + step))

theorem wf_storeFields (h : Memory.wf t.mem = true) (off : Nat) (vs : List (BitVec w)) :
    Memory.wf (t.storeFields base n step off vs).mem = true := by
  induction vs generalizing t off with
  | nil => exact h
  | cons v vs ih => exact ih (State.wf_store _ v h) _

theorem byteAt_storeFields {off : Nat} {vs : List (BitVec w)} {a : BitVec 32}
    (h : ∀ i < vs.length, a ∉ fieldAt base n (off + i * step)) : (t.storeFields base n step off vs).byteAt a = t.byteAt a := by
  induction vs generalizing t off with
  | nil => rfl
  | cons v vs ih =>
    have hrest := ih (t := t.store (fieldAt base n off) v) (off := off + step) fun i hi => by
      have hnext := h (i + 1) (Nat.succ_lt_succ hi)
      rwa [Nat.succ_mul, Nat.add_comm (i * step), ← Nat.add_assoc] at hnext
    have hfirst := h 0 (Nat.zero_lt_succ _)
    rw [Nat.zero_mul, Nat.add_zero] at hfirst
    exact hrest.trans (State.byteAt_store_other hfirst)

/-- Each value stored is read back at its place. -/
theorem load_storeFields (hp : t.plain = true) (hwf : Memory.wf t.mem = true) (hn : n ≤ step) (hw : 2 ^ w ≤ 256 ^ n) {off : Nat}
    {vs : List (BitVec w)} (hend : off + vs.length * step ≤ 2 ^ 31) {i : Nat} (hi : i < vs.length) :
    (t.storeFields base n step off vs).load w (fieldAt base n (off + i * step)) = vs[i] := by
  obtain ⟨-, -, hm, -⟩ := t.plain_iff.1 hp
  induction vs generalizing t off i with
  | nil => cases hi
  | cons v vs ih =>
    rw [List.length_cons, Nat.succ_mul] at hend
    cases i with
    | succ i =>
      rw [Nat.succ_mul, Nat.add_comm (i * step), ← Nat.add_assoc]
      exact ih (t := t.store (fieldAt base n off) v) hp (State.wf_store _ v hwf) (by omega) (Nat.lt_of_succ_lt_succ hi) hm
    | zero =>
      have hkeep : ∀ a ∈ fieldAt base n off, ((t.store (fieldAt base n off) v).storeFields base n step (off + step) vs).byteAt a =
          (t.store (fieldAt base n off) v).byteAt a := fun a ha => byteAt_storeFields fun j hj => by
        have hlast : (j + 1) * step ≤ vs.length * step := Nat.mul_le_mul_right step hj
        rw [Nat.succ_mul] at hlast
        exact not_mem_fieldAt (by omega) (by omega) (by omega) (by omega) ha
      have hram : ∀ a ∈ fieldAt base n off, t.kindAt a = .ram := fun a _ => by
        rw [State.kindAt, hm]
        rfl
      rw [Nat.zero_mul, Nat.add_zero, State.storeFields]
      have hmap := (touched_storeFields (t.store (fieldAt base n off) v) base n step (off + step) vs).plat
      rw [State.load_congr (congrArg Platform.memMap hmap) (State.holdsAll_of_empty hm _) hkeep]
      exact State.load_store hwf (Loc.nodup_from _ _ (by omega)) hram (hw.trans_eq (congrArg _ (Loc.length_from _ n).symm))
end

/-! ## The outgoing state -/

/-- The doublewords saved from offset 20H on (R556 step B). -/
def State.savedDwords (s : State) (eip fl : BitVec 32) : List (BitVec 32) :=
  [eip, fl, s.gpr.eax, s.gpr.ecx, s.gpr.edx, s.gpr.ebx, s.gpr.esp, s.gpr.ebp, s.gpr.esi, s.gpr.edi]

/-- The selectors saved from offset 48H on (R556 step B). -/
def State.savedSels (s : State) : List (BitVec 16) :=
  [s.seg.es.sel, s.seg.cs.sel, s.seg.ss.sel, s.seg.ds.sel, s.seg.fs.sel, s.seg.gs.sel]

/-- A state with its registers saved in a TSS. -/
def State.taskSaved (s : State) (base eip fl : BitVec 32) : State :=
  (s.storeFields base 4 4 0x20 (s.savedDwords eip fl)).storeFields base 2 4 0x48 s.savedSels

section
variable {s : State} (base eip fl : BitVec 32)

theorem saveTask_plain (hp : s.plain = true) : saveTask base eip fl s = .ok () (s.taskSaved base eip fl) := by
  have hdwords := writeFields_plain hp base 4 4 0x20 (s.savedDwords eip fl)
  have hp1 : (s.storeFields base 4 4 0x20 (s.savedDwords eip fl)).plain = true := (touched_storeFields ..).plain.trans hp
  rw [saveTask, bind_of_ok (getS_apply s)]
  exact (bind_of_ok hdwords).trans (writeFields_plain hp1 base 2 4 0x48 s.savedSels)

theorem taskSaved_only_mem (hp : s.plain = true) : s.taskSaved base eip fl = { s with mem := (s.taskSaved base eip fl).mem } :=
  only_mem_trans (storeFields_only_mem hp _ _) (storeFields_only_mem ((touched_storeFields ..).plain.trans hp) _ _)

theorem taskSaved_dword (hp : s.plain = true) (hwf : Memory.wf s.mem = true) {i : Nat} (hi : i < (s.savedDwords eip fl).length) :
    (s.taskSaved base eip fl).load 32 (fieldAt base 4 (0x20 + i * 4)) = (s.savedDwords eip fl)[i] := by
  obtain ⟨-, -, hm, -⟩ := s.plain_iff.1 hp
  have ht := touched_storeFields s base 4 4 0x20 (s.savedDwords eip fl)
  have hkeep : ∀ a ∈ fieldAt base 4 (0x20 + i * 4), (s.taskSaved base eip fl).byteAt a =
      (s.storeFields base 4 4 0x20 (s.savedDwords eip fl)).byteAt a := fun a ha => byteAt_storeFields fun j hj =>
    have hi10 : i < 10 := hi
    have hj6 : j < 6 := hj
    not_mem_fieldAt (by decide) (by omega) (by omega) (by omega) ha
  rw [State.taskSaved, State.load_congr (congrArg Platform.memMap (touched_storeFields _ base 2 4 0x48 s.savedSels).plat)
    (State.holdsAll_of_empty ((congrArg Platform.memMap ht.plat).trans hm) _) hkeep]
  exact load_storeFields hp hwf (Nat.le_refl 4) (by decide) (show 0x20 + 10 * 4 ≤ 2 ^ 31 by decide) hi

theorem taskSaved_sel (hp : s.plain = true) (hwf : Memory.wf s.mem = true) {i : Nat} (hi : i < s.savedSels.length) :
    (s.taskSaved base eip fl).load 16 (fieldAt base 2 (0x48 + i * 4)) = s.savedSels[i] :=
  load_storeFields ((touched_storeFields ..).plain.trans hp) (wf_storeFields hwf _ _) (by decide) (by decide)
    (show 0x48 + 6 * 4 ≤ 2 ^ 31 by decide) hi

/-- Saving writes the ten doublewords and the six selectors, and no byte between the selectors. -/
theorem sameBytes_taskSaved : s.sameBytes (s.taskSaved base eip fl) (Loc.from (base + 0x20#32) 40 ++
    [0x48#32, 0x4C#32, 0x50#32, 0x54#32, 0x58#32, 0x5C#32].flatMap fun k => Loc.from (base + k) 2) := by
  intro a ha
  rw [List.mem_append, not_or] at ha
  obtain ⟨hdwords, hsels⟩ := ha
  have hsel : ∀ i < 6, a ∉ fieldAt base 2 (0x48 + i * 4) := fun i hi hmem => hsels (List.mem_flatMap.2
    ⟨BitVec.ofNat 32 (0x48 + i * 4), by interval_cases i <;> decide, hmem⟩)
  have hdword : ∀ i < 10, a ∉ fieldAt base 4 (0x20 + i * 4) := fun i hi hmem => by
    rw [Loc.mem_from _ _ _ (by decide)] at hdwords
    rw [fieldAt, Loc.mem_from _ _ _ (by decide)] at hmem
    bv_omega
  exact (byteAt_storeFields (vs := s.savedSels) hsel).trans (byteAt_storeFields (vs := s.savedDwords eip fl) hdword)

end

end Sys2Proof.Machine
end

section
/-! The task switch commits (49_multitasking.md R556 step C, R560). -/
namespace Sys2Proof.Machine

theorem Touched.gdtr {s t : State} (h : Touched s t) : t.gdtr = s.gdtr := by
  obtain ⟨_, _, _, _, _, _, _, rfl⟩ := h
  rfl

theorem Touched.tr {s t : State} (h : Touched s t) : t.tr = s.tr := by
  obtain ⟨_, _, _, _, _, _, _, rfl⟩ := h
  rfl

theorem touches_writeFields {w : Nat} (n step : Nat) (la : BitVec 32) (vs : List (BitVec w)) : Touches (writeFields n step la vs) := by
  induction vs generalizing la with
  | nil => exact touches_pure ()
  | cons v vs ih => exact touches_bind (touches_sysWrite _ _ _) fun _ => ih _

theorem touches_saveTask (base eip fl : BitVec 32) : Touches (saveTask base eip fl) :=
  touches_bind touches_getS fun _ => touches_bind (touches_writeFields _ _ _ _) fun _ => touches_writeFields _ _ _ _

/-- The second doubleword of the TSS descriptor at `la` with bits set and cleared, LOCK# asserted (R560; 20_memory.md R151). -/
def State.withBusy (t : State) (la set clear : BitVec 32) : State :=
  { t.store (Loc.from la 4) ((t.phys32 la &&& ~~~ clear) ||| set) with lockOut := ⟨.busyBit, Loc.from la 4⟩ :: t.lockOut }

/-- The busy bits as a switch for cause `c` leaves them, from the doubleword of the outgoing task to that of the incoming one. -/
def State.busyMoved (u : State) (c : SwitchCause) (oldHi newHi : BitVec 32) : State :=
  let u1 := if c = .jmp ∨ c = .iret then u.withBusy oldHi 0#32 0x200#32 else u
  if c = .iret then u1 else u1.withBusy newHi 0x200#32 0#32

theorem touched_withBusy (t : State) (la set clear : BitVec 32) : Touched t (t.withBusy la set clear) := ⟨_, _, _, _, _, _, _, rfl⟩

theorem touched_busyMoved (u : State) (c : SwitchCause) (oldHi newHi : BitVec 32) : Touched u (u.busyMoved c oldHi newHi) := by
  cases c
  case jmp => exact (touched_withBusy ..).trans (touched_withBusy ..)
  case call => exact touched_withBusy ..
  case iret => exact touched_withBusy ..
  case int => exact touched_withBusy ..

theorem writeBusy_clear (t : State) (la b : BitVec 32) :
    writeBusy (Loc.from la 4) (fun h => h &&& ~~~ b) t = .ok () (t.withBusy la 0#32 b) := by
  rw [State.withBusy, BitVec.or_zero]
  rfl

theorem writeBusy_set (t : State) (la b : BitVec 32) :
    writeBusy (Loc.from la 4) (fun h => h ||| b) t = .ok () (t.withBusy la b 0#32) := by
  rw [State.withBusy, BitVec.not_zero, BitVec.and_allOnes]
  rfl

theorem resolveIf_plain {s : State} (hp : s.plain = true) (c : Bool) (la : BitVec 32) (n : Nat) :
    resolveIf c la n s = .ok (if c then Loc.from la n else []) s := by
  cases c
  · rfl
  · exact resolve_plain hp ..

/-- Steps D, E and F of a switch, whose exceptions belong to the incoming task (R556). -/
def enterTask (c : SwitchCause) (nb : BitVec 32) (ext : Bool) : M Unit := inNewTask do
  loadTask c nb
  switchSegments ext
  modS fun s => { s with queue := [], ssShadow := false, stiShadow := false }

/-- TR names the new TSS, and TS is set (R560). -/
def State.inTss (v : State) (c : SwitchCause) (nsel : BitVec 16) (nd : Desc) : State :=
  { v with tr := ⟨nsel, nd.base, nd.limit, true⟩, cr0 := { v.cr0 with TS := true },
           nmiInService := v.nmiInService && c != .iret }

/-- The back link of a switch that nests (R560). -/
def State.linked (w : State) (c : SwitchCause) (nb : BitVec 32) (sel : BitVec 16) : State :=
  if c = .call ∨ c = .int then w.store (Loc.from nb 2) sel else w

/-- The state a switch commits: busy bits, TR, TS and the back link (R560). -/
def State.committed (u : State) (c : SwitchCause) (nsel : BitVec 16) (nd : Desc) : State :=
  ((u.busyMoved c (u.gdtr.base + BitVec.ofNat 32 ((indexOf u.tr.sel).toNat * 8 + 4)) (nd.at_ + 4#32)).inTss c nsel nd).linked c
    nd.base u.tr.sel

/-- What is committed, from the outgoing state. -/
theorem committed_eq {s u : State} (ht : Touched s u) (c : SwitchCause) (nsel : BitVec 16) (nd : Desc) :
    u.committed c nsel nd = State.linked { u.busyMoved c (s.gdtr.base + BitVec.ofNat 32 ((indexOf s.tr.sel).toNat * 8 + 4)) (nd.at_ + 4#32) with
      tr := ⟨nsel, nd.base, nd.limit, true⟩, cr0 := { s.cr0 with TS := true },
      nmiInService := s.nmiInService && decide (c ≠ .iret) } c nd.base s.tr.sel := by
  have hbusy := ht.trans (touched_busyMoved u c (s.gdtr.base + BitVec.ofNat 32 ((indexOf s.tr.sel).toNat * 8 + 4)) (nd.at_ + 4#32))
  have hne : (c != .iret) = decide (c ≠ .iret) := by cases c <;> rfl
  rw [State.committed, ht.gdtr, ht.tr, State.inTss, hbusy.cr0, hbusy.nmiInService, hne]

/-- The outgoing busy bit (R560). -/
def clearOldBusy (c : SwitchCause) (l : Loc) : M Unit := if c.leaves then writeBusy l fun h => h &&& ~~~ 0x200#32 else pure ()

/-- The incoming busy bit (R560). -/
def setNewBusy (c : SwitchCause) (l : Loc) : M Unit := if c = .iret then pure () else writeBusy l fun h => h ||| 0x200#32

/-- The back link (R560). -/
def writeLink (c : SwitchCause) (l : Loc) (sel : BitVec 16) : M Unit := if c.nests then storeLoc l sel else pure ()

theorem taskSwitchCore_eq (c : SwitchCause) (nsel : BitVec 16) (nd : Desc) (ext : Bool) (e : BitVec 32) (f : Eflags) :
    taskSwitchCore c nsel nd ext e f = (do
      require (decide (103 ≤ nd.limit.toNat)) vTS (selCode nsel ext)
      let s ← getS
      saveTask s.tr.base e (if c = .iret then { f with NT := false } else f).toBits
      let oldHi ← resolveIf c.leaves (s.gdtr.base + BitVec.ofNat 32 ((indexOf s.tr.sel).toNat * 8 + 4)) 4
      let newHi ← resolveIf (c != .iret) (nd.at_ + 4#32) 4
      let link ← resolveIf c.nests nd.base 2
      clearOldBusy c oldHi
      setNewBusy c newHi
      modS fun s => s.inTss c nsel nd
      writeLink c link s.tr.sel
      enterTask c nd.base ext) := by
  rw [taskSwitchCore]
  refine bind_congr fun _ => bind_congr fun s => bind_congr fun _ => bind_congr fun oldHi => bind_congr fun newHi => bind_congr fun link => ?_
  cases c <;> rfl

theorem clearOldBusy_plain (c : SwitchCause) (la : BitVec 32) (u : State) :
    clearOldBusy c (if c.leaves then Loc.from la 4 else []) u =
      .ok () (if c = .jmp ∨ c = .iret then u.withBusy la 0#32 0x200#32 else u) := by
  cases c
  case jmp => exact writeBusy_clear u la _
  case iret => exact writeBusy_clear u la _
  all_goals rfl

theorem setNewBusy_plain (c : SwitchCause) (la : BitVec 32) (u : State) :
    setNewBusy c (if c != .iret then Loc.from la 4 else []) u = .ok () (if c = .iret then u else u.withBusy la 0x200#32 0#32) := by
  cases c
  case iret => rfl
  all_goals exact writeBusy_set u la _

theorem writeLink_plain (c : SwitchCause) (nb : BitVec 32) (sel : BitVec 16) (u : State) :
    writeLink c (if c.nests then Loc.from nb 2 else []) sel u = .ok () (u.linked c nb sel) := by
  cases c <;> rfl

/-- A switch commits once the registers are saved; only the incoming task is left to enter (R556, R560). -/
theorem taskSwitchCore_commits {c : SwitchCause} {nsel : BitVec 16} {nd : Desc} {ext : Bool} {e : BitVec 32} {f : Eflags} {s u : State}
    (hp : s.plain = true) (hlim : 103 ≤ nd.limit.toNat)
    (hsave : saveTask s.tr.base e (if c = .iret then { f with NT := false } else f).toBits s = .ok () u) :
    taskSwitchCore c nsel nd ext e f s = enterTask c nd.base ext (u.committed c nsel nd) := by
  have ht : Touched s u := (touches_saveTask _ _ _).ok hsave
  have hpu : u.plain = true := ht.plain.trans hp
  rw [taskSwitchCore_eq, require_bind, if_pos (decide_eq_true hlim), bind_of_ok (getS_apply s), bind_of_ok hsave,
    bind_of_ok (resolveIf_plain hpu ..), bind_of_ok (resolveIf_plain hpu ..), bind_of_ok (resolveIf_plain hpu ..), ← ht.gdtr, ← ht.tr,
    bind_of_ok (clearOldBusy_plain ..), bind_of_ok (setNewBusy_plain ..), bind_of_ok (modS_apply ..), bind_of_ok (writeLink_plain ..)]
  rfl

end Sys2Proof.Machine
end

section
/-! The task switch loads the incoming state (49_multitasking.md R556 step D). -/
namespace Sys2Proof.Machine

/-! ## The parts of step D -/

/-- CR3 of the incoming task, with paging on (R556). -/
def loadCr3 (nb : BitVec 32) : M Unit := do
  let s ← getS
  if s.cr0.PG then do
    let c ← sysRead (nb + 0x1C#32) 4 32
    modS fun s => { s with cr3 := c.extractLsb' 12 20 }.flushTlb
  else pure ()

/-- The general registers of the incoming TSS. -/
def loadGprs (nb : BitVec 32) : M Unit := do
  loadGpr nb 0x28 .ax
  loadGpr nb 0x2C .cx
  loadGpr nb 0x30 .dx
  loadGpr nb 0x34 .bx
  loadGpr nb 0x38 .sp
  loadGpr nb 0x3C .bp
  loadGpr nb 0x40 .si
  loadGpr nb 0x44 .di

/-- The selectors of the incoming TSS, but that of the LDT. -/
def loadSels (nb : BitVec 32) : M Unit := do
  loadTssSel nb 0x48 .es
  loadTssSel nb 0x4C .cs
  loadTssSel nb 0x50 .ss
  loadTssSel nb 0x54 .ds
  loadTssSel nb 0x58 .fs
  loadTssSel nb 0x5C .gs

/-- EFLAGS of the incoming task, from its image (R556, R561). -/
def SwitchCause.flags (c : SwitchCause) (fl : Eflags) : Eflags :=
  { fl with NT := if c.nests then true else if c = .jmp then false else fl.NT }

theorem readTask_eq (c : SwitchCause) (nb : BitVec 32) : readTask c nb = (do
    let u ← draw 32
    modS fun s => { s with eip := u, eipNext := u, pastEnd := false }
    loadCr3 nb
    let ldt ← sysRead (nb + 0x60#32) 2 16
    let e ← sysRead (nb + 0x20#32) 4 32
    modS fun s => { s with eip := e, eipNext := e }
    let f ← sysRead (nb + 0x24#32) 4 32
    modS fun s => { s with flags := c.flags (Eflags.ofBits f) }
    loadGprs nb
    loadSels nb
    modS fun s =>
      { s with ldtr := { s.ldtr with sel := ldt, valid := false }, cpl := rplOf s.seg.cs.sel,
               dbg := { s.dbg with dr7 := s.dbg.dr7 &&& ~~~ 0x155#32 }, a31High := false }
    if (Eflags.ofBits f).VM then halt (.refuse .virtual8086) else pure ()) := by
  simp only [readTask, loadCr3, loadGprs, loadSels, bind_assoc]
  refine bind_congr fun u => bind_congr fun _ => bind_congr fun s => ?_
  split
  · rw [bind_assoc]
    rfl
  · rw [pure_bind]
    rfl

/-! ## In a plain state -/

theorem loadGpr_plain {s : State} (hp : s.plain = true) (nb : BitVec 32) (off : Nat) (r : Reg) :
    loadGpr nb off r s = .ok () { s with gpr := s.gpr.set r (s.phys32 (nb + BitVec.ofNat 32 off)) } := by
  rw [loadGpr, bind_of_ok (sysRead_plain hp ..)]
  rfl

theorem phys32_gpr (s : State) (g : Gpr) (a : BitVec 32) : State.phys32 { s with gpr := g } a = s.phys32 a := rfl

theorem loadTssSel_plain {s : State} (hp : s.plain = true) (nb : BitVec 32) (off : Nat) (r : SReg) :
    loadTssSel nb off r s =
      .ok () { s with seg := s.seg.set r ((s.seg.get r).nulled (s.load 16 (Loc.from (nb + BitVec.ofNat 32 off) 2))) } := by
  rw [loadTssSel, bind_of_ok (sysRead_plain hp ..)]
  rfl

/-- The general registers a TSS holds. -/
def State.tssGpr (s : State) (nb : BitVec 32) : Gpr :=
  ⟨s.phys32 (nb + 0x28#32), s.phys32 (nb + 0x2C#32), s.phys32 (nb + 0x30#32), s.phys32 (nb + 0x34#32),
   s.phys32 (nb + 0x38#32), s.phys32 (nb + 0x3C#32), s.phys32 (nb + 0x40#32), s.phys32 (nb + 0x44#32)⟩

/-- A selector a TSS holds. -/
def State.tssSel (s : State) (nb off : BitVec 32) : BitVec 16 := s.load 16 (Loc.from (nb + off) 2)

/-- The segment registers with the selectors of a TSS and no valid hidden part. -/
def State.tssSegs (s : State) (nb : BitVec 32) : Segs :=
  { s.seg with
    es := s.seg.es.nulled (s.tssSel nb 0x48#32), cs := s.seg.cs.nulled (s.tssSel nb 0x4C#32)
    ss := s.seg.ss.nulled (s.tssSel nb 0x50#32), ds := s.seg.ds.nulled (s.tssSel nb 0x54#32)
    fs := s.seg.fs.nulled (s.tssSel nb 0x58#32), gs := s.seg.gs.nulled (s.tssSel nb 0x5C#32) }

theorem loadGprs_plain {s : State} (hp : s.plain = true) (nb : BitVec 32) :
    loadGprs nb s = .ok () { s with gpr := s.tssGpr nb } := by
  rw [loadGprs, bind_of_ok (loadGpr_plain hp ..), bind_of_ok (loadGpr_plain (by exact hp) ..), bind_of_ok (loadGpr_plain (by exact hp) ..),
    bind_of_ok (loadGpr_plain (by exact hp) ..), bind_of_ok (loadGpr_plain (by exact hp) ..), bind_of_ok (loadGpr_plain (by exact hp) ..),
    bind_of_ok (loadGpr_plain (by exact hp) ..), loadGpr_plain (by exact hp)]
  simp only [phys32_gpr]
  rfl

theorem loadSels_plain {s : State} (hp : s.plain = true) (nb : BitVec 32) :
    loadSels nb s = .ok () { s with seg := s.tssSegs nb } := by
  rw [loadSels, bind_of_ok (loadTssSel_plain hp ..), bind_of_ok (loadTssSel_plain (by exact hp) ..),
    bind_of_ok (loadTssSel_plain (by exact hp) ..), bind_of_ok (loadTssSel_plain (by exact hp) ..),
    bind_of_ok (loadTssSel_plain (by exact hp) ..), loadTssSel_plain (by exact hp)]
  rfl

/-- What a plain state holds does not depend on the draws. -/
theorem load_drawn {s : State} (hp : s.plain = true) (n w : Nat) (l : Loc) : (s.drawn n).load w l = s.load w l := by
  obtain ⟨-, -, hm, -⟩ := s.plain_iff.1 hp
  exact State.load_congr (s := s) (t := s.drawn n) rfl (State.holdsAll_of_empty hm l) (fun _ _ => rfl) w

/-- The state step D leaves, with paging off (R556). -/
def State.taskLoaded (s : State) (c : SwitchCause) (nb : BitVec 32) : State :=
  { s with
    gpr := s.tssGpr nb, seg := s.tssSegs nb, eip := s.phys32 (nb + 0x20#32), eipNext := s.phys32 (nb + 0x20#32), pastEnd := false
    flags := c.flags (Eflags.ofBits (s.phys32 (nb + 0x24#32))), ldtr := { s.ldtr with sel := s.tssSel nb 0x60#32, valid := false }
    cpl := rplOf (s.tssSel nb 0x4C#32), dbg := { s.dbg with dr7 := s.dbg.dr7 &&& ~~~ 0x155#32 }, a31High := false }

theorem loadCr3_plain {s : State} (hp : s.plain = true) (nb : BitVec 32) : loadCr3 nb s = .ok () s := by
  obtain ⟨hg, -⟩ := s.plain_iff.1 hp
  rw [loadCr3, bind_of_ok (getS_apply s), hg]
  rfl

theorem loadTask_plain {s : State} (hp : s.plain = true) (c : SwitchCause) (nb : BitVec 32)
    (hvm : (Eflags.ofBits (s.phys32 (nb + 0x24#32))).VM = false) :
    loadTask c nb s = .ok () ((s.drawn (s.draws + 1)).taskLoaded c nb) := by
  have hvm' : (Eflags.ofBits ((s.drawn (s.draws + 1)).phys32 (nb + 0x24#32))).VM = false := by
    rw [State.phys32, load_drawn hp]
    exact hvm
  have hread : readTask c nb s = .ok () ((s.drawn (s.draws + 1)).taskLoaded c nb) := by
    have hdraw : draw 32 s = .ok _ (s.drawn (s.draws + 1)) := rfl
    rw [readTask_eq, bind_of_ok hdraw, bind_of_ok (modS_apply ..), bind_of_ok (loadCr3_plain (by exact hp) nb),
      bind_of_ok (sysRead_plain (by exact hp) ..),
      bind_of_ok (sysRead_plain (by exact hp) ..), bind_of_ok (modS_apply ..), bind_of_ok (sysRead_plain (by exact hp) ..),
      bind_of_ok (modS_apply ..), bind_of_ok (loadGprs_plain (by exact hp) nb), bind_of_ok (loadSels_plain (by exact hp) nb),
      bind_of_ok (modS_apply ..)]
    refine (congrFun (if_neg (Bool.eq_false_iff.1 hvm')) _).trans ?_
    rfl
  rw [loadTask, hread]

end Sys2Proof.Machine
end

section
/-! What a task switch that went through has done, paging or not (49_multitasking.md R551, R556, R557, R559). -/
namespace Sys2Proof.Machine

/-! ## What an answer ensures

`Ensures P x Q` says that `x`, where it answers from a state of `P`, ends in one of `Q`. A view of the state that `x` keeps is a `P` and a
`Q` that fix its value. -/

/-- Every answer of a computation that starts in `P` ends in `Q`. -/
def Ensures (P : State → Prop) {α : Type} (x : M α) (Q : α → State → Prop) : Prop := ∀ s t a, P s → x s = .ok a t → Q a t

/-- The answer of a sequence is that of its second part from where the first ended. -/
theorem bind_ok_inv {α β : Type} {x : M α} {f : α → M β} {s t : State} {b : β} (h : (x >>= f) s = .ok b t) :
    ∃ a u, x s = .ok a u ∧ f a u = .ok b t := by
  rw [bind_apply] at h
  cases hx : x s with
  | ok a u =>
    rw [hx] at h
    exact ⟨a, u, rfl, h⟩
  | error e u =>
    rw [hx] at h
    cases h

section
variable {P : State → Prop} {α β : Type}

theorem Ensures.bind {x : M α} {f : α → M β} {Q : α → State → Prop} {R : β → State → Prop} (hx : Ensures P x Q)
    (hf : ∀ a, Ensures (Q a) (f a) R) : Ensures P (x >>= f) R := by
  intro s t b hs h
  obtain ⟨a, u, hxu, hft⟩ := bind_ok_inv h
  exact hf a u t b (hx s u a hs hxu) hft

/-- A computation that changes only what `Touched` allows, and a predicate it cannot falsify. -/
theorem Ensures.of_touches {x : M α} (hx : Touches x) (hP : ∀ s t, Touched s t → P s → P t) : Ensures P x fun _ => P :=
  fun s t _ hs h => hP s t (hx.ok h) hs

theorem ensures_pure (a : α) : Ensures P (pure a) fun _ => P := fun s t b hs h => by
  cases h
  exact hs

/-- Reading the state, one of `P`. -/
theorem Ensures.get {f : State → M α} {Q : α → State → Prop} (h : ∀ s, P s → Ensures P (f s) Q) : Ensures P (getS >>= f) Q :=
  fun s t a hs ha => h s hs s t a hs ha

/-- A first part that keeps `P`. -/
theorem Ensures.after {x : M α} {f : α → M β} {Q : β → State → Prop} (hx : Ensures P x fun _ => P) (hf : ∀ a, Ensures P (f a) Q) :
    Ensures P (x >>= f) Q := .bind hx hf

/-- What follows a check that passed. -/
theorem Ensures.check {c : Bool} {v : BitVec 8} {e : ErrCode} {f : Unit → M α} {Q : α → State → Prop}
    (h : c = true → Ensures P (f ()) Q) : Ensures P (require c v e >>= f) Q := fun s t a hs ha => by
  rw [require_bind] at ha
  split at ha
  case isTrue hc => exact h hc s t a hs ha
  case isFalse => cases ha

theorem ensures_modS {f : State → State} {Q : State → Prop} (hf : ∀ s, P s → Q (f s)) : Ensures P (modS f) fun _ => Q :=
  fun s t b hs h => by
    cases h
    exact hf s hs

theorem ensures_halt (e : Halt) {Q : α → State → Prop} : Ensures P (halt e : M α) Q := fun s t b hs h => by cases h

theorem Ensures.ite {c : Prop} [Decidable c] {x y : M α} {Q : α → State → Prop} (hx : Ensures P x Q) (hy : Ensures P y Q) :
    Ensures P (if c then x else y) Q := by
  split
  · exact hx
  · exact hy

theorem Ensures.mono {P' : State → Prop} {x : M α} {Q Q' : α → State → Prop} (hx : Ensures P x Q) (hP : ∀ s, P' s → P s)
    (hQ : ∀ a s, Q a s → Q' a s) : Ensures P' x Q' := fun s t a hs h => hQ a t (hx s t a (hP s hs) h)

end

/-! ## Views of the state -/

/-- What only the commit of a switch writes, and the debug control. -/
structure SystemView where
  cr0 : Cr0
  tr : SysSegReg
  gdtr : TableReg
  idtr : TableReg
  dr7 : BitVec 32

/-- The `SystemView` of a state. -/
def State.system (s : State) : SystemView := ⟨s.cr0, s.tr, s.gdtr, s.idtr, s.dbg.dr7⟩

/-- The system registers, where execution goes on, the flags, and the level. -/
structure TaskView where
  system : SystemView
  eip : BitVec 32
  eipNext : BitVec 32
  flags : Eflags
  cpl : BitVec 2
  csSel : BitVec 16

/-- The `TaskView` of a state. -/
def State.task (s : State) : TaskView := ⟨s.system, s.eip, s.eipNext, s.flags, s.cpl, s.seg.cs.sel⟩

theorem Touched.task {s t : State} (h : Touched s t) : t.task = s.task := by
  obtain ⟨_, _, _, _, _, _, _, rfl⟩ := h
  rfl

theorem Touched.system {s t : State} (h : Touched s t) : t.system = s.system := congrArg TaskView.system h.task

/-- The view is `W`. -/
def AtTask (W : TaskView) (s : State) : Prop := s.task = W

/-- The view of the system registers is `V`. -/
def AtSystem (V : SystemView) (s : State) : Prop := s.system = V

theorem Ensures.atTask {α : Type} {x : M α} (hx : Touches x) (W : TaskView) : Ensures (AtTask W) x fun _ => AtTask W :=
  .of_touches hx fun _ _ ht hs => ht.task.trans hs

theorem Ensures.atSystem {α : Type} {x : M α} (hx : Touches x) (V : SystemView) : Ensures (AtSystem V) x fun _ => AtSystem V :=
  .of_touches hx fun _ _ ht hs => ht.system.trans hs

/-! ## Step E -/

section
variable (W : TaskView) (ext : Bool)

theorem ensures_fetchDescOr (x : BitVec 16) (v : BitVec 8) (e : ErrCode) : Ensures (AtTask W) (fetchDescOr x v e) fun _ => AtTask W :=
  .atTask (touches_fetchDescOr _ _ _) W

theorem ensures_putSeg (r : SReg) {g : SegReg} (hr : r = .cs → g.sel = W.csSel) : Ensures (AtTask W) (putSeg r g) fun _ => AtTask W :=
  ensures_modS fun s hs => by
    cases r
    case cs => exact (congrArg (TaskView.mk s.system s.eip s.eipNext s.flags s.cpl) ((hr rfl).trans (congrArg TaskView.csSel hs).symm)).trans hs
    all_goals exact hs

theorem ensures_loadDesc (d : Desc) (x : BitVec 16) (r : SReg) (hr : r = .cs → x = W.csSel) :
    Ensures (AtTask W) (setAccessed d >>= fun _ => putSeg r (d.toSeg x)) fun _ => AtTask W :=
  .after (.atTask (touches_setAccessed d) W) fun _ => ensures_putSeg W r hr

theorem ensures_switchLdt : Ensures (AtTask W) (switchLdt ext) fun _ => AtTask W :=
  .get fun _ _ => .ite (ensures_pure ()) <| .check fun _ => .after (ensures_fetchDescOr W _ _ _) fun _ => .check fun _ =>
    ensures_modS fun _ hs => hs

theorem ensures_switchCs : Ensures (AtTask W) (switchCs ext) fun _ => AtTask W :=
  .get fun _ hs => .check fun _ => .after (ensures_fetchDescOr W _ _ _) fun d => .check fun _ => .check fun _ => .check fun _ =>
    ensures_loadDesc W d _ .cs fun _ => congrArg TaskView.csSel hs

theorem ensures_switchSs : Ensures (AtTask W) (switchSs ext) fun _ => AtTask W :=
  .get fun _ _ => .check fun _ => .after (ensures_fetchDescOr W _ _ _) fun d => .check fun _ => .check fun _ => .check fun _ =>
    ensures_loadDesc W d _ .ss nofun

theorem ensures_switchData {r : SReg} (hr : r ≠ .cs) : Ensures (AtTask W) (switchData ext r) fun _ => AtTask W :=
  .get fun _ _ => .ite (ensures_pure ()) <| .after (ensures_fetchDescOr W _ _ _) fun d =>
    .after (.atTask (touches_bind (touches_require _ _ _) fun _ => touches_bind (touches_require _ _ _) fun _ => touches_require _ _ _) W)
      fun _ => ensures_loadDesc W d _ r fun h => absurd h hr

/-- Step E keeps the view of the task, and its last test holds EIP against the limit of CS (R557). -/
theorem ensures_switchSegments : Ensures (AtTask W) (switchSegments ext) fun _ t => AtTask W t ∧ t.eip.toNat ≤ t.seg.cs.limit.toNat :=
  .after (ensures_switchLdt W ext) fun _ => .after (ensures_switchCs W ext) fun _ => .after (ensures_switchSs W ext) fun _ =>
    .after (ensures_switchData W ext (r := .ds) nofun) fun _ => .after (ensures_switchData W ext (r := .es) nofun) fun _ =>
      .after (ensures_switchData W ext (r := .fs) nofun) fun _ => .after (ensures_switchData W ext (r := .gs) nofun) fun _ => by
        intro s t a hs h
        rw [bind_of_ok (getS_apply s), require_apply] at h
        split at h
        case isTrue hin =>
          cases h
          exact ⟨hs, of_decide_eq_true hin⟩
        case isFalse => cases h

end

/-! ## Step D -/

/-- The task that step D has loaded, for a machine whose system registers were `V` (R556, R559). -/
structure TaskView.Incoming (W : TaskView) (c : SwitchCause) (V : SystemView) : Prop where
  system : W.system = { V with dr7 := V.dr7 &&& ~~~ 0x155#32 }
  eipNext : W.eipNext = W.eip
  cpl : W.cpl = rplOf W.csSel
  vm : W.flags.VM = false
  nests : c.nests = true → W.flags.NT = true
  jmp : c = .jmp → W.flags.NT = false

/-- EIP and the flags are loaded; the registers may be, or not yet. -/
def Loading (V : SystemView) (F : Eflags) (s : State) : Prop := s.task.system = V ∧ s.task.eipNext = s.task.eip ∧ s.task.flags = F

theorem Loading.touched {V : SystemView} {F : Eflags} {s t : State} (ht : Touched s t) (hs : Loading V F s) : Loading V F t := by
  rw [Loading, ht.task]
  exact hs

section
variable (c : SwitchCause) (nb : BitVec 32) (V : SystemView) (F : Eflags)

theorem ensures_loadGpr (off : Nat) (r : Reg) : Ensures (Loading V F) (loadGpr nb off r) fun _ => Loading V F :=
  .after (.of_touches (touches_sysRead _ _ _) fun _ _ => Loading.touched) fun _ => ensures_modS fun _ hs => hs

theorem ensures_loadTssSel (off : Nat) (r : SReg) : Ensures (Loading V F) (loadTssSel nb off r) fun _ => Loading V F :=
  .after (.of_touches (touches_sysRead _ _ _) fun _ _ => Loading.touched) fun _ => ensures_modS fun _ hs => hs

theorem ensures_loadGprs : Ensures (Loading V F) (loadGprs nb) fun _ => Loading V F :=
  have h := ensures_loadGpr nb V F
  .after (h _ _) fun _ => .after (h _ _) fun _ => .after (h _ _) fun _ => .after (h _ _) fun _ => .after (h _ _) fun _ => .after (h _ _) fun _ =>
    .after (h _ _) fun _ => h _ _

theorem ensures_loadSels : Ensures (Loading V F) (loadSels nb) fun _ => Loading V F :=
  have h := ensures_loadTssSel nb V F
  .after (h _ _) fun _ => .after (h _ _) fun _ => .after (h _ _) fun _ => .after (h _ _) fun _ => .after (h _ _) fun _ => h _ _

theorem ensures_loadCr3 : Ensures (AtSystem V) (loadCr3 nb) fun _ => AtSystem V :=
  .get fun _ _ => .ite (.after (.atSystem (touches_sysRead _ _ _) V) fun _ => ensures_modS fun _ hs => hs) (ensures_pure ())

theorem ensures_readTask : Ensures (AtSystem V) (readTask c nb) fun _ t => t.task.Incoming c V := by
  have hread (la : BitVec 32) (n w : Nat) : Ensures (AtSystem V) (sysRead la n w) fun _ => AtSystem V := .atSystem (touches_sysRead _ _ _) V
  rw [readTask_eq]
  refine .after (.atSystem (touches_draw 32) V) fun u => .after (ensures_modS fun _ hs => hs) fun _ => .after (ensures_loadCr3 nb V) fun _ =>
    .after (hread _ _ _) fun ldt => .after (hread _ _ _) fun e => ?_
  refine .bind (Q := fun _ s => AtSystem V s ∧ s.task.eipNext = s.task.eip) (ensures_modS fun _ hs => ⟨hs, rfl⟩) fun _ => ?_
  refine .bind (.of_touches (touches_sysRead _ _ _) fun s t ht hs => ?touched) fun f => ?_
  case touched =>
    rw [AtSystem, ht.system, ht.task]
    exact hs
  refine .bind (Q := fun _ => Loading V (c.flags (Eflags.ofBits f))) (ensures_modS fun _ hs => ⟨hs.1, hs.2, rfl⟩) fun _ => ?_
  refine .after (ensures_loadGprs nb V _) fun _ => .after (ensures_loadSels nb V _) fun _ => ?_
  cases hvm : (Eflags.ofBits f).VM
  case true => exact .bind (ensures_modS (Q := fun _ => True) fun _ _ => trivial) fun _ => ensures_halt _
  case false =>
    refine .bind (Q := fun _ t => t.task.Incoming c V) (ensures_modS fun s hs => ?_) fun _ => ensures_pure ()
    obtain ⟨hsys, hnext, hflags⟩ := hs
    exact {
      system := congrArg (fun W : SystemView => { W with dr7 := W.dr7 &&& ~~~ 0x155#32 }) hsys
      eipNext := hnext
      cpl := rfl
      vm := (congrArg Eflags.VM hflags).trans hvm
      nests := fun hn => (congrArg Eflags.NT hflags).trans (if_pos hn)
      jmp := fun hj => (congrArg Eflags.NT hflags).trans (by subst hj; rfl) }

theorem loadTask_inv {s t : State} {a : Unit} (h : loadTask c nb s = .ok a t) : readTask c nb s = .ok a t := by
  rw [loadTask] at h
  split at h
  case h_1 e s' hx =>
    obtain ⟨b, u, -, hu⟩ := bind_ok_inv h
    cases hu
  case h_2 => exact h
end


/-! ## The whole switch -/

/-- The incoming task is entered: every test has passed and the queue is flushed (R556, R557). -/
structure Entered (c : SwitchCause) (V : SystemView) (t : State) : Prop where
  incoming : t.task.Incoming c V
  inLimit : t.eip.toNat ≤ t.seg.cs.limit.toNat
  queue : t.queue = []
  ssShadow : t.ssShadow = false
  stiShadow : t.stiShadow = false

theorem inNewTask_inv {α : Type} {x : M α} {s t : State} {a : α} (h : inNewTask x s = .ok a t) : x s = .ok a t := by
  rw [inNewTask] at h
  split at h
  · cases h
  · exact h

theorem ensures_enterTask (c : SwitchCause) (nb : BitVec 32) (ext : Bool) (V : SystemView) :
    Ensures (AtSystem V) (enterTask c nb ext) fun _ => Entered c V := by
  have hseq : Ensures (AtSystem V) (do
      loadTask c nb
      switchSegments ext
      modS fun s => { s with queue := [], ssShadow := false, stiShadow := false }) fun _ => Entered c V := by
    refine .bind (Q := fun _ t => t.task.Incoming c V) (fun s t a hs h => ensures_readTask c nb V s t a hs (loadTask_inv c nb h)) fun _ => ?_
    refine .bind (Q := fun _ t => t.task.Incoming c V ∧ t.eip.toNat ≤ t.seg.cs.limit.toNat) (fun s t a hs h => ?_) fun _ =>
      ensures_modS fun t ht => ⟨ht.1, ht.2, rfl, rfl, rfl⟩
    obtain ⟨htask, hin⟩ := ensures_switchSegments s.task ext s t a rfl h
    exact ⟨htask.symm ▸ hs, hin⟩
  exact fun s t a hs h => hseq s t a hs (inNewTask_inv h)

theorem touches_resolveIf (c : Bool) (la : BitVec 32) (n : Nat) : Touches (resolveIf c la n) :=
  touches_if (touches_resolve _ _ _ _) (touches_pure _)

theorem touches_writeBusy (l : Loc) (f : BitVec 32 → BitVec 32) : Touches (writeBusy l f) :=
  touches_bind (touches_loadLoc _ _) fun _ => touches_modS fun _ => ⟨_, _, _, _, _, _, _, rfl⟩

/-- The system registers as a switch commits them (R560). -/
def SystemView.committed (V : SystemView) (nsel : BitVec 16) (nd : Desc) : SystemView :=
  { V with tr := ⟨nsel, nd.base, nd.limit, true⟩, cr0 := { V.cr0 with TS := true } }

/-- A switch that went through entered the incoming task, of a TSS that is long enough (R551, R557). -/
theorem ensures_taskSwitchCore (c : SwitchCause) (nsel : BitVec 16) (nd : Desc) (ext : Bool) (e : BitVec 32) (f : Eflags) (V : SystemView) :
    Ensures (AtSystem V) (taskSwitchCore c nsel nd ext e f) fun _ t => 103 ≤ nd.limit.toNat ∧ Entered c (V.committed nsel nd) t := by
  have hresolve (b : Bool) (la : BitVec 32) (n : Nat) : Ensures (AtSystem V) (resolveIf b la n) fun _ => AtSystem V :=
    .atSystem (touches_resolveIf _ _ _) V
  rw [taskSwitchCore_eq]
  refine .check fun hlim => .get fun s _ => .after (.atSystem (touches_saveTask _ _ _) V) fun _ => .after (hresolve _ _ _) fun _ =>
    .after (hresolve _ _ _) fun _ => .after (hresolve _ _ _) fun _ =>
      .after (.atSystem (touches_if (touches_writeBusy _ _) (touches_pure ())) V) fun _ =>
        .after (.atSystem (touches_if (touches_pure ()) (touches_writeBusy _ _)) V) fun _ => ?_
  refine .bind (Q := fun _ => AtSystem (V.committed nsel nd)) (ensures_modS fun s hs => ?_) fun _ =>
    .after (.atSystem (touches_if (touches_modS fun _ => touched_store ..) (touches_pure ())) _) fun _ =>
      (ensures_enterTask c nd.base ext _).mono (fun _ h => h) fun _ _ h => ⟨of_decide_eq_true hlim, h⟩
  exact congrArg (fun W : SystemView => W.committed nsel nd) hs

end Sys2Proof.Machine
end

section
/-! JMP and CALL to a TSS and through a task gate (49_multitasking.md R554, R555, R559). -/
namespace Sys2Proof.Machine

/-! ## A TSS to be entered -/

/-- What JMP and CALL ask of a descriptor for privilege (R554, R555). -/
def State.trusts (s : State) (sel : BitVec 16) (d : Desc) : Prop := s.cpl.toNat ≤ d.dpl.toNat ∧ (rplOf sel).toNat ≤ d.dpl.toNat

/-- The switch to an available TSS, if it is present (R554, R555). -/
def enterTss (c : SwitchCause) (x : BitVec 16) (e : Desc) : M Unit := do
  require e.p vNP (selCode x false)
  taskSwitch c x e

section
variable {s : State} {c : SwitchCause} {sel : BitVec 16} {d : Desc}

theorem viaTss_refuses (h : tiOf sel = true ∨ ¬ s.trusts sel d ∨ d.isSystem 9#4 = false) :
    viaTss c sel d s = .error (.exc ⟨vGP, selCode sel false⟩) s := by
  rw [viaTss, bind_of_ok (getS_apply s), require_bind, require_bind, require_bind]
  split
  case isFalse => rfl
  case isTrue hti =>
    split
    case isFalse => rfl
    case isTrue htrust =>
      refine if_neg fun hsys => ?_
      rcases h with h | h | h
      · rw [h] at hti
        cases hti
      · exact h ((dataPrivOk_iff ..).1 htrust)
      · rw [h] at hsys
        cases hsys

theorem viaTss_enters (hti : tiOf sel = false) (ht : s.trusts sel d) (hsys : d.isSystem 9#4 = true) :
    viaTss c sel d s = enterTss c sel d s := by
  rw [viaTss, bind_of_ok (getS_apply s), require_bind, hti, Bool.not_false, if_pos rfl, require_bind, if_pos ((dataPrivOk_iff ..).2 ht),
    require_bind, if_pos hsys, enterTss]

theorem viaTaskGate_untrusted (ht : ¬ s.trusts sel d) : viaTaskGate c sel d s = .error (.exc ⟨vGP, selCode sel false⟩) s := by
  rw [viaTaskGate, bind_of_ok (getS_apply s), require_bind, if_neg (mt (dataPrivOk_iff ..).1 ht)]

theorem viaTaskGate_absent (ht : s.trusts sel d) (hpr : d.p = false) :
    viaTaskGate c sel d s = .error (.exc ⟨vNP, selCode sel false⟩) s := by
  rw [viaTaskGate, bind_of_ok (getS_apply s), require_bind, if_pos ((dataPrivOk_iff ..).2 ht), require_bind, hpr, if_neg Bool.false_ne_true]

theorem viaTaskGate_open (ht : s.trusts sel d) (hpr : d.p = true) :
    viaTaskGate c sel d s = (do let e ← gateTss d.gateSel false; taskSwitch c d.gateSel e : M Unit) s := by
  rw [viaTaskGate, bind_of_ok (getS_apply s), require_bind, if_pos ((dataPrivOk_iff ..).2 ht), require_bind, if_pos hpr]

end

/-! ## The selector of a task gate -/

section
variable {s : State} {x : BitVec 16}

theorem gateTss_refuses (h : tiOf x = true ∨ indexOf x = 0#13 ∨ s.entryAddr x = none) :
    gateTss x false s = .error (.exc ⟨vGP, selCode x false⟩) s := by
  rw [gateTss, require_bind]
  split
  case isFalse => rfl
  case isTrue hsel =>
    rw [Bool.and_eq_true, Bool.not_eq_true', bne_iff_ne] at hsel
    obtain ⟨hti, hidx⟩ := hsel
    rcases h with h | h | h
    · rw [h] at hti
      cases hti
    · exact absurd h hidx
    · exact bind_of_error (fetchDescOr_outside h ..)

variable {ta : BitVec 32} (hp : s.plain = true) (hti : tiOf x = false) (hidx : indexOf x ≠ 0#13) (he : s.entryAddr x = some ta)
include hp hti hidx he

theorem gateTss_otherType (h9 : (s.descAt ta).isSystem 9#4 = false) (h1 : (s.descAt ta).isSystem 1#4 = false)
    (h3 : (s.descAt ta).isSystem 3#4 = false) : gateTss x false s = .error (.exc ⟨vGP, selCode x false⟩) s := by
  rw [gateTss, require_bind, hti, Bool.not_false, Bool.true_and, if_pos (bne_iff_ne.2 hidx), bind_of_ok (fetchDescOr_plain hp he ..), h1, h3,
    if_neg (by decide), require_bind, h9, if_neg Bool.false_ne_true]

/-- An available TSS is entered if it is present (R554). -/
theorem gateTss_enters (h9 : (s.descAt ta).isSystem 9#4 = true) (c : SwitchCause) :
    (do let e ← gateTss x false; taskSwitch c x e : M Unit) s = enterTss c x (s.descAt ta) s := by
  cases hpr : (s.descAt ta).p
  case true =>
    rw [bind_of_ok (gateTss_plain hp ⟨hti, hidx, he, h9, hpr⟩ false), enterTss, require_bind, if_pos hpr]
  case false =>
    have habs : gateTss x false s = .error (.exc ⟨vNP, selCode x false⟩) s := by
      rw [gateTss, require_bind, hti, Bool.not_false, Bool.true_and, if_pos (bne_iff_ne.2 hidx), bind_of_ok (fetchDescOr_plain hp he ..),
        isSystem_other h9 (by decide), isSystem_other h9 (by decide), if_neg (by decide), require_bind, if_pos h9, require_bind, hpr,
        if_neg Bool.false_ne_true]
    rw [bind_of_error habs, enterTss, require_bind, hpr, if_neg Bool.false_ne_true]

end

/-! ## The instructions -/

section
variable {s : State} {kind : FarKind} {sel : BitVec 16} {off la : BitVec 32} (hp : s.plain = true) (hn : nullSel sel = false)
  (he : s.entryAddr sel = some la)
include hp hn he

theorem farProtected_tss (h : (s.descAt la).isSystem 9#4 = true ∨ (s.descAt la).isSystem 0xB#4 = true) :
    farProtected kind sel off s = (do viaTss kind.cause sel (s.descAt la); pure Done.keepRF) s := by
  have hother (k : BitVec 4) (h9 : 9#4 ≠ k) (hB : 0xB#4 ≠ k) : ¬ (s.descAt la).isSystem k = true :=
    Bool.eq_false_iff.1 (h.elim (fun h => isSystem_other h h9) fun h => isSystem_other h hB)
  rw [farProtected_noCode hp hn he (h.elim isCode_of_isSystem isCode_of_isSystem)]
  exact congrFun ((if_neg (hother _ (by decide) (by decide))).trans ((if_neg (hother _ (by decide) (by decide))).trans
    (if_pos (Bool.or_eq_true_iff.2 h)))) s

theorem farProtected_taskGate (h : (s.descAt la).isSystem 5#4 = true) :
    farProtected kind sel off s = (do viaTaskGate kind.cause sel (s.descAt la); pure Done.keepRF) s := by
  rw [farProtected_noCode hp hn he (isCode_of_isSystem h)]
  exact congrFun ((if_neg (Bool.eq_false_iff.1 (isSystem_other h (by decide)))).trans (if_pos h)) s

end

section
variable {s : State} {c : SwitchCause} {x : BitVec 16} {e : Desc}

theorem taskSwitch_short (hlim : e.limit.toNat < 103) : taskSwitch c x e s = .error (.exc ⟨vTS, selCode x false⟩) s := by
  have hcore (f : Eflags) : taskSwitchCore c x e false s.eipNext f s = .error (.exc ⟨vTS, selCode x false⟩) s := by
    rw [taskSwitchCore_eq, require_bind, if_neg (by simpa using hlim)]
  rw [taskSwitch, bind_of_ok (getS_apply s), bind_of_error (hcore _)]

theorem taskSwitch_late {y : Halt} {s1 : State} (h : taskSwitchCore c x e false s.eipNext s.flags s = .error y s1) :
    taskSwitch c x e s = .error y s1 := by
  rw [taskSwitch, bind_of_ok (getS_apply s), bind_of_error h]

end

/-! An instruction whose body comes to the entry of an available TSS. -/

section
variable {s : State} {c : SwitchCause} {x : BitVec 16} {e : Desc} {body : M Done} (hl : s.pfx.lock = false)
  (hb : body s = (do enterTss c x e; pure Done.keepRF) s)
include hl hb

theorem runTss_absent (hpr : e.p = false) : runInstr false body s = s.takes s 11#8 (selCode x false) := by
  have habs : enterTss c x e s = .error (.exc ⟨vNP, selCode x false⟩) s := by
    rw [enterTss, require_bind, hpr, if_neg Bool.false_ne_true]
  exact runInstr_of_error (.inl hl) (hb.trans (bind_of_error habs))

variable (hpr : e.p = true)
include hpr

theorem runTss_of_error {y : Halt} {s1 : State} (h : taskSwitch c x e s = .error y s1) :
    runInstr false body s = outcomeOf s (.error y s1) := by
  refine runInstr_of_error (.inl hl) (hb.trans (bind_of_error ?_))
  rw [enterTss, require_bind, if_pos hpr, h]

theorem runTss_of_ok {s1 : State} (h : taskSwitch c x e s = .ok () s1) : runInstr false body s = .next (s1.finished .keepRF) := by
  have henter : enterTss c x e s = .ok () s1 := by rw [enterTss, require_bind, if_pos hpr, h]
  exact runInstr_of_ok (.inl hl) (hb.trans (bind_of_ok henter))

end

/-- JMP and CALL differ in the cause of the switch. -/
theorem exec_far_of_cause {i : Instr} {c : SwitchCause} {off : BitVec 32} {sel : BitVec 16}
    (h : i = .jmpFarAp off sel ∧ c = .jmp ∨ i = .callFarAp off sel ∧ c = .call) :
    ∃ kind : FarKind, kind.cause = c ∧ ∀ s, exec i s = runInstr false (farTransfer kind sel off) s := by
  rcases h with ⟨rfl, rfl⟩ | ⟨rfl, rfl⟩
  · exact ⟨.jmp, rfl, fun _ => rfl⟩
  · exact ⟨.call, rfl, fun _ => rfl⟩

/-- Settles O50. -/
theorem taskSwitches : Obligations.TaskSwitches := by
  refine ⟨?saves, ?commits, ?loads, ?enters, ?instructions⟩
  case saves =>
    intro s base eip fl hp hwf
    have hd {i : Nat} (hi : i < 10) := taskSaved_dword base eip fl hp hwf (i := i) hi
    have hs {i : Nat} (hi : i < 6) := taskSaved_sel base eip fl hp hwf (i := i) hi
    exact ⟨_, saveTask_plain base eip fl hp, taskSaved_only_mem base eip fl hp, hd (i := 0) (by decide), hd (i := 1) (by decide),
      hd (i := 2) (by decide), hd (i := 3) (by decide), hd (i := 4) (by decide), hd (i := 5) (by decide), hd (i := 6) (by decide),
      hd (i := 7) (by decide), hd (i := 8) (by decide), hd (i := 9) (by decide), hs (i := 0) (by decide), hs (i := 1) (by decide),
      hs (i := 2) (by decide), hs (i := 3) (by decide), hs (i := 4) (by decide), hs (i := 5) (by decide), sameBytes_taskSaved base eip fl⟩
  case commits =>
    intro c nsel nd ext e f s u hp hlim hsave
    exact (taskSwitchCore_commits hp hlim hsave).trans (congrArg _ (committed_eq ((touches_saveTask _ _ _).ok hsave) c nsel nd))
  case loads =>
    intro c s nb hp fl hvm
    have hl := load_drawn hp (s.draws + 1)
    have h32 (a : BitVec 32) : (s.drawn (s.draws + 1)).phys32 a = s.phys32 a := hl 32 _
    have hgpr : (s.drawn (s.draws + 1)).tssGpr nb = s.tssGpr nb := by simp only [State.tssGpr, h32]
    have hflags : c.flags (Eflags.ofBits ((s.drawn (s.draws + 1)).phys32 (nb + 0x24#32))) =
        { fl with NT := if c = .call ∨ c = .int then true else if c = .jmp then false else fl.NT } := by
      rw [h32]
      cases c <;> rfl
    exact ⟨_, loadTask_plain hp c nb hvm, rfl, hgpr, h32 _, hflags, hl 16 _, hl 16 _, hl 16 _, hl 16 _, hl 16 _, hl 16 _, hl 16 _, rfl⟩
  case enters =>
    intro c nsel nd ext e f s t h
    obtain ⟨hlim, ⟨hsys, hnext, hcpl, hvm, hnests, hjmp⟩, hin, hqueue, hss, hsti⟩ :=
      ensures_taskSwitchCore c nsel nd ext e f s.system s t () rfl h
    exact ⟨hlim, congrArg SystemView.tr hsys, congrArg SystemView.cr0 hsys, hcpl, hvm, hnests, hjmp, hin, hnext, congrArg SystemView.dr7 hsys,
      congrArg SystemView.gdtr hsys, congrArg SystemView.idtr hsys, hqueue, hss, hsti⟩
  case instructions =>
    intro i c off sel s la hi hm hp hn he d trusted takes enters
    obtain ⟨kind, hcause, hexec⟩ := exec_far_of_cause hi
    obtain ⟨-, -, -, hl⟩ := s.plain_iff.1 hp
    have hfails {v : BitVec 8} {x : BitVec 16} (h : farProtected kind sel off s = .error (.exc ⟨v, selCode x false⟩) s) : takes v x :=
      (hexec s).trans (run_far_of_error hm hl h)
    have henters {x : BitVec 16} {e : Desc}
        (h : farProtected kind sel off s = (do enterTss c x e; pure Done.keepRF) s) : enters x e := by
      have hb := (farTransfer_protected hm kind sel off).trans h
      refine ⟨fun hpr => ?_, fun hpr hlim => ?_, fun hpr hlim => ⟨fun s1 hcore hp1 => ?_, fun y s1 hcore => ?_⟩⟩
      · exact (hexec s).trans (runTss_absent hl hb hpr)
      · exact (hexec s).trans (runTss_of_error hl hb hpr (taskSwitch_short hlim))
      · exact (hexec s).trans (runTss_of_ok hl hb hpr (taskSwitch_of_core hcore hp1))
      · exact (hexec s).trans (runTss_of_error hl hb hpr (taskSwitch_late hcore))
    refine ⟨fun hsys => ⟨fun h => ?tssRefused, fun hti ht h9 => ?tss⟩, fun hsys => ⟨fun ht => ?untrusted, fun ht hpr => ?absent,
      fun ht hpr h => ?selRefused, fun ta ht hpr hti hidx hta => ⟨fun h9 h1 h3 => ?otherType, fun h9 => ?gate⟩⟩⟩
    case tssRefused =>
      have hno : tiOf sel = true ∨ ¬ s.trusts sel d ∨ d.isSystem 9#4 = false :=
        h.imp_right (Or.imp_right fun hB => isSystem_other hB (by decide))
      exact hfails ((farProtected_tss hp hn he hsys).trans (bind_of_error (viaTss_refuses hno)))
    case tss =>
      refine henters ((farProtected_tss hp hn he hsys).trans ?_)
      rw [bind_apply, bind_apply, hcause, viaTss_enters hti ht h9]
    case untrusted => exact hfails ((farProtected_taskGate hp hn he hsys).trans (bind_of_error (viaTaskGate_untrusted ht)))
    case absent => exact hfails ((farProtected_taskGate hp hn he hsys).trans (bind_of_error (viaTaskGate_absent ht hpr)))
    case selRefused =>
      exact hfails ((farProtected_taskGate hp hn he hsys).trans
        (bind_of_error ((viaTaskGate_open ht hpr).trans (bind_of_error (gateTss_refuses h)))))
    case otherType =>
      exact hfails ((farProtected_taskGate hp hn he hsys).trans
        (bind_of_error ((viaTaskGate_open ht hpr).trans (bind_of_error (gateTss_otherType hp hti hidx hta h9 h1 h3)))))
    case gate =>
      refine henters ((farProtected_taskGate hp hn he hsys).trans ?_)
      rw [bind_apply, bind_apply, hcause, viaTaskGate_open ht hpr, gateTss_enters hp hti hidx hta h9]

end Sys2Proof.Machine
end
